-- ==== Sys2Proof/Word.lean ====
section
/-! DEFINITION. Byte and word types and their plainest arithmetic. -/
namespace Sys2Proof

/-- One byte of a packet, a record or a store region. -/
abbrev Byte := BitVec 8

/-- A parameter value (R507): 32 bits. -/
abbrev Word := BitVec 32

end Sys2Proof
end

