-- ==== Sys2Proof/Syntax.lean ====
section
/-! DEFINITION. The commands of the block: one constructor of `Instr` for each row of spec/opcode_table.json, with the
operands that the partner or the surroundings supply. What a sensor, a supply or the die itself delivers at the moment of
an event (a voltage, a count, a bitstream, a damaged word) is an operand of that event's row (log entry 1). -/
namespace Sys2Proof

/-- A request of the Joros protocol that reached a port in a well-formed packet (R134): the port, the tag and the
parameter bytes. The opcode is the row's. -/
structure Request where
  /-- Port 0 to 2, or 3 for the mailbox of the test access port (R133). -/
  port : Nat
  /-- TAG. -/
  tag : BitVec 16
  /-- PARAMS, PLEN bytes. -/
  params : List Byte
  deriving DecidableEq, Repr

/-- The modulator output of one channel over one sample period: 64 bits, bit i taken as +1 when set and -1 when clear,
bit 0 first (R185), and whether the integrator limit was reached in these 64 clocks (R168). -/
structure ModWord where
  bits : BitVec 64
  limit : Bool := false
  deriving DecidableEq, Repr

/-- One bit of a fabric or output word that a round inverts on its way through Q0 to Q7, Q10 or Q11 (R23): the queue, the
channel whose words they are, the word among those that the channel sends in the round, and the wire bit: the data bits
first, then the poison bit and the parity bit. -/
structure WordUpset where
  queue : Nat
  chan : Nat
  word : Nat
  bit : Nat
  deriving DecidableEq, Repr

/-- What reaches the device during one round (R216): the modulator words of the sampled channels, slot by slot, the bits of
queue words that the round inverts (R23), the queues of which a credit return arrives with bad parity (R29), the slices of
the list built now that do not finish in their round (R225) as channels and points, and whether a critical-path monitor
reports a short margin (R224). -/
structure RoundInput where
  mods : List (Nat × List ModWord) := []
  upsets : List WordUpset := []
  lost : List Nat := []
  lateChans : List Nat := []
  latePoints : List Nat := []
  short : Bool := false
  deriving DecidableEq, Repr

/-- The phases of a job of the store writer (R369). -/
inductive JobPhase where
  | void
  | data
  | mark
  deriving DecidableEq, Repr

/-- Where the supply fails inside a job (R373): the phase reached, the words of it written (mark words, or words of the job's data), and
whether the word in flight holds what it held before in a void or data phase, or its final value in a mark phase. -/
structure JobCut where
  phase : JobPhase := .void
  words : Nat := 0
  kept : Bool := true
  deriving DecidableEq, Repr

/-- What the supply does during an adjournment (R76 to R80). -/
structure AdjInput where
  /-- S_stop, the first sample that is not metered. -/
  sStop : Nat
  /-- The samples of the round in progress up to S_stop - 1. -/
  last : RoundInput := {}
  /-- VHOLD at the marker write, mV. -/
  vholdMv : Nat
  /-- VBAT, mV. -/
  vbatMv : Nat
  /-- VMAIN has returned by the end of step 5. -/
  vmainBack : Bool := false
  /-- Energy used by steps 0 to 4, in uJ. -/
  energyUj : Nat := 0
  /-- When the supply fails inside the save (R373): the number of store jobs that end before it. -/
  cut : Option Nat := none
  /-- Where it fails inside the next job. -/
  cutIn : JobCut := {}
  /-- VHOLD at the checks of R371 while a job of the save starts or waits, mV; where the list ends on a check that fails, the supply fails
  while the job waits, and a job that starts after its end passes. -/
  levels : List Nat := []
  deriving DecidableEq, Repr

/-- The supply at a start (R86) and how far the start runs (R90). -/
structure StartInput where
  vmainMv : Nat
  vholdMv : Nat
  vddioMv : Nat := 3300
  /-- A square-wave clock drives XIN (R57). -/
  extClock : Bool := false
  /-- RESET_N is low when step 2 is reached (R116). -/
  resetNLow : Bool := false
  /-- The last step of R90 that the start reaches, 1 to 5; below 5 it may still be abandoned (R100). -/
  upTo : Nat := 5
  deriving DecidableEq, Repr

/-- What the hold-up health test measures (R67): microvolts at 0.5 ms and 5.0 ms, the mean buck input current in
microamperes, and the step of VHOLD at the release of the sink in microvolts. -/
structure HealthMeasure where
  vaUv : Nat
  vbUv : Nat
  idevUa : Nat
  stepUv : Nat
  deriving DecidableEq, Repr

/-- One read of a store word by the scrubber (R389): what the error correction reports and whether the data read are
those of the normal reference. -/
inductive WordRead where
  | good | corrected | void | uncorrectable | goodOther | voidOther
  deriving DecidableEq, Repr

/-- What the always-on domain samples (R422 to R426): the levels of TAMP0 to TAMP3 and of TAMP4 to TAMP7 as read, and
whether a photodiode exceeds its limit. -/
structure TamperLevels where
  loops : List Bool := []
  switches : List Bool := []
  light : Bool := false
  deriving DecidableEq, Repr

/-- What a debugger does through the DEBUG register at the level granted (R109): nothing but select it; at D1 read the word at a
place of a queue, a byte of the control core's data RAM or a word of the retention SRAM, with the bits of it that the memory has
inverted (R38); at D2 also halt, step and run the control core, write data RAM, and send a
word into a queue. -/
inductive DebugOp where
  | select
  | readQueue (queue place : Nat)
  | readRam (address : Nat)
  | readSram (word : Nat) (flips : List Nat)
  | halt
  | step
  | run
  | writeRam (address : Nat) (bytes : List Byte)
  | inject (queue data : Nat)
  deriving DecidableEq, Repr

/-- The commands: one constructor per row of spec/opcode_table.json. An operand with a default is one that a sender may leave out
(log entry 1). -/
inductive Instr where
  /-- GET_IDENTITY (R157). -/
  | getIdentity (r : Request)
  /-- GET_STATUS (R158). -/
  | getStatus (r : Request)
  /-- SET_MODE (R104). -/
  | setMode (r : Request)
  /-- RESET_CMD (R117). -/
  | resetCmd (r : Request)
  /-- RESET_CMD_START (R117), with VDDIO_H in mV (R51). -/
  | resetCmdStart (vddio : Nat := 3300)
  /-- READ_NOTIFY (R154). -/
  | readNotify (r : Request)
  /-- ACK_EVENTS (R155). -/
  | ackEvents (r : Request)
  /-- SET_EVENT_MASK (R156). -/
  | setEventMask (r : Request)
  /-- GET_PARAM (R501). -/
  | getParam (r : Request)
  /-- SET_PARAM (R502). -/
  | setParam (r : Request)
  /-- GET_PARAM_BLOCK (R504). -/
  | getParamBlock (r : Request)
  /-- SET_PARAM_BLOCK (R505). -/
  | setParamBlock (r : Request)
  /-- COMMIT_PARAMS (R506). -/
  | commitParams (r : Request)
  /-- CAP_SERVICE (R493). -/
  | capService (on : Bool)
  /-- VBAT_MEASURE (R493). -/
  | vbatMeasure (mv : Nat)
  /-- LOAD_FIR_BANK (R206). -/
  | loadFirBank (r : Request)
  /-- BIND_MP (R248). -/
  | bindMp (r : Request)
  /-- UNBIND_MP (R249). -/
  | unbindMp (r : Request)
  /-- READ_REGISTERS (R272). -/
  | readRegisters (r : Request)
  /-- READ_INSTANT (R273). -/
  | readInstant (r : Request)
  /-- SET_BALANCE_GROUP (R270). -/
  | setBalanceGroup (r : Request)
  /-- PULSE_ASSIGN (R267). -/
  | pulseAssign (r : Request)
  /-- SET_TIME (R332). -/
  | setTime (r : Request)
  /-- ADJUST_TIME (R331). -/
  | adjustTime (r : Request)
  /-- SLEW_COMPLETE (R331). -/
  | slewComplete
  /-- LOAD_PLAN (R315). -/
  | loadPlan (r : Request)
  /-- READ_BOUNDARIES (R337). -/
  | readBoundaries (r : Request)
  /-- BILLING_CLOSE (R329). -/
  | billingClose (r : Request)
  /-- DEMAND_RESET (R325). -/
  | demandReset (r : Request)
  /-- SUBMIT_TOKEN (R355). -/
  | submitToken (r : Request)
  /-- TOKEN_APPLY (R353). -/
  | tokenApply
  /-- TOKEN_LOCKOUT_END (R354). -/
  | tokenLockoutEnd (mp : Nat)
  /-- READ_CREDIT (R356). -/
  | readCredit (r : Request)
  /-- RELAY_COMMAND (R357). -/
  | relayCommand (r : Request)
  /-- RELAY_OVERRIDE_END (R357). -/
  | relayOverrideEnd (mp : Nat)
  /-- RELAY_TEST_END (R344). -/
  | relayTestEnd (mp : Nat)
  /-- RECONNECT_ARM (R358). -/
  | reconnectArm (r : Request)
  /-- SET_CREDIT_POLICY (R359). -/
  | setCreditPolicy (r : Request)
  /-- POWER_LIMIT_HOLD_END (R345). -/
  | powerLimitHoldEnd (mp : Nat)
  /-- READ_PROFILE (R395). -/
  | readProfile (r : Request)
  /-- READ_SNAPSHOT (R396). -/
  | readSnapshot (r : Request)
  /-- READ_EVENTS (R410). -/
  | readEvents (r : Request)
  /-- FREEZE_LOG (R411). -/
  | freezeLog (r : Request)
  /-- UNFREEZE_LOG (R412). -/
  | unfreezeLog (r : Request)
  /-- LOG_FREEZE_TIMEOUT (R409). -/
  | logFreezeTimeout
  /-- STORE_STATUS (R394). -/
  | storeStatus (r : Request)
  /-- SCRUB_NOW (R392). -/
  | scrubNow (r : Request)
  /-- CHECKPOINT_NOW (R388). -/
  | checkpointNow (r : Request)
  /-- HOST_AREA (R397). -/
  | hostArea (r : Request)
  /-- READ_PQ (R297). -/
  | readPq (r : Request)
  /-- READ_HARMONICS (R298). -/
  | readHarmonics (r : Request)
  /-- ARM_CAPTURE (R299). -/
  | armCapture (r : Request)
  /-- READ_CAPTURE (R300). -/
  | readCapture (r : Request)
  /-- CAPTURE_COMPLETE (R291). -/
  | captureComplete
  /-- CAL_WRITE (R467). -/
  | calWrite (r : Request)
  /-- CAL_MEASURE (R468). -/
  | calMeasure (r : Request)
  /-- SPOT_CHECK (R184). -/
  | spotCheck (r : Request)
  /-- SEAL (R469). -/
  | seal (r : Request)
  /-- ATTEST (R470). -/
  | attest (r : Request)
  /-- SIGN_READING (R472). -/
  | signReading (r : Request)
  /-- LOAD_KEYS (R463). -/
  | loadKeys (r : Request)
  /-- GET_CERTS (R473). -/
  | getCerts (r : Request)
  /-- DEBUG_AUTH (R474). -/
  | debugAuth (r : Request)
  /-- DEBUG_LEVEL_EXPIRY (R474). -/
  | debugLevelExpiry
  /-- ZEROISE (R475). -/
  | zeroise (r : Request)
  /-- IMAGE_BEGIN (R478). -/
  | imageBegin (r : Request)
  /-- IMAGE_DATA (R479). -/
  | imageData (r : Request)
  /-- IMAGE_END (R481). -/
  | imageEnd (r : Request)
  /-- IMAGE_SESSION_TIMEOUT (R480). -/
  | imageSessionTimeout
  /-- IMAGE_ACTIVATE (R482). -/
  | imageActivate (r : Request)
  /-- CONTROL_CORE_SWITCH (R483). -/
  | controlCoreSwitch (vddio : Nat := 3300)
  /-- CONTROL_CORE_FALLBACK (R484). -/
  | controlCoreFallback (vddio : Nat := 3300)
  /-- UCODE_ACTIVATE (R485). -/
  | ucodeActivate (r : Request)
  /-- UCODE_SWITCH (R485). -/
  | ucodeSwitch
  /-- REMAP_CHANNEL (R486). -/
  | remapChannel (r : Request)
  /-- REMAP_EFFECT (R487). -/
  | remapEffect
  /-- RETIRE_ISLAND (R489). -/
  | retireIsland (r : Request)
  /-- RESTORE_ISLAND (R490). -/
  | restoreIsland (r : Request)
  /-- LANE_TEST (R491). -/
  | laneTest (r : Request)
  /-- HOLDUP_TEST (R71). -/
  | holdupTest (r : Request)
  /-- POLL_HANDLE (R146). -/
  | pollHandle (r : Request)
  /-- CANCEL_HANDLE (R147). -/
  | cancelHandle (r : Request)
  /-- READ_COMPLETIONS (R148). -/
  | readCompletions (r : Request)
  /-- READ_PORT_STATUS (R123). -/
  | readPortStatus (port : Nat)
  /-- WRITE_PACKET (R124). -/
  | writePacket (port : Nat) (bytes : List Byte)
  /-- WRITE_PACKET_Q (R122). -/
  | writePacketQ (port : Nat) (bytes : List Byte)
  /-- READ_PACKET (R125). -/
  | readPacket (port : Nat) (clocked : Nat)
  /-- READ_PACKET_Q (R122). -/
  | readPacketQ (port : Nat) (clocked : Nat)
  /-- SPI_UNKNOWN_INSTRUCTION (R141). -/
  | spiUnknownInstruction (port : Nat) (code : BitVec 8 := 0)
  /-- AUX_FRAME (R127): the characters before the delimiter, and whether the stop bit of each reads low. -/
  | auxFrame (chars : List Byte) (low : List Bool)
  /-- AUX_BREAK (R128). -/
  | auxBreak (ms : Nat)
  /-- AUX_REPLY_SENT (R138). -/
  | auxReplySent
  /-- JOROS_MAILBOX (R133). -/
  | jorosMailbox (capture : Bool) (reg : BitVec 10)
  /-- IDCODE (R132). -/
  | idcode
  /-- SAMPLE_PRELOAD (R131). -/
  | samplePreload (pins : List Bool) (preload : List Bool)
  /-- EXTEST (R131): the levels at the balls. -/
  | extest (pins : List Bool := [])
  /-- CLAMP (R131). -/
  | clamp
  /-- HIGHZ (R131). -/
  | highz
  /-- DEBUG (R131). -/
  | debug (op : DebugOp := .select)
  /-- BYPASS (R131). -/
  | bypass (code : BitVec 8)
  /-- TRST_N (R115). -/
  | trstN
  /-- RESET_N (R116), with VDDIO_H in mV (R51). -/
  | resetN (vddio : Nat := 3300)
  /-- WATCHDOG_EXPIRY (R36). -/
  | watchdogExpiry (vddio : Nat := 3300)
  /-- CONTROL_PLANE_READY (R140). -/
  | controlPlaneReady
  /-- CAL_LINK (R130): the 1 ms samples of the ball, true where it reads low. -/
  | calLink (samples : List Bool)
  /-- CAL_LINK_OPEN_TIMEOUT (R101). -/
  | calLinkOpenTimeout
  /-- CALIBRATE_TIMEOUT (R101). -/
  | calibrateTimeout
  /-- PFAIL (R72). -/
  | pfail (vmain vhold : Nat)
  /-- FULL_METERING_RETURN (R75). -/
  | fullMeteringReturn (vmain : Nat)
  /-- RIDE_THROUGH_END (R74). -/
  | rideThroughEnd (vhold : Nat)
  /-- ADJOURNMENT (R77). -/
  | adjournment (a : AdjInput)
  /-- START_CONDITION (R90). -/
  | startCondition (a : StartInput)
  /-- START_ABANDONED (R100). -/
  | startAbandoned (vhold : Nat := 0)
  /-- VAON_LOSS (R305). -/
  | vaonLoss
  /-- HEALTH_TEST_START (R67). -/
  | healthTestStart (vmain vhold : Nat)
  /-- HEALTH_TEST_COMPLETE (R69). -/
  | healthTestComplete (m : HealthMeasure)
  /-- VBAT_MEASUREMENT (R92). -/
  | vbatMeasurement (mv : Nat) (vhold : Nat := 0)
  /-- CHECKPOINT (R85). -/
  | checkpoint
  /-- REFERENCE_WINDOW (R21). -/
  | referenceWindow (count : Nat)
  /-- TEMPERATURE_REDUCTION (R62). -/
  | temperatureReduction (t16 : Int)
  /-- TEMPERATURE_RECOVERY (R62). -/
  | temperatureRecovery (t16 : Int)
  /-- CREDIT_RESYNC (R29). -/
  | creditResync (q : Nat)
  /-- NOTICE (R34). -/
  | notice (code : Nat := 0)
  /-- ROUND_BOUNDARY (R217). -/
  | roundBoundary (a : RoundInput)
  /-- NO_CROSSING (R276). -/
  | noCrossing (ch : Nat)
  /-- CYCLE_COMMIT (R229). -/
  | cycleCommit (mp : Nat)
  /-- CYCLE_COMMIT_DEADLINE (R230). -/
  | cycleCommitDeadline (mp : Nat)
  /-- SEGMENT_RECORD (R257). -/
  | segmentRecord (upsets : List (Nat × Nat))
  /-- LANE_SELF_TEST (R240). -/
  | laneSelfTest (pair : Nat) (sigs : Nat × Nat)
  /-- ISLAND_SUPPLY_CHECK (R172). -/
  | islandSupplyCheck (isl : Nat) (vrefPpm avddPpm : Int) (t16 : Int)
  /-- OVERLOAD_EPISODE_END (R169). -/
  | overloadEpisodeEnd (ch : Nat)
  /-- URGENT_REQUEST (R181). -/
  | urgentRequest (upset : Bool := false)
  /-- SECOND_INTEGRATION_END (R178). -/
  | secondIntegrationEnd (isl : Nat) (b : Bool) (count : Nat) (upset : Bool := false)
  /-- SECOND_SELF_TEST (R180). -/
  | secondSelfTest (isl : Nat) (b : Bool) (cHalf cZero : Nat)
  /-- PQ_ITEM (R282). -/
  | pqItem (upsets : List (Nat × Nat))
  /-- FREQUENCY_WINDOW_END (R279). -/
  | frequencyWindowEnd (ch : Nat)
  /-- HARMONIC_WINDOW_END (R286). -/
  | harmonicWindowEnd (ch : Nat)
  /-- COALESCE_WINDOW_CLOSE (R294). -/
  | coalesceWindowClose
  /-- BOUNDARY_FREEZE (R307). -/
  | boundaryFreeze
  /-- ANCHOR (R306). -/
  | anchor
  /-- BOUNDARY_COMMIT (R320). -/
  | boundaryCommit
  /-- BOUNDARY_SIGNING (R328). -/
  | boundarySigning
  /-- BOUNDARY_TABLE_REFILL (R318). -/
  | boundaryTableRefill
  /-- BOUNDARY_TABLE_LOW (R318). -/
  | boundaryTableLow
  /-- ZONE_CHANGE (R516). -/
  | zoneChange
  /-- RTC_CORRECTION (R303). -/
  | rtcCorrection (t16 : Int)
  /-- RTC_DRIFT_CHECK (R304). -/
  | rtcDriftCheck
  /-- BALANCE_WINDOW (R271). -/
  | balanceWindow (g : Nat)
  /-- PULSE_EDGE (R269). -/
  | pulseEdge (out : Nat)
  /-- RELAY_REFRESH (R363): the bits sampled on RLY_DI, in order. -/
  | relayRefresh (di : List Bool)
  /-- STORE_JOB_CONFIRM (R369). -/
  | storeJobConfirm (vhold : Nat)
  /-- WRITER_ENERGY_RECHECK (R372). -/
  | writerEnergyRecheck (vhold : Nat)
  /-- SCRUB_WORD (R390). -/
  | scrubWord (normal margin again : WordRead)
  /-- EVENT_GROUP (R399). -/
  | eventGroup (upset : Bool)
  /-- TAMPER_SAMPLE (R422). -/
  | tamperSample (a : TamperLevels)
  /-- SUPPLY_GLITCH (R426). -/
  | supplyGlitch
  /-- RTC_OSCILLATOR_STOP (R426). -/
  | rtcOscillatorStop
  /-- LOCK_EXPIRY (R416). -/
  | lockExpiry
  /-- SECURITY_JOB_DONE (R451). -/
  | securityJobDone (poisoned : Bool)
  /-- SESSION_KEY_EXPIRY (R460). -/
  | sessionKeyExpiry (anchor : Nat)
  /-- ENTROPY_FAILURE (R449). -/
  | entropyFailure
  /-- RESET_N_RELEASE (R116). -/
  | resetNRelease
  /-- SUPPLY_GLITCH_CLEAR (R426). -/
  | supplyGlitchClear
  /-- RTC_OSCILLATOR_RESUMED (R426). -/
  | rtcOscillatorResumed
  deriving DecidableEq, Repr

end Sys2Proof
end

