-- ==== Sys2Proof/Decode.lean ====
section
/-! DEFINITION. The commands that the opcode table spells by bits: none. A Joros request is a packet with its own framing
(R134), which the port operations of Machine/Joros.lean read. -/
namespace Sys2Proof

/-- The command that a word spells by the table's bits: the table of this block gives no row any bits. -/
def decodeTableWord (_nbits _w : Nat) : Option Instr := none

end Sys2Proof
end

