-- ==== Sys2Proof/Machine/Num.lean ====
section
/-! DEFINITION. The arithmetic that the spec's pseudocode uses (00_scope, "Notation"): rounding, roots, saturation. -/
namespace Sys2Proof.Machine

/-- round_half_even(n / d), for d > 0. -/
def roundDiv (n : Int) (d : Nat) : Int :=
  let q := n / (d : Int)
  let r := n % (d : Int)
  if 2 * r < (d : Int) then q
  else if (d : Int) < 2 * r then q + 1
  else if q % 2 = 0 then q else q + 1

/-- round_half_even(n / d) of a non-negative number, for d > 0. -/
def roundDivN (n d : Nat) : Nat := (roundDiv (n : Int) d).toNat

/-- ceil(n / d) of a non-negative number, for d > 0. -/
def ceilDiv (n d : Nat) : Nat := (n + d - 1) / d

/-- The bits of a square root, from bit k downward. -/
def isqrtFrom (n : Nat) : Nat → Nat → Nat
  | 0, r => r
  | k + 1, r => if (r + 2 ^ k) * (r + 2 ^ k) ≤ n then isqrtFrom n k (r + 2 ^ k) else isqrtFrom n k r

/-- floor(sqrt(n)). -/
def isqrt (n : Nat) : Nat := isqrtFrom n (Nat.log2 n / 2 + 1) 0

/-- round_half_even(sqrt(a / b)), for b > 0. -/
def roundSqrt (a b : Nat) : Nat :=
  let q := isqrt (a / b)
  let m := (2 * q + 1) * (2 * q + 1) * b
  if 4 * a < m then q
  else if m < 4 * a then q + 1
  else if q % 2 = 0 then q else q + 1

/-- A value limited to a range. -/
def clampI (lo hi x : Int) : Int := max lo (min hi x)

/-- A signed value saturated at w bits. -/
def satI (w : Nat) (x : Int) : Int := clampI (-(2 ^ (w - 1) : Nat)) ((2 ^ (w - 1) : Nat) - 1) x

/-- An unsigned value saturated at w bits. -/
def satN (w : Nat) (x : Nat) : Nat := min (2 ^ w - 1) x

/-- A saturating count plus one. -/
def incSat (w : Nat) (x : Nat) : Nat := satN w (x + 1)

/-- A value as the two's complement of w bits (R11). -/
def toTwos (w : Nat) (x : Int) : Nat := (x % ((2 ^ w : Nat) : Int)).toNat

/-- The signed value of w bits of two's complement (R11). -/
def ofTwos (w : Nat) (x : Nat) : Int :=
  if x % 2 ^ w < 2 ^ (w - 1) then (x % 2 ^ w : Nat) else ((x % 2 ^ w : Nat) : Int) - (2 ^ w : Nat)

/-- Bit i of a number. -/
def bit (x i : Nat) : Bool := x.testBit i

/-- Bits [i + w - 1 : i] of a number. -/
def bits (x i w : Nat) : Nat := x / 2 ^ i % 2 ^ w

/-- 1 for true. -/
def b2n (b : Bool) : Nat := if b then 1 else 0

/-- The next multiple of d at or after n, for d > 0. -/
def nextMul (n d : Nat) : Nat := ceilDiv n d * d

/-- Whether the low k bits of n hold an odd number of 1 bits: the parity of R23. -/
def parity (n : Nat) : Nat → Bool
  | 0 => false
  | k + 1 => (n.testBit k) != parity n k

/-- Serial comparison of R153: a is not later than b, modulo 2^w. -/
def serialLe (w a b : Nat) : Bool := (b + 2 ^ w - a % 2 ^ w) % 2 ^ w < 2 ^ (w - 1)

end Sys2Proof.Machine
end

