-- ==== Sys2Proof/Machine/Bytes.lean ====
section
/-! DEFINITION. Little-endian fields of packets and records (R11). -/
namespace Sys2Proof.Machine

/-- A number as k little-endian bytes. -/
def le : Nat → Nat → List Byte
  | 0, _ => []
  | k + 1, n => BitVec.ofNat 8 n :: le k (n / 256)

/-- A signed number as k little-endian bytes. -/
def leI (k : Nat) (x : Int) : List Byte := le k (toTwos (8 * k) x)

/-- The number held in little-endian bytes. -/
def rd : List Byte → Nat
  | [] => 0
  | b :: r => b.toNat + 256 * rd r

/-- The field of k bytes at an offset. -/
def fld (ps : List Byte) (off k : Nat) : Nat := rd ((ps.drop off).take k)

/-- The signed field of k bytes at an offset. -/
def fldI (ps : List Byte) (off k : Nat) : Int := ofTwos (8 * k) (fld ps off k)

/-- k bytes at an offset. -/
def sub (ps : List Byte) (off k : Nat) : List Byte := (ps.drop off).take k

/-- k zero bytes. -/
def zeros (k : Nat) : List Byte := List.replicate k 0

/-- Bytes brought to length k, filled with zero. -/
def padTo (k : Nat) (ps : List Byte) : List Byte := ps.take k ++ zeros (k - ps.length)

/-- All bytes from an offset on are zero, over k bytes (reserved fields, R13). -/
def isZero (ps : List Byte) (off k : Nat) : Bool := (sub ps off k).all (· == 0)

/-- The numbers of the bits set in the low w bits. -/
def bitsSet (n w : Nat) : List Nat := (List.range w).filter fun i => n.testBit i

/-- The mask whose set bits are the given numbers. -/
def maskOf (ns : List Nat) : Nat := ns.foldl (fun m i => m ||| 2 ^ i) 0

/-- One element of a list replaced; other positions keep their value. -/
def upd {α : Type} (l : List α) (i : Nat) (f : α → α) : List α := l.modify i f

/-- Members of two lists of numbers. -/
def union {α : Type} [DecidableEq α] (a b : List α) : List α := a ++ b.filter fun x => !a.contains x

end Sys2Proof.Machine
end

