-- ==== Sys2Proof/Machine/Crc.lean ====
section
/-! DEFINITION. CRC-32C of R136. -/
namespace Sys2Proof.Machine

/-- One bit of the reflected division by 0x1EDC_6F41. -/
def crcBit (c : BitVec 32) : BitVec 32 :=
  if c.getLsbD 0 then (c >>> 1) ^^^ 0x82F63B78 else c >>> 1

/-- k bits of it. -/
def crcBits : Nat → BitVec 32 → BitVec 32
  | 0, c => c
  | k + 1, c => crcBits k (crcBit c)

/-- One byte taken in. -/
def crcByte (c : BitVec 32) (b : Byte) : BitVec 32 := crcBits 8 (c ^^^ b.setWidth 32)

/-- CRC-32C of a byte string (R136). -/
def crc32c (bs : List Byte) : BitVec 32 := (bs.foldl crcByte 0xFFFFFFFF) ^^^ 0xFFFFFFFF

/-- The mark word of a framed record (R374): CRC, then CRC XOR 0xC3A5_5A3C. -/
def frameMark (body : List Byte) : List Byte :=
  let c := crc32c body
  le 4 c.toNat ++ le 4 (c ^^^ 0xC3A55A3C).toNat

end Sys2Proof.Machine
end

