-- ==== Sys2Proof/Machine/Keccak.lean ====
section
/-! DEFINITION. SHAKE256 and KMAC256, which R446 to R462 name by their standards. PRESUMED: their definition is that of
FIPS 202 and NIST SP 800-185, which the spec cites without stating it (log entry 8). -/
namespace Sys2Proof.Machine.Keccak

/-- One step of the feedback register that gives the round constants: x^8 + x^6 + x^5 + x^4 + 1 over bytes. -/
def clock (r : Nat) : Nat := if 128 ≤ r then (2 * r) % 256 ^^^ 0x71 else 2 * r

/-- The next k low bits of the register, put at the bit positions 0, 1, 3, 7, ... of a word, and the register after them. -/
def constBits : Nat → Nat → Nat → Nat × Nat
  | 0, _, r => (0, r)
  | k + 1, j, r =>
    let y := constBits k (2 * j + 1) (clock r)
    (r % 2 * 2 ^ j + y.1, y.2)

/-- The constants of n rounds from a state of the register: seven bits each. -/
def constants : Nat → Nat → List (BitVec 64)
  | 0, _ => []
  | n + 1, r =>
    let y := constBits 7 0 r
    BitVec.ofNat 64 y.1 :: constants n y.2

/-- The walk over the 24 lanes other than (0, 0): after t steps lane (x, y), at index x + 5 y, is turned left by t (t + 1) / 2. -/
def walk : Nat → Nat → Nat → Nat → List (Nat × Nat)
  | 0, _, _, _ => []
  | n + 1, t, x, y => (x + 5 * y, t * (t + 1) / 2 % 64) :: walk n (t + 1) y ((2 * x + 3 * y) % 5)

/-- The turn of each lane: its index in the state, and by how many bits. -/
def turns : List (Nat × Nat) := (0, 0) :: walk 24 1 1 0

/-- The parity of the column of a lane index. -/
def column (s : List (BitVec 64)) (i : Nat) : BitVec 64 := (List.range 5).foldl (fun v y => v ^^^ s.getD (i % 5 + 5 * y) 0) 0

/-- Each lane with the parities of the columns beside its own added. -/
def mixColumns (s : List (BitVec 64)) : List (BitVec 64) :=
  let cs := (List.range 5).map fun x => column s (x + 4) ^^^ (column s (x + 1)).rotateLeft 1
  s.mapIdx fun i v => v ^^^ cs.getD (i % 5) 0

/-- Each lane turned, and moved from (x, y) to (y, 2 x + 3 y). -/
def moveLanes (s : List (BitVec 64)) : List (BitVec 64) :=
  turns.foldl (fun t e =>
    let x := e.1 % 5
    let y := e.1 / 5
    t.set (y + 5 * ((2 * x + 3 * y) % 5)) ((s.getD e.1 0).rotateLeft e.2)) s

/-- Each row of five lanes through the nonlinear step. -/
def mixRow : List (BitVec 64) → List (BitVec 64)
  | [a, b, c, d, e] => [a ^^^ (c &&& ~~~b), b ^^^ (d &&& ~~~c), c ^^^ (e &&& ~~~d), d ^^^ (a &&& ~~~e), e ^^^ (b &&& ~~~a)]
  | r => r

/-- The rows of a state, each through the nonlinear step. -/
def mixRows : Nat → List (BitVec 64) → List (BitVec 64)
  | 0, _ => []
  | n + 1, s => mixRow (s.take 5) ++ mixRows n (s.drop 5)

/-- Keccak-f[1600]: 24 rounds of the four steps, each ended by its constant in lane (0, 0). -/
def perm (s : List (BitVec 64)) : List (BitVec 64) :=
  (constants 24 1).foldl (fun s k => match mixRows 5 (moveLanes (mixColumns s)) with
    | v :: r => (v ^^^ k) :: r
    | [] => []) s

/-- 136 bytes as 17 lanes. -/
def lanesOf (bs : List Byte) : List (BitVec 64) :=
  (List.range 17).map fun i => BitVec.ofNat 64 (fld bs (8 * i) 8)

/-- Blocks of 136 bytes absorbed one after the other. -/
def absorb : Nat → List Byte → List (BitVec 64) → List (BitVec 64)
  | 0, _, s => s
  | k + 1, bs, s =>
    absorb k (bs.drop 136) (perm ((List.range 25).map fun i => s.getD i 0 ^^^ (lanesOf (bs.take 136)).getD i 0))

/-- Output bytes of k blocks. -/
def squeeze : Nat → List (BitVec 64) → List Byte
  | 0, _ => []
  | k + 1, s => ((s.take 17).map fun l => le 8 l.toNat).flatten ++ squeeze k (perm s)

/-- The sponge at rate 136 with a domain byte. -/
def sponge (domain : Byte) (msg : List Byte) (n : Nat) : List Byte :=
  let k := msg.length / 136 + 1
  let fill := 136 * k - msg.length
  let pad : List Byte := if fill = 1 then [domain ||| 0x80] else domain :: zeros (fill - 2) ++ [0x80]
  (squeeze (n / 136 + 1) (absorb k (msg ++ pad) (List.replicate 25 0))).take n

/-- The big-endian bytes of a number, at least one. -/
def beBytes (n : Nat) : List Byte := (le (Nat.log2 n / 8 + 1) n).reverse

/-- left_encode of SP 800-185. -/
def leftEncode (n : Nat) : List Byte := BitVec.ofNat 8 (beBytes n).length :: beBytes n

/-- right_encode of SP 800-185. -/
def rightEncode (n : Nat) : List Byte := beBytes n ++ [BitVec.ofNat 8 (beBytes n).length]

/-- encode_string of SP 800-185. -/
def encodeString (s : List Byte) : List Byte := leftEncode (8 * s.length) ++ s

/-- bytepad of SP 800-185 at rate 136. -/
def bytepad (s : List Byte) : List Byte :=
  let x := leftEncode 136 ++ s
  x ++ zeros ((136 - x.length % 136) % 136)

/-- The bytes of an ASCII string. -/
def ascii (s : String) : List Byte := s.toList.map fun c => BitVec.ofNat 8 c.toNat

end Sys2Proof.Machine.Keccak

namespace Sys2Proof.Machine

/-- SHAKE256 with n output bytes. -/
def shake256 (msg : List Byte) (n : Nat) : List Byte := Keccak.sponge 0x1F msg n

/-- KMAC256 with a customisation string and n output bytes. -/
def kmac256 (key msg : List Byte) (n : Nat) (custom : String) : List Byte :=
  Keccak.sponge 0x04
    (Keccak.bytepad (Keccak.encodeString (Keccak.ascii "KMAC") ++ Keccak.encodeString (Keccak.ascii custom))
      ++ Keccak.bytepad (Keccak.encodeString key) ++ msg ++ Keccak.rightEncode (8 * n)) n

end Sys2Proof.Machine
end

