-- ==== Sys2Proof/Config.lean ====
section
/-! DEFINITION. What the spec leaves open, as constants without a body: no proof can use a value of one. -/
namespace Sys2Proof.Config

/-- The values that the spec leaves undefined (log entry 6): the n-th free value the model draws. -/
opaque freeValue : Nat → Nat

/-- A free byte string of a given length: the n-th one the model draws (log entry 6). -/
opaque freeBytes : Nat → List Byte

/-- Coefficient l, 0 to 95, of the factory filter in bank 0 (R199: not part of the specification; log entry 10). -/
opaque factoryCoeff : Nat → Int

/-- The factory reference trim of island n (R171: particular to the device; log entry 10). -/
opaque vrefTrim : Nat → BitVec 16

/-- The vendor firmware public key, whose digest is programmed at wafer test (R446; log entry 10). -/
opaque vendorKey : List Byte

/-- The packages delivered in slots A: 0 control core, 1 microcode (R519; log entry 23). -/
opaque deliveredPackage : Nat → List Byte

/-- ML-DSA.KeyGen_internal of FIPS 204: the public key derived from the identity seed (R448; log entry 7). -/
opaque mlDsaPublic : List Byte → List Byte

/-- HashML-DSA-65 signing under the key of an identity seed, with a context string and hedging randomness (R450). -/
opaque mlDsaSign : (seed context randomness message : List Byte) → List Byte

/-- HashML-DSA-65 verification: public key, context string, message, signature (R450). -/
opaque mlDsaVerify : (key context message sig : List Byte) → Bool

/-- The ML-KEM-768 encapsulation key of a transport seed (R448). -/
opaque mlKemPublic : List Byte → List Byte

/-- ML-KEM-768 decapsulation under a transport seed (R462). -/
opaque mlKemDecaps : (seed cipher : List Byte) → List Byte

/-- AES-256-GCM decryption: key, nonce, additional data, ciphertext, tag; none when the tag fails (R462). -/
opaque aesGcmDecrypt : (key nonce aad cipher tag : List Byte) → Option (List Byte)

/-- AES-256 of one 16-byte block (FIPS 197, R351). -/
opaque aes256Block : (key block : List Byte) → List Byte

/-- The signature value that the boot ROM holds for the lane test vectors (R240). -/
opaque laneSignature : Nat

end Sys2Proof.Config
end

