-- ==== Sys2Proof/Machine/State.lean ====
section
/-! DEFINITION. The state of the device as plain data, its reset value, and the reasons a step can stop. Each field's
docstring names the rule of spec/ that gives it. -/
namespace Sys2Proof.Machine

/-- Ordering variant (R3). -/
inductive Variant where
  | v512 | v256 | v128 | v064
  deriving DecidableEq, Repr

/-- Temperature grade (R3). -/
inductive Grade where
  | i | x
  deriving DecidableEq, Repr

/-- Supply from which the device runs (R63, R95). -/
inductive PowerSrc where
  | none | vhold | vbat
  deriving DecidableEq, Repr

/-- Health state of the hold-up capacitor (R69). -/
inductive Health where
  | unknown | healthy | unhealthy | insufficient | absent
  deriving DecidableEq, Repr

/-- Progress of the hold-up health test (R67). -/
inductive HealthTest where
  | idle | waiting | running
  deriving DecidableEq, Repr

/-- Operating mode (R95). -/
inductive Mode where
  | dormant | boot | commission | calibrate | meter | degraded | adjourn | watch
  deriving DecidableEq, Repr

/-- Lifecycle state (R107), derived from the three OTP pairs. -/
inductive Lifecycle where
  | manufacture | unsealed | sealed | retired
  deriving DecidableEq, Repr

/-- Debug level (R109). -/
inductive DebugLevel where
  | d0 | d1 | d2
  deriving DecidableEq, Repr

/-- State of the control plane (R33): without supply, held in reset, starting, ready. -/
inductive CpState where
  | down | held | starting | ready
  deriving DecidableEq, Repr

/-- Status codes of R512. -/
inductive Status where
  | ok | accepted | frameCrc | frameLength | unknownOpcode | badParameter | noCredit
  | notInMode | lifecycleForbids | sealed | authorityRequired | signatureInvalid | rollback
  | unitAbsent | unitRetired | capacity | noHandle | resourceBusy
  | tokenMac | tokenUsed | tokenOld | tokenLockout | tokenClass | tokenLimit
  | storeFault | logFrozen | modeChanged | cancelled | abortedPower
  deriving DecidableEq, Repr

/-- What a reply still waits for before the port may send it. -/
inductive Wait where
  | none      -- ready
  | round     -- the next round boundary (R35, R104)
  | store     -- the confirmation of a store job (R372)
  | security  -- a job of the security engine (R451)
  | close     -- the billing close it entered (R329)
  | token     -- the commit unit's application of a token (R353)
  deriving DecidableEq, Repr

/-- Register selected by the test access port, after the conditions of R131. -/
inductive TapMode where
  | idcode | samplePreload | extest | clamp | highz | joros | debug | bypass
  deriving DecidableEq, Repr

/-- Check state of a channel (R173). -/
inductive CheckState where
  | unchecked | good | suspect | failed | unverified
  deriving DecidableEq, Repr

/-- State of the crossing logic of a voltage channel (R275). -/
inductive Polarity where
  | none | neg | pos
  deriving DecidableEq, Repr

/-- Emergency-credit state (R343). -/
inductive EcState where
  | idle | inUse | spent
  deriving DecidableEq, Repr

/-- Relay override in force (R357). -/
inductive RelayOverride where
  | none | forceOpen | forceClose
  deriving DecidableEq, Repr

/-- Reconnect state (R346). -/
inductive Reconnect where
  | closed | opened | awaitArm
  deriving DecidableEq, Repr

/-- Capture state (R291). -/
inductive CaptureState where
  | idle | armed | suspended | post | held
  deriving DecidableEq, Repr

/-- One stored copy of a record: nothing written, damaged, or the record. -/
inductive Slot (α : Type) where
  | blank
  | torn
  | valid (a : α)
  deriving DecidableEq, Repr

/-- One word of a hardware queue: data bits, poison bit, parity bit (R23). -/
structure QWord where
  /-- Data bits of the word (R23). -/
  data : Nat := 0
  /-- Poison bit (R24). -/
  poison : Bool := false
  /-- Makes the number of 1 bits over data, poison and parity even (R23). -/
  parity : Bool := false
  /-- The word is a gap word (R26). -/
  gap : Bool := false
  deriving DecidableEq, Repr

/-- Flow and health state of one queue (R25 to R29). -/
structure QueueStat where
  /-- Credits whose return was dropped for its parity (R29). -/
  lost : Nat := 0
  /-- Producer that the arbiter served last (R27). DESIGN CHOICE at reset, log entry 161. -/
  turn : Nat := 0
  /-- Poisoned words delivered (R28). -/
  poisonCount : Nat := 0
  /-- Gap words delivered (R28). -/
  gapCount : Nat := 0
  /-- A poisoned word has raised EV_QUEUE_POISON since the last acknowledgement (R28). -/
  poisonNotified : Bool := false
  /-- Poisoned words delivered since the previous queue-poison record (R28). -/
  sinceRecord : Nat := 0
  /-- Slot of the last queue-poison record (at most one per second) (R28). -/
  lastRecord : Option Nat := none
  /-- Words a real-time producer has discarded and not yet reported by a gap word (R26). -/
  discarded : Nat := 0
  deriving DecidableEq, Repr

/-- One bit pair of a thermometer (R107, R436). -/
structure OtpPair where
  /-- Bit A programmed (R107). -/
  a : Bool := false
  /-- Bit B programmed (R107). -/
  b : Bool := false
  /-- Bit A is weakly programmed (margin read) (R108). -/
  weakA : Bool := false
  deriving DecidableEq, Repr

/-- What is fixed at manufacture (R3 to R5, R157). -/
structure Fuses where
  /-- Ordering variant (R3). DESIGN CHOICE at reset, log entry 4. -/
  variant : Variant := .v512
  /-- Temperature grade (R3). DESIGN CHOICE at reset, log entry 4. -/
  grade : Grade := .i
  /-- Die revision, IDCODE [31:28] (R132). DESIGN CHOICE at reset, log entry 5. -/
  dieRev : Nat := 0
  /-- Boot ROM version (R157). DESIGN CHOICE at reset, log entry 5. -/
  romVersion : Nat := 0
  /-- Unique device number (R157). DESIGN CHOICE at reset, log entry 5. -/
  deviceId : List Byte := List.replicate 16 0
  deriving DecidableEq, Repr

/-- One-time-programmable memory (R107, R435, R446). -/
structure Otp where
  /-- Lifecycle pair L1 (R107). -/
  l1 : OtpPair := {}
  /-- Lifecycle pair L2 (R107). -/
  l2 : OtpPair := {}
  /-- Lifecycle pair L3 (R107). -/
  l3 : OtpPair := {}
  /-- Evidence counters; an unlisted pair is unprogrammed (R435). -/
  evidence : List (List OtpPair) := List.replicate 16 []
  /-- Rollback thermometer c (R446). -/
  rollback : List OtpPair := []
  /-- Identity seed (R446). -/
  idSeed : Option (List Byte) := none
  /-- Transport seed (R446). -/
  transportSeed : Option (List Byte) := none
  /-- Programmed vendor anchor slots, slot 0 first (R446). DESIGN CHOICE at reset, log entry 10. -/
  vendorAnchors : List (List Byte) := [shake256 Config.vendorKey 32]
  /-- Programmed operations anchor slots (R446). -/
  opsAnchors : List (List Byte) := []
  /-- Programmed metrology anchor slots (R446). -/
  metAnchors : List (List Byte) := []
  deriving DecidableEq, Repr

/-- A long operation named by its port and handle (R142). -/
structure OpRef where
  port : Nat := 0
  handle : Nat := 0
  deriving DecidableEq, Repr

/-- Supply, hold-up capacitor and adjournment bookkeeping (R63 to R94). -/
structure Power where
  /-- Supply from which the device runs (R63). DESIGN CHOICE at reset, log entry 4. -/
  src : PowerSrc := .none
  /-- VMAIN now, mV (R70). DESIGN CHOICE at reset, log entry 5. -/
  vmainMv : Nat := 0
  /-- VHOLD now, mV (R70). DESIGN CHOICE at reset, log entry 5. -/
  vholdMv : Nat := 0
  /-- VBAT at the last measurement, mV (R70). DESIGN CHOICE at reset, log entry 5. -/
  vbatMv : Nat := 0
  /-- VDDIO_H at the last power-up or control-plane reset, mV, 0 while it is absent (R50, R51). DESIGN CHOICE at reset, log entry 5. -/
  vddioMv : Nat := 0
  /-- An external clock on XIN was detected at power-up (R57). DESIGN CHOICE at reset, log entry 5. -/
  extClock : Bool := false
  /-- PFAIL asserted (R72). -/
  pfail : Bool := false
  /-- Lean metering after PFAIL (R73). -/
  lean : Bool := false
  /-- Reduction of work for temperature (R62). -/
  leanTemp : Bool := false
  /-- Slot of the last PFAIL (60 s rule of the health test) (R67). -/
  lastPfail : Option Nat := none
  /-- Slot at which the ride-through timer started (R72). -/
  rideStart : Nat := 0
  /-- Health state of CHOLD (R69). -/
  health : Health := .unknown
  /-- C_measured in uF; 0 before the first test since power-on (R70). -/
  cUf : Nat := 0
  /-- ESR in mOhm (R70). -/
  esrMohm : Nat := 0
  /-- Device time [47:16] of the last completed health test (R70). -/
  healthTime : Nat := 0
  /-- Adjournments completed since first commissioning (R70). -/
  adjCount : Nat := 0
  /-- Runs that ended without a completed adjournment (R70). -/
  incompleteCount : Nat := 0
  /-- Health test: idle, waiting for its conditions, running (R67). -/
  test : HealthTest := .idle
  /-- Slot at which the waiting test was requested (R71). -/
  testSince : Nat := 0
  /-- HOLDUP_TEST operation served by the test (R71). -/
  testOp : Option OpRef := none
  /-- Slot of completion of the last test (24 h period) (R67). -/
  lastTest : Nat := 0
  /-- Slot at which the previous checkpoint started (R85). -/
  ckptStart : Nat := 0
  /-- A checkpoint is due at the next round boundary (R85). -/
  ckptNow : Bool := false
  /-- CHECKPOINT_NOW operations whose checkpoint has not started (R388). -/
  ckptOps : List OpRef := []
  /-- CHECKPOINT_NOW operations that the running checkpoint serves (R388). -/
  ckptRun : List OpRef := []
  /-- Point records of the running or last checkpoint confirmed (R388). -/
  ckptDone : Nat := 0
  /-- Slot of the last measurement of VBAT (R92). -/
  vbatAt : Nat := 0
  /-- VBAT_MEASURE written and the measurement not yet made (R493). -/
  vbatReq : Bool := false
  /-- Cause of the adjournment in progress (R81). -/
  adjCause : Nat := 0
  /-- The adjournment was caused by RESET_CMD with FULL (R115). -/
  fullRestart : Bool := false
  deriving DecidableEq, Repr

/-- One anchor of the mapping between sample index and device time (R306). -/
structure Anchor where
  /-- Sample index (R306). -/
  s : Nat := 0
  /-- Device time of s in 2^-16 s (R306). -/
  t : Int := 0
  /-- A step or start anchor: no interpolation runs across it (R306). -/
  step : Bool := false
  deriving DecidableEq, Repr

/-- A SET_TIME that acts at the next round boundary (R332): the step in 2^-16 s, the authority used (0 host, 1 operations)
and the port whose reply waits. -/
structure SetTimeReq where
  delta : Int
  auth : Nat := 0
  port : Nat := 0
  deriving DecidableEq, Repr

/-- Sample index, RTC and reference (R20, R21, R302 to R306, R331). -/
structure Clock where
  /-- Sample index (R20). -/
  slot : Nat := 0
  /-- Device time of the RTC, 2^-16 s (R302). DESIGN CHOICE at reset, log entry 5. -/
  rtc : Int := 0
  /-- Model: fraction of a 2^-16 s unit, in thousandths, that a slew has produced (R331). The model's own field, log entry 14. -/
  rtcMilli : Nat := 0
  /-- Periods added or removed in each window of 32 s (R303). -/
  corrPeriods : Int := 0
  /-- Windows of 32 RTC periods counted in the running 32 s (32 768 of them) (R303). -/
  windows : Nat := 0
  /-- Start of the running drift span: slot and RTC period count (R304). -/
  driftFrom : Option (Nat × Nat) := none
  /-- 32.768 kHz periods counted (R304). -/
  periods : Nat := 0
  /-- Count at S_stop, from which the period count of the resumption context runs (R89). -/
  periodsAt : Nat := 0
  /-- Anchors, newest first (R306). -/
  anchors : List Anchor := []
  /-- Outstanding slew in thousandths of 2^-16 s (R331). -/
  slew : Int := 0
  /-- Accepted slew that joins at the next round boundary (R331). -/
  slewNext : Int := 0
  /-- Accepted slews of the last 3 600 s: slot and |DELTA_MS| (R331). -/
  slewLog : List (Nat × Nat) := []
  /-- TIME_UNSET (R305). -/
  timeUnset : Bool := false
  /-- Slot of the last SET_TIME or ADJUST_TIME (R304). -/
  lastSet : Option Nat := none
  /-- Die temperature at the last measurement, 1/16 C (R303). DESIGN CHOICE at reset, log entry 5. -/
  tempC16 : Int := 0
  /-- Highest die temperature of the running hour, 1/16 C (R389). DESIGN CHOICE at reset, log entry 5. -/
  maxTempC16 : Int := 0
  /-- Reference loss declared (R21). -/
  refLost : Bool := false
  /-- Consecutive reference windows within limits (R21). -/
  refGood : Nat := 0
  /-- Retention-lost flag (R87). DESIGN CHOICE at reset, log entry 4. -/
  retentionLost : Bool := true
  /-- VAON fell below 1.5 V since the last start (R305). DESIGN CHOICE at reset, log entry 4. -/
  rtcLost : Bool := true
  /-- Always-on DORMANT flag (R439). -/
  dormantFlag : Bool := false
  /-- The 32.768 kHz oscillator has stopped (R426). -/
  oscStopped : Bool := false
  /-- Device time at which it stopped (R427). -/
  oscStopAt : Int := 0
  /-- Number of the current run (R81). -/
  run : Nat := 0
  /-- SET_TIME requests waiting for their round boundary (R332). -/
  setTimes : List SetTimeReq := []
  deriving DecidableEq, Repr

/-- A debug level granted from the next round boundary (R474), with its duration in seconds, 0 for no end. -/
structure DebugReq where
  level : DebugLevel
  seconds : Nat := 0
  deriving DecidableEq, Repr

/-- One event on its way to the recorder (Q13) (R399, R403). -/
structure EvGroup where
  /-- CODE (R402). -/
  code : Nat := 0
  /-- Kind of SOURCE (R401). -/
  srcKind : Nat := 0
  /-- Index of SOURCE (R401). -/
  srcIdx : Nat := 0
  /-- Slot of the event (R400). -/
  at_ : Nat := 0
  /-- Its own device time, for an entry of the backup alarm buffer (R421). -/
  time : Option Int := none
  /-- FLAGS other than TIME_UNSET and staging (R400). -/
  flags : Nat := 0
  /-- Fields packed in order (R403). -/
  fields : List Byte := []
  /-- Latch bits that the record sets (R420). -/
  bits : BitVec 64 := 0
  /-- The port concerned, for a port-local event (R150). -/
  port : Option Nat := none
  /-- Notify priority (R406). -/
  prio : Nat := 1
  /-- A word of the group carries poison (R24). -/
  poison : Bool := false
  deriving DecidableEq, Repr

/-- A mode change that takes effect at the next round boundary (R97): its target, the cause code of R520 and the port
whose SET_MODE reply waits for it. -/
structure ModeReq where
  target : Mode
  cause : Nat := 0
  port : Option Nat := none
  deriving DecidableEq, Repr

/-- Operating mode, debug level and start progress (R95 to R111). -/
structure ModeSt where
  /-- Mode in force (R95). -/
  mode : Mode := .dormant
  /-- Return mode of CALIBRATE (R103). -/
  ret : Mode := .dormant
  /-- Base mode of DEGRADED (R103). -/
  base : Mode := .dormant
  /-- DORMANT armed (R102). -/
  armed : Bool := false
  /-- Mode changes waiting for the round boundary (R97). -/
  changes : List ModeReq := []
  /-- Later of entry to CALIBRATE and last accepted 0x07xx command (R101). -/
  calSince : Nat := 0
  /-- Mode from which the effective mode of a BOOT or an ADJOURN is taken (R515). -/
  before : Mode := .dormant
  /-- The adjournment began in BOOT, after step 5 of R90 (R81, R97). -/
  fromBoot : Bool := false
  /-- Mode held in the configuration record (MODE_STATE) (R98). -/
  stored : Mode := .dormant
  /-- Debug level (R109). -/
  debug : DebugLevel := .d0
  /-- Slot at which the debug level ends, 0 for no end (R474). -/
  debugEnd : Nat := 0
  /-- Level granted from the next round boundary (R474). -/
  debugReq : Option DebugReq := none
  /-- D2 entered in SEALED since the last full restart (R110). -/
  d2Entered : Bool := false
  /-- D2 entered since the last start (estimate cause [3]) (R110). -/
  d2Trace : Bool := false
  /-- Last step of R90 completed in the current start (R90). -/
  bootStep : Nat := 0
  /-- Row of R87 taken by the current start (R381). -/
  outcome : Nat := 0
  /-- First counted sample of the run (R91). -/
  firstSample : Nat := 0
  /-- S_stop of the resumption context (provisional or actual) (R89). -/
  sStop : Nat := 0
  /-- Device time of the start trigger (R91). -/
  triggerTime : Int := 0
  /-- Starts abandoned since S_stop (R100). -/
  abandoned : Nat := 0
  /-- First counted sample of the latest abandoned start (R100). -/
  abFirst : Nat := 0
  /-- Last counted sample of it (R100). -/
  abLast : Nat := 0
  /-- S_stop of the outage that the start ends (R517). -/
  stopFrom : Nat := 0
  /-- S_stop of the resumption context when the start began (R89). -/
  stopProv : Nat := 0
  /-- Health state of the resumption context (R83). -/
  ctxHealth : Health := .unknown
  /-- C_measured of the resumption context (R83). -/
  ctxCUf : Nat := 0
  /-- V_ADJ of the resumption context, in mV (R83). -/
  ctxVadjMv : Nat := 0
  /-- Events that a start raises at step 6 of R90 (R90). -/
  bootEvents : List EvGroup := []
  deriving DecidableEq, Repr

/-- Control-plane reset and readiness (R32 to R36, R115 to R117). -/
structure ControlPlane where
  /-- Down, held in reset, starting, ready (R33). -/
  st : CpState := .down
  /-- RESET_N filtered level is low (R116). DESIGN CHOICE at reset, log entry 5. -/
  resetNLow : Bool := false
  /-- RESET_CAUSE (R158). -/
  resetCause : Nat := 0
  /-- Slot at which the control plane became ready (R158). -/
  readyAt : Nat := 0
  /-- Watchdog period in force (R36). -/
  watchdogMs : Nat := 2000
  /-- Period that applies from the next watchdog restart (R509). -/
  watchdogNext : Nat := 2000
  /-- Crystal load written, in force from the next start (R509). -/
  xtalNext : Nat := 4
  /-- Crystal load in force (R509). -/
  xtal : Nat := 4
  /-- RESET_CMD accepted and not yet started (true: FULL) (R117). -/
  resetReq : Option Bool := none
  /-- Slot at which its reply was ready (R117). -/
  resetAt : Nat := 0
  /-- A debugger has halted the control core (R109). -/
  halted : Bool := false
  /-- Data RAM of the control core: bytes other than 0x00, by rising address (R16). DESIGN CHOICE at reset, log entry 171. -/
  ram : List Host.Cell := []
  /-- A watchdog expiry caused the reset (R36). -/
  watchdogEvent : Bool := false
  /-- The recovery service runs (R454). -/
  recovery : Bool := false
  /-- Image slot whose firmware the instruction cache holds, 2 the recovery service; none while it is invalid (R16, R33). -/
  icache : Option Nat := none
  /-- Notice codes whose pending bit is set (R34). -/
  notices : List Nat := []
  /-- Model: notices the control core has taken (R34). The model's own field, log entry 15. -/
  taken : Nat := 0
  deriving DecidableEq, Repr

/-- One reply in a port's reply stream (R135). -/
structure Reply where
  /-- TAG (R135). -/
  tag : BitVec 16 := 0
  /-- STATUS (R135). -/
  status : Status := .ok
  /-- HANDLE (R135). -/
  handle : Nat := 0
  /-- PAYLOAD (R135). -/
  payload : List Byte := []
  /-- A RESYNC reply (R140). -/
  resync : Bool := false
  /-- What the reply still waits for (R137). -/
  wait : Wait := .none
  /-- The reply to a write of PORT_P1_BAUD: the new rate takes effect when it has been sent (R126). -/
  baud : Bool := false
  /-- The reply to RESET_CMD, with whose reading the reset starts (R117). -/
  reset : Bool := false
  /-- The reply to IMAGE_ACTIVATE, with whose reading the switch starts (R482). -/
  switch : Bool := false
  deriving DecidableEq, Repr

/-- One completion record (R143). -/
structure Completion where
  /-- SEQ (R143). -/
  seq : Nat := 0
  /-- HANDLE (R143). -/
  handle : Nat := 0
  /-- OPCODE (R143). -/
  opcode : Nat := 0
  /-- STATUS (R143). -/
  status : Status := .ok
  /-- DETAIL (R143). -/
  detail : Nat := 0
  /-- TAG (R143). -/
  tag : BitVec 16 := 0
  /-- RESULT (R143). -/
  result : Nat := 0
  deriving DecidableEq, Repr

/-- One allocated handle of a port (R142). -/
structure HandleEntry where
  /-- Handle (R142). -/
  handle : Nat := 0
  /-- Opcode of the operation (R146). -/
  opcode : Nat := 0
  /-- TAG of the request (R143). -/
  tag : BitVec 16 := 0
  /-- The operation is past its commit point (R114). -/
  committed : Bool := false
  /-- A cancel has been requested (R146). -/
  cancelReq : Bool := false
  /-- Completed and not yet removed (R146). -/
  done : Bool := false
  /-- The mode left the accepted set after the commit point (R114). -/
  modeLost : Bool := false
  /-- RESULT of the completion owed at readiness (R143). -/
  owed : Nat := 0
  /-- Outstanding at a reset or adjournment: its completion is owed at readiness (R144). -/
  detached : Bool := false
  /-- Anchor and SEQ of its authorisation, consumed at its commit point (R457). -/
  auth : Option (Nat × Nat) := none
  deriving DecidableEq, Repr

/-- A request packet received and not yet executed (R137). -/
structure RawReq where
  /-- OPCODE (R134). -/
  opcode : Nat := 0
  /-- TAG (R134). -/
  tag : BitVec 16 := 0
  /-- PARAMS (R134). -/
  params : List Byte := []
  /-- VERSION, FLAGS and TAG are well formed (R134). -/
  flagsOk : Bool := true
  /-- A packet that failed framing, with the status that its reply carries in its turn (R141). -/
  bad : Option Status := none
  /-- A break of P1: the RESYNC reply that follows the replies owed (R128). -/
  resync : Bool := false
  deriving DecidableEq, Repr

/-- Head record of an event group (R400). -/
structure EvHead where
  /-- SEQ (R400). -/
  seq : Nat := 0
  /-- TIME (R400). -/
  time : Int := 0
  /-- CODE (R400). -/
  code : Nat := 0
  /-- SOURCE [15:12] (R401). -/
  srcKind : Nat := 0
  /-- SOURCE [11:0] (R401). -/
  srcIdx : Nat := 0
  /-- EXT (R400). -/
  ext : Nat := 0
  /-- FLAGS (R400). -/
  flags : Nat := 0
  /-- DATA (R400). -/
  data : Nat := 0
  deriving DecidableEq, Repr

/-- State of one of P0, P1, P2 (R118 to R156, R503). -/
structure Port where
  /-- The device's view of the sender's credits (R138). -/
  credits : Nat := 0
  /-- READY stays 0 until the RESYNC reply has gone (R140). -/
  resyncOwed : Bool := false
  /-- Rejection counter (R113). -/
  rejections : Nat := 0
  /-- Credit-violation counter (R139). -/
  violations : Nat := 0
  /-- Framing counter (R141). -/
  framing : Nat := 0
  /-- Requests received and not yet executed (R31). -/
  rx : List RawReq := []
  /-- Replies, oldest first (R31). -/
  replies : List Reply := []
  /-- Handle table, in allocation order (R142). -/
  handles : List HandleEntry := []
  /-- Previous handle (R142). DESIGN CHOICE at reset, log entry 16. -/
  lastHandle : Nat := 0
  /-- SEQ of the previous completion record (R143). DESIGN CHOICE at reset, log entry 16. -/
  lastSeq : Nat := 0
  /-- Completion queue (R143). -/
  completions : List Completion := []
  /-- Event latch (R149). -/
  latch : BitVec 64 := 0
  /-- Event mask (R156). -/
  mask : BitVec 64 := 0
  /-- Sequence of the record that set each latch bit last (R149). -/
  latchSeq : List Nat := List.replicate 64 0
  /-- Notification queue, oldest first (R152). -/
  notify : List EvHead := []
  /-- Notification overflow count (R152). -/
  overflow : Nat := 0
  /-- Staged parameter writes, in staging order (R503). -/
  pendingSet : List (Nat × BitVec 32) := []
  /-- The 4 newest CAL_MEASURE results: handle and reply payload (R468). -/
  calResults : List (Nat × List Byte) := []
  /-- Model: bytes that the last SPI read of the port clocked out (R125). The model's own field, log entry 15. -/
  out : List Byte := []
  /-- Model: P1 is discarding frames until its RESYNC reply has been sent (R128). The model's own field, log entry 17. -/
  sending : Bool := false
  /-- Line rate in force (R126). -/
  baud : Nat := 0
  /-- Line rate that takes effect after the reply to its write (R126). -/
  baudNext : Option Nat := none
  deriving DecidableEq, Repr

/-- Test access port P3 (R131 to R133). -/
structure Tap where
  /-- Instruction register (R131). -/
  ir : BitVec 8 := 1
  /-- Value that the selected data register captures (R132). -/
  dr : Nat := 0
  /-- Boundary-scan register as last preloaded, one cell per digital ball in the order of R45 (R131). DESIGN CHOICE at reset, log
  entry 5. -/
  bsr : List Bool := List.replicate 48 false
  /-- Mailbox credit (R133). -/
  credit : Nat := 1
  /-- Request packet being assembled (R133). -/
  reqBytes : List Byte := []
  /-- Reply bytes not yet captured (R133). -/
  replyBytes : List Byte := []
  /-- The TAP is held in reset (ADJOURN) or unpowered (R111). -/
  held : Bool := false
  deriving DecidableEq, Repr

/-- One slot value v of a channel with its flags (R186 to R196). -/
structure Sample where
  /-- Sample value (R186). -/
  x : Int := 0
  /-- Overload flag (R168). -/
  ovl : Bool := false
  /-- Settling flag (R187). -/
  settle : Bool := false
  /-- Poisoned (R196). -/
  poison : Bool := false
  /-- Checker tap (R191). -/
  tap : Bool := false
  deriving DecidableEq, Repr

/-- One output y of a channel in the retained window (R200, R202, R233). -/
structure Out where
  /-- Stamp t (R200). -/
  stamp : Nat := 0
  /-- Y in 1/16 count, before correction (R200). -/
  y : Int := 0
  /-- Corrected output (R219). -/
  z : Int := 0
  /-- Poisoned (R202). -/
  poison : Bool := false
  /-- Overload flag, a saturated z included (R202). -/
  ovl : Bool := false
  /-- SETTLING (R208). -/
  settle : Bool := false
  /-- Envelope accumulator before this output, from which a step that is confirmed later computes anew (R215). -/
  env : Nat := 0
  deriving DecidableEq, Repr

/-- Accumulator of one detector span (R212 to R214). -/
structure DetAcc where
  /-- Largest |z| (R214). -/
  peak : Int := 0
  /-- First stamp that reaches it (R214). -/
  peakAt : Nat := 0
  /-- Sum of round_half_even(z z / 256) (R214). -/
  sum : Nat := 0
  /-- Included outputs (R214). -/
  n : Nat := 0
  /-- Outputs were excluded (R213). -/
  excluded : Bool := false
  /-- An included output is overload-flagged (R213). -/
  ovl : Bool := false
  /-- Sum of values (AUX_DC one-second mean) (R167). -/
  zsum : Int := 0
  deriving DecidableEq, Repr

/-- One detector value with its flags (R213, R214). -/
structure DetVal where
  /-- Value (R214). -/
  v : Int := 0
  /-- Peak of the span (R214). -/
  peak : Int := 0
  /-- INCOMPLETE, VOID, OVERLOAD (R213). -/
  flags : Nat := 0
  deriving DecidableEq, Repr

/-- Settings of a channel in force in the engine and island (R173, R189, R203, R210). -/
structure Settings where
  /-- ROLE (R173). -/
  role : Nat := 0
  /-- Gain code (R173). -/
  pga : Nat := 0
  /-- GCORR (R173). -/
  gcorr : Int := 0x400000
  /-- OFF in 1/256 count (R173). -/
  off : Int := 0
  /-- Fractional delay f (R189). -/
  frac : Nat := 0
  /-- Integer delay D (R189). -/
  int : Nat := 0
  /-- FIR bank (R203). -/
  bank : Nat := 0
  /-- SINGLE_CYCLE mode (R210). -/
  single : Bool := false
  deriving DecidableEq, Repr

/-- One running or last voltage event of a detector (R282). -/
structure VoltEvent where
  /-- Event running (R282). -/
  active : Bool := false
  /-- Span end of the starting value (R282). -/
  start : Nat := 0
  /-- Duration in half cycles (R282). -/
  halves : Nat := 0
  /-- Extreme r (R282). -/
  extreme : Nat := 0
  /-- Flags of the end record (R282). -/
  flags : Nat := 0
  deriving DecidableEq, Repr

/-- Result of the last harmonic window of a channel (R286, R287). -/
structure HarmResult where
  /-- FLAGS of READ_HARMONICS (R298). -/
  flags : Nat := 1
  /-- Stamp of the window end (R298). -/
  windowEnd : Nat := 0
  /-- N (R298). -/
  nOut : Nat := 0
  /-- FREQ (R298). -/
  freq : Nat := 0
  /-- THD50 (R287). -/
  thd50 : Nat := 0xFFFF
  /-- THD63 (R287). -/
  thd63 : Nat := 0xFFFF
  /-- G_h, phase, band code (R286). -/
  orders : List (Nat × Nat × Nat) := []
  /-- Real part of bin Nh of each order (R286). -/
  xr : List Int := []
  /-- Imaginary part (R286). -/
  xi : List Int := []
  deriving DecidableEq, Repr

/-- Values of one completed cycle of a channel (R214, R430). -/
structure CycVal where
  /-- Slot of the crossing that ends it (R212). -/
  fin : Nat := 0
  /-- Cycle RMS (R214). -/
  rms : DetVal := {}
  /-- Half-cycle peak that follows the positive-going crossing (R430). -/
  pos : Int := 0
  /-- Half-cycle peak that follows the negative-going crossing (R430). -/
  neg : Int := 0
  deriving DecidableEq, Repr

/-- One zero crossing or predicted gate of a voltage channel, rounded to a slot (R276, R277). -/
structure CycMark where
  /-- Slot (R277). -/
  at_ : Nat := 0
  /-- Positive-going crossing or predicted gate: a cycle boundary (R275). -/
  full : Bool := false
  /-- Predicted gate or half of a predicted period (R276). -/
  gate : Bool := false
  /-- May still be withdrawn (R276). -/
  provis : Bool := false
  deriving DecidableEq, Repr

/-- What one crossing item changed in the frequency values (R279). -/
structure FreqUndo where
  /-- Crossing before it (R279). -/
  cross : Option Nat := none
  /-- Cycle frequency before it (R279). -/
  freq : Nat := 0
  /-- Distance counted (R279). -/
  delta : Nat := 0
  /-- Counted in the next window (R279). -/
  next : Bool := false
  deriving DecidableEq, Repr

/-- One complete window on its way to the harmonic analyser (R285). -/
structure HarmWin where
  /-- Stamp at which it starts (R285). -/
  start : Nat := 0
  /-- Stamp at which it ends (R285). -/
  fin : Nat := 0
  /-- Outputs (none: excluded) (R285). -/
  outs : List (Option Int) := []
  /-- An output carries the overload flag (R298). -/
  ovl : Bool := false
  deriving DecidableEq, Repr

/-- An overload episode that has ended (R169): its first sample and the sample after its last one, the largest |x|, and M2 with
its span when a verification served it (R238). -/
structure Episode where
  start : Nat
  fin : Nat
  max : Nat
  m2 : Option (Nat × Nat × Nat) := none
  deriving DecidableEq, Repr

/-- Running state of one channel (filter chain, detectors, check state, power quality). -/
structure Channel where
  /-- First integrator of the decimator (R185). DESIGN CHOICE at reset, log entry 5. -/
  int1 : BitVec 20 := 0
  /-- Second integrator (R185). DESIGN CHOICE at reset, log entry 5. -/
  int2 : BitVec 20 := 0
  /-- Third integrator (R185). DESIGN CHOICE at reset, log entry 5. -/
  int3 : BitVec 20 := 0
  /-- Delay of the first comb (R185). DESIGN CHOICE at reset, log entry 5. -/
  comb1 : BitVec 20 := 0
  /-- Delay of the second comb (R185). DESIGN CHOICE at reset, log entry 5. -/
  comb2 : BitVec 20 := 0
  /-- Delay of the third comb (R185). DESIGN CHOICE at reset, log entry 5. -/
  comb3 : BitVec 20 := 0
  /-- Integrator-limit flags of the last 2 sample periods (192 clocks with the current one) (R168). -/
  limitHist : List Bool := []
  /-- Samples before the integer delay, newest first (R188). -/
  delayLine : List Sample := []
  /-- The last step included an island step: its first 3 slot values carry the settling flag (R187). -/
  islSettle : Bool := false
  /-- Settings in force (R173). -/
  set : Settings := {}
  /-- Full-scale value FS (R247). -/
  fs : Nat := 0
  /-- Filter history, newest first (R217). -/
  hist : List Sample := []
  /-- Retained window, newest first (R233). -/
  outs : List Out := []
  /-- S_step of the last step (R208). -/
  settleFrom : Nat := 0
  /-- Stamps below it, from settleFrom, are SETTLING (R208). -/
  settleTo : Nat := 0
  /-- Settling span of a step whose boundary may still be withdrawn (R208, R211). -/
  settleAhead : Option (Nat × Nat) := none
  /-- First slot whose slice has not run (R217). -/
  outAt : Nat := 0
  /-- First slot that the detectors have not taken (R212). -/
  detAt : Nat := 0
  /-- Zero crossings that the detectors have taken since they started, at most 2 (R212). -/
  detMarks : Nat := 0
  /-- A cycle boundary is among them (R212). -/
  detFull : Bool := false
  /-- Overload episode running (R169). -/
  overload : Bool := false
  /-- Start of the episode (R169). -/
  overStart : Nat := 0
  /-- Largest |x| in the episode (R169). -/
  overMax : Nat := 0
  /-- Episodes that have ended and whose end record is still to come, oldest first (R169). -/
  overEnds : List Episode := []
  /-- M2 and span of the overload verification of the episode (R238). -/
  overM2 : Option (Nat × Nat × Nat) := none
  /-- Consecutive unflagged samples (R169). -/
  unflagged : Nat := 2560
  /-- Runs of flagged samples by slot, newest first: first slot and slot after the last (R170). -/
  flagRuns : List (Nat × Nat) := []
  /-- Cycle boundary of the gate reference up to which its cycles have been judged (R170). -/
  flagFrom : Option Nat := none
  /-- Flagged samples in the previous cycle (R170). -/
  flaggedPrev : Bool := false
  /-- Slot of the last overload-verification request (R170). -/
  verifyAt : Option Nat := none
  /-- CHECK (R173). -/
  check : CheckState := .unchecked
  /-- MISMATCHES (R173). -/
  mismatches : Nat := 0
  /-- Consecutive MATCH in FAILED (R179). -/
  matchRun : Nat := 0
  /-- Slot of the last completed comparison (R173). -/
  checkAt : Option Nat := none
  /-- First slot whose value the overload logic and the comparator have not taken (R169, R178). -/
  takenAt : Nat := 0
  /-- Envelope accumulator (R215). -/
  env : Nat := 0
  /-- Running half cycle (R212). -/
  halfAcc : DetAcc := {}
  /-- Previous half cycle (half-cycle RMS covers a full cycle) (R214). -/
  prevHalf : DetAcc := {}
  /-- Running cycle (R212). -/
  cycAcc : DetAcc := {}
  /-- Running window (R212). -/
  winAcc : DetAcc := {}
  /-- Running second (R212). -/
  secAcc : DetAcc := {}
  /-- Cycles in the running window (R212). -/
  winCycles : Nat := 0
  /-- Half-cycle RMS (R214). -/
  rmsHalf : DetVal := {}
  /-- Cycle RMS (R214). -/
  rmsCycle : DetVal := {}
  /-- Values of the last cycles, newest first (R430). -/
  cycVals : List CycVal := []
  /-- Window RMS and peak (R214). -/
  rmsWin : DetVal := {}
  /-- One-second RMS (R214). -/
  rmsSec : DetVal := {}
  /-- Last AUX_DC value (R167). -/
  auxLast : Int := 0
  /-- One-second mean of the AUX_DC value (R167). -/
  auxMean : DetVal := {}
  /-- State of the crossing logic (R275). -/
  pol : Polarity := .none
  /-- Provisional crossing in 1/256 slot, and whether positive-going (R276). -/
  provisional : Option (Nat × Bool) := none
  /-- Boundaries of half cycles and cycles, newest first (R276). -/
  marks : List CycMark := []
  /-- Last confirmed positive-going crossing, 1/256 slot (R276). -/
  lastCross : Option Nat := none
  /-- Last measured period in 1/256 slot (R177). -/
  period : Nat := 0
  /-- Slots of the last complete cycle that it has measured since the start, 0 before the first (R250). -/
  measuredLen : Nat := 0
  /-- NO_CROSSING (R276). -/
  noCross : Bool := false
  /-- Gates sent to the islands ahead, in the sampling domain, oldest first (R177). -/
  gates : List Nat := []
  /-- Next predicted gate while no crossing is measured (R177). -/
  nextGate : Nat := 0
  /-- Cycle count (R227). -/
  cycleNo : Nat := 0
  /-- Last cycle frequency, mHz (R279). -/
  freqCycle : Nat := 0
  /-- 10-second frequency, mHz (R279). -/
  f10 : Nat := 0
  /-- Cycles counted in the running 10 s window (R279). -/
  f10Count : Nat := 0
  /-- Sum of their distances (R279). -/
  f10Sum : Nat := 0
  /-- Cycles counted in the window after it (R279). -/
  f10NextCount : Nat := 0
  /-- Sum of their distances (R279). -/
  f10NextSum : Nat := 0
  /-- Slot of a clock step that ends the window short (R279). -/
  f10Cut : Option Nat := none
  /-- Slot at which the running 10 s window began (R279). -/
  f10From : Nat := 0
  /-- Last positive-going crossing seen by the detector (R279). -/
  pqCross : Option Nat := none
  /-- What the last crossing item changed, while it may be withdrawn (R279). -/
  pqUndo : Option FreqUndo := none
  /-- Frequency limit exceeded (R280). -/
  freqLimit : Bool := false
  /-- Last residual r (R281). -/
  rHalf : Nat := 0
  /-- Flags of it (R297). -/
  rFlags : Nat := 0
  /-- Extreme of the running or last event (R297). -/
  rExtreme : Nat := 0
  /-- Sag detector (R282). -/
  sag : VoltEvent := {}
  /-- Swell detector (R282). -/
  swell : VoltEvent := {}
  /-- Interruption detector (R282). -/
  intr : VoltEvent := {}
  /-- Sags started since first commissioning (R297). -/
  sags : Nat := 0
  /-- Swells (R297). -/
  swells : Nat := 0
  /-- Interruptions (R297). -/
  intrs : Nat := 0
  /-- Last harmonic window (R298). -/
  harm : HarmResult := {}
  /-- THD50 of consecutive non-VOID windows (R289). -/
  thdLog : List Nat := []
  /-- Harmonic limit exceeded (R289). -/
  harmLimit : Bool := false
  /-- Outputs of the harmonic window, oldest first (none: excluded) (R285). -/
  winOuts : List (Option Int) := []
  /-- Start stamp of the harmonic window (R285). -/
  winStart : Nat := 0
  /-- Slots at which the last windows on the channel's own boundaries began, newest first (R212, R288). -/
  winMarks : List Nat := []
  /-- The running window is analysed (R285). -/
  winHarm : Bool := false
  /-- Number of the running second (R212). -/
  secNo : Nat := 0
  /-- Complete windows waiting for the harmonic analyser (R285). -/
  harmReady : List HarmWin := []
  deriving DecidableEq, Repr

/-- One pending urgent request for a second (R181). -/
structure Urgent where
  /-- Channel (R181). -/
  ch : Nat := 0
  /-- SPOT_CHECK operations served (R184). -/
  spot : List OpRef := []
  /-- Points whose type 13 confirmation it serves (R432). -/
  tamper : List Nat := []
  /-- Overload verification (R170). -/
  verify : Bool := false
  deriving DecidableEq, Repr

/-- One integration of a second: assigned, running, or over with its comparison still to come (R177, R178). -/
structure Integ where
  /-- Channel (R174). -/
  ch : Nat := 0
  /-- First sample at which it may start (R177). -/
  from_ : Nat := 0
  /-- Gate at which it starts (R177). -/
  start : Nat := 0
  /-- Gate at which it ends (R177). -/
  endGate : Nat := 0
  /-- It has started (R182). -/
  begun : Bool := false
  /-- Urgent request served (R182). -/
  urgent : Option Urgent := none
  /-- Sum of |256 x - OFF| over the samples taken so far (R178). -/
  sum : Nat := 0
  /-- A sample of the span is poisoned, SETTLING or overload (R178). -/
  void : Bool := false
  deriving DecidableEq, Repr

/-- One checking converter (R175 to R182). -/
structure Second where
  /-- Failed its self-test (R180). -/
  failed : Bool := false
  /-- Integrations, oldest first: the two capacitors alternate, so that one may start where the previous one ends (R175). -/
  runs : List Integ := []
  /-- Slot at which the running self-test began (R180). -/
  testAt : Option Nat := none
  /-- Aborted rotation channel to restart (R182). -/
  restart : Option Nat := none
  /-- Last channel of the rotation since the start (R176). DESIGN CHOICE at a start, log entry 163. -/
  last : Option Nat := none
  /-- A self-test is due (R180). -/
  selfDue : Bool := false
  deriving DecidableEq, Repr

/-- State of one converter island (R172 to R174, R489, R490). -/
structure Island where
  /-- Retired by command (R174). -/
  retired : Bool := false
  /-- Dropped by admission (R242). -/
  dropped : Bool := false
  /-- Reference fault (R174). -/
  refFault : Bool := false
  /-- Supply fault (R174). -/
  supFault : Bool := false
  /-- Consecutive bad reference comparisons (R172). -/
  refBad : Nat := 0
  /-- Consecutive bad supply comparisons (R172). -/
  supBad : Nat := 0
  /-- Consecutive comparisons with both good (R172). -/
  good : Nat := 0
  /-- Consecutive good comparisons of VREF (R172). -/
  refGood : Nat := 0
  /-- Consecutive good comparisons of AVDD (R172). -/
  supGood : Nat := 0
  /-- Worst deviation of VREF in the running fault, ppm (R172). -/
  worstRef : Nat := 0
  /-- Worst deviation of AVDD in the running fault, ppm (R172). -/
  worstSup : Nat := 0
  /-- Island temperature, 1/16 C (R174). -/
  temp : Int := 0
  /-- Slot at which it was refreshed last (R174). -/
  tempAt : Option Nat := none
  /-- Second A (R175). -/
  a : Second := {}
  /-- Second B (R175). -/
  b : Second := {}
  /-- Pending urgent requests (R181). -/
  urgents : List Urgent := []
  /-- Comparisons completed (R174). -/
  comparisons : Nat := 0
  /-- Mismatches (R174). -/
  mismatches : Nat := 0
  /-- Slot of the last start of the self-test period (R180). -/
  selfAt : Nat := 0
  /-- RESTORE_ISLAND in progress (R490). -/
  restoreOp : Option OpRef := none
  /-- Slot at which the LDO turned on (R490). -/
  restoreSince : Nat := 0
  /-- Consecutive good comparisons under restoration (R490). -/
  restoreGood : Nat := 0
  /-- 100 comparisons passed; the round boundary restores it (R490). -/
  restoreReady : Bool := false
  /-- RETIRE_ISLAND accepted, for the next round boundary (R489). -/
  retireOp : Option (Option OpRef) := none
  /-- Fabric form in force (R198). -/
  compressed : Bool := true
  deriving DecidableEq, Repr

/-- One engine lane (R240, R241). -/
structure Lane where
  /-- Retired (R240). -/
  retired : Bool := false
  /-- Failed its last test once (R240). -/
  failed : Bool := false
  /-- Slot of its last passed test (R241). -/
  lastPass : Nat := 0
  /-- LANE_TEST in progress (R491). -/
  op : Option OpRef := none
  /-- Round of its acceptance (R491). -/
  opAt : Nat := 0
  /-- Its ACTION (R491). -/
  action : Nat := 0
  /-- Passes of the restoration test (R491). -/
  passes : Nat := 0
  /-- Low half of the last signature (R491). -/
  sig : Nat := 0
  /-- A second failure retires it at the following round boundary (R240). -/
  leaving : Bool := false
  /-- Round of its last failed test, or of the first pass of a restoration (R240, R491). -/
  failAt : Nat := 0
  deriving DecidableEq, Repr

/-- One slice of the engine's list (R217): a takeback recomputation of a point's cycle, the slice of a channel or of a point, or
the harmonic feed. -/
inductive Slice where
  | redo (mp cycle : Nat)
  | chan (c : Nat)
  | point (m : Nat)
  | feed
  deriving DecidableEq, Repr

/-- A carried slice (R225): the lane-cycles it still needs, and the words of the carry area that it holds. -/
structure Carried where
  slice : Slice
  left : Nat
  words : Nat := 0
  deriving DecidableEq, Repr

/-- One FIR bank (R199, R205). -/
structure Bank where
  /-- T (R205). -/
  taps : Nat := 0
  /-- K (R205). -/
  k : Nat := 0
  /-- B[0] to b[T-1] (R199). -/
  coeff : List Int := []
  /-- Content before the reload, for channels that have not switched (R207). -/
  old : Option (Nat × Nat × List Int) := none
  /-- Channels that still have to switch (PENDING) (R205). -/
  pending : List Nat := []
  /-- Slot of the reload that the switch follows (R207). -/
  from_ : Nat := 0
  /-- The reload waits for an operating point that holds the new load (R222). -/
  waits : Bool := false
  deriving DecidableEq, Repr

/-- A committed parameter set whose reply or completion is still owed (R502, R505, R506, R467): the operation that
completes when the last item has taken effect, the port whose reply follows the hand-over, and the completion's fields. -/
structure CommitSet where
  id : Nat
  op : Option OpRef := none
  port : Option Nat := none
  /-- The waiting reply is that of SET_PARAM, whose FLAGS byte tells whether an effect is still to come. -/
  flagByte : Bool := false
  detail : Nat := 0
  result : Nat := 0
  /-- Banks whose switch belongs to the set (R466). -/
  banks : List Nat := []
  deriving DecidableEq, Repr

/-- One item of a parameter set (R35): a parameter, a full-scale value (R247), or the content of a FIR bank (R207). -/
inductive EffItem where
  | pid (pid : Nat) (value : BitVec 32)
  | fs (ch : Nat) (value : Nat)
  | bank (n taps k : Nat) (coeff : List Int)
  deriving DecidableEq, Repr

/-- A committed item that waits for its boundary (R35): the set it belongs to, the round boundary of its hand-over, and whether
the set is a sealed move (R262). -/
structure Effect where
  item : EffItem
  set : Nat := 0
  sealMove : Bool := false
  handed : Option Nat := none
  deriving DecidableEq, Repr

/-- A pending channel remap (R486, R487). -/
structure Remap where
  old : Nat
  new : Nat
  op : OpRef
  /-- Slot from which the first crossing of the gate reference becomes S_eff. -/
  limit : Nat
  /-- S_eff once the crossing is confirmed. -/
  sEff : Option Nat := none
  /-- The roles have been exchanged; the completion waits for the first cycles of these points. -/
  done : Bool := false
  waiting : List Nat := []
  deriving DecidableEq, Repr

/-- Engine island (R216 to R244). -/
structure Engine where
  /-- Lanes (R216). -/
  lanes : List Lane := List.replicate 8 {}
  /-- Operating point (R223). -/
  point : Nat := 6
  /-- Point of the clock in force (R224). -/
  clockPoint : Nat := 6
  /-- Supply trim in mV (R224). -/
  trim : Nat := 0
  /-- Consecutive rounds with the target below the point (R224). -/
  below : Nat := 0
  /-- The clock has moved down and the supply is to follow (R224). -/
  down : Bool := false
  /-- ROM microcode running (R244). -/
  romUcode : Bool := true
  /-- Slices carried from the last round, in the order they were due (R225). -/
  carried : List Carried := []
  /-- Takeback recomputations that have not begun, in the order of their triggers: point and cycle (R217, R233). -/
  redo : List (Nat × Nat) := []
  /-- Lane-cycles for which each lane is busy with slices in the round that runs (R217, R240). -/
  busy : List Nat := List.replicate 8 0
  /-- Bindings whose START waits for the loop: point and port of the reply (R222, R248). -/
  loopBinds : List (Nat × Nat) := []
  /-- EN_START_THRESHOLD before its last hand-over, and the round boundary of that (R274). -/
  startOld : Nat := 0
  startAt : Nat := 0
  /-- Rounds ending in a flag fall (R244). -/
  flagFalls : Nat := 0
  /-- Channel slices abandoned (R244). -/
  abandoned : Nat := 0
  /-- Trigger occurrences (R244). -/
  takebacks : Nat := 0
  /-- Questioned marks (R244). -/
  questioned : Nat := 0
  /-- Contributions filled by cycle-hold (R244). -/
  excluded : Nat := 0
  /-- Triggers in the running span (R236). -/
  spanCount : Nat := 0
  /-- TAKEBACK_RATE (R244). -/
  rate : Nat := 0
  /-- Number of the running span (R236). -/
  span : Nat := 0
  /-- EV_TAKEBACK_STORM raised in the span (R236). -/
  stormed : Bool := false
  /-- Number of the period in which each pair of lanes tested last (R240). -/
  pairDone : List Nat := [0, 0, 0, 0]
  /-- Lane tests passed (R244). -/
  selfTests : Nat := 0
  /-- LAST_SELFTEST (R244). -/
  lastSelf : Nat := 0
  /-- LAST_FAILED_LANE (R244). -/
  lastFailed : Nat := 0xFF
  /-- Second of the last EV_FLAG_FALL (R226). -/
  ffSecond : Nat := 0
  /-- Rounds with a flag fall in it (R226). -/
  ffRounds : Nat := 0
  /-- Channels abandoned in it (R226). -/
  ffChans : Nat := 0
  /-- First of them (R226). -/
  ffFirst : Nat := 0
  /-- Run-ahead position (R228). -/
  runAhead : Nat := 0
  /-- FIR banks in the configuration (R199). -/
  banks : List Bank := []
  /-- Committed items waiting for their boundary (R35). -/
  effects : List Effect := []
  /-- Model: number of the last committed parameter set (R506). The model's own field, log entry 15. -/
  setSeq : Nat := 0
  /-- Parameter sets whose completion or reply is owed (R506). -/
  commits : List CommitSet := []
  /-- Channels whose overload verification is owed (R170). -/
  overPending : List Nat := []
  /-- Pending channel remaps (R487). -/
  remaps : List Remap := []
  deriving DecidableEq, Repr

/-- Sums of one element in one segment (R251). -/
structure ElemSum where
  /-- Active (R251). -/
  sp : Int := 0
  /-- Reactive before gq (R251). -/
  sq : Int := 0
  /-- Square of voltage (R251). -/
  su : Nat := 0
  /-- Square of current (R251). -/
  si : Nat := 0
  /-- Correlation of voltage with the cosine (R251). -/
  uc : Int := 0
  /-- Correlation of voltage with the sine (R251). -/
  us : Int := 0
  /-- Correlation of current with the cosine (R251). -/
  ic : Int := 0
  /-- Correlation of current with the sine (R251). -/
  is : Int := 0
  deriving DecidableEq, Repr

/-- One contribution of a metering point: the outputs used at one position k (R237, R251). -/
structure Contrib where
  /-- Stamp t of the Hilbert partner (R251). -/
  stamp : Nat := 0
  /-- Voltage of each element (R251). -/
  u : List Int := []
  /-- Current of each element (R251). -/
  i : List Int := []
  /-- Hilbert output of each element (R250). -/
  h : List Int := []
  /-- Neutral output (R429). -/
  nt : Int := 0
  /-- Not excluded (R237). -/
  ok : Bool := true
  /-- Carries the overload flag (R238). -/
  ovl : Bool := false
  deriving DecidableEq, Repr

/-- One pending slot of a metering point (R228). -/
structure PendSlot where
  /-- Cycle number (R228). -/
  cycle : Nat := 0
  /-- First slot of the cycle (R228). -/
  first : Nat := 0
  /-- S_close once the closing crossing is known (R229). -/
  close : Option Nat := none
  /-- Closed at a predicted gate (R227). -/
  synthetic : Bool := false
  /-- PARTIAL (R232). -/
  partialCycle : Bool := false
  /-- Its closing crossing may still be withdrawn (R227). -/
  provis : Bool := false
  /-- Recomputed at least once (R232). -/
  takenBack : Bool := false
  /-- The point was in an estimate state in the cycle (R232). -/
  est : Bool := false
  /-- Instants at which the outputs added so far are split (R228). -/
  cuts : List Nat := []
  /-- EN_START_THRESHOLD in force from its first slot (R274). -/
  start : Nat := 0
  /-- Contributions added so far, oldest first (R228). -/
  contribs : List Contrib := []
  /-- Output period of the cycle in slots (R251). -/
  per : Nat := 16
  /-- Full-scale values of the elements in the cycle (R254). -/
  fs : List (Nat × Nat) := []
  /-- A poisoned output has taken the cycle back (R233). -/
  poisoned : Bool := false
  /-- Estimate causes under which the cycle is held (R239). -/
  held : Nat := 0
  deriving DecidableEq, Repr

/-- Binding record of a metering point (R245 to R248). -/
structure Binding where
  /-- TYPE (R245). -/
  type : Nat := 0
  /-- REFERENCE, IMPORT_ONLY (R248). -/
  flags : Nat := 0
  /-- Tariff plan (R248). -/
  plan : Nat := 0
  /-- V1, V2, V3, I1, I2, I3, N; 0xFFFF unused (R248). -/
  ch : List Nat := []
  /-- MP_ID (R248). -/
  mpId : List Byte := []
  /-- BIND_SEQ (R248). -/
  seq : Nat := 0
  /-- START (R248). -/
  start : Nat := 0
  /-- Device time of the binding (R327). -/
  time : Int := 0
  deriving DecidableEq, Repr

/-- Prepayment ledger and relay state of a point or relay (R339 to R360, R380). -/
structure Ledger where
  /-- C (R339). -/
  credit : Int := 0
  /-- CREDIT_DELTA: part of C not yet in the stored copy (R339). -/
  delta : Int := 0
  /-- DEDUCT_REM (R340). -/
  deductRem : Nat := 0
  /-- FLAGS: UNIT, RECONNECT, PROTECTED, EC_AUTO (R360). -/
  policy : BitVec 32 := 0
  /-- LOW1 (R342). -/
  low1 : Nat := 0
  /-- LOW2 (R342). -/
  low2 : Nat := 0
  /-- LOW3 (R342). -/
  low3 : Nat := 0
  /-- EC_LIMIT (R343). -/
  ecLimit : Nat := 0
  /-- DAILY_CHARGE (R341). -/
  daily : Nat := 0
  /-- CREDIT_MAX (R359). -/
  creditMax : Nat := 2 ^ 62
  /-- L of the emergency-credit episode (R343). -/
  ecL : Nat := 0
  /-- Emergency-credit state (R343). -/
  ec : EcState := .idle
  /-- Power-limit trips since binding (R345). -/
  trips : Nat := 0
  /-- Power limit in W (R345). -/
  wLim : Nat := 0
  /-- Highest serial accepted (R352). -/
  h : Nat := 0
  /-- Bit j: serial H - j used (R352). -/
  bitmap : BitVec 1024 := 0
  /-- Serial of the last accepted token (R353). -/
  lastSerial : Nat := 0
  /-- Its class (R380). -/
  lastClass : Nat := 0
  /-- Device time of its acceptance (R353). -/
  lastTime : Int := 0
  /-- Last charged day (R341). -/
  lastDay : Int := 0
  /-- Sample indices of recorded TOKEN_MAC failures (R354). -/
  macFails : List Nat := []
  /-- Slot at which the lockout ends (R354). -/
  lockEnd : Nat := 0
  /-- J of the last lockout (R354). -/
  lockJ : Nat := 0
  /-- Slot at which the previous lockout ended (R354). -/
  lockPrev : Nat := 0
  /-- FORCE_OPEN or FORCE_CLOSE in force (R357). -/
  override : RelayOverride := .none
  /-- Slot at which the override ends (R357). -/
  overrideEnd : Nat := 0
  /-- Cause [3] (R344). -/
  openLocked : Bool := false
  /-- Slot at which cause [5] ends (R344). -/
  testEnd : Nat := 0
  /-- Number of the running 10 s span (R345). -/
  limSpan : Nat := 0
  /-- E of the span (R345). -/
  limQuanta : Nat := 0
  /-- The span has tripped (R345). -/
  limTripped : Bool := false
  /-- Slot at which the hold ends (R345). -/
  limEnd : Nat := 0
  /-- Reconnect state (R346). -/
  recon : Reconnect := .closed
  /-- Directive is OPEN (R344). -/
  open_ : Bool := false
  /-- Causes active at the last evaluation (R344). -/
  causes : Nat := 0
  deriving DecidableEq, Repr

/-- One metering point (R245 to R265, R323, R330, R384, R430). -/
structure Point where
  /-- Binding (R248). -/
  bind : Option Binding := none
  /-- Round boundary after which no cycle opens (R249). -/
  unbindAt : Option Nat := none
  /-- UNBIND_RATES is on its way to the store (R249). -/
  unbindOut : Bool := false
  /-- Registers 0 to 28, stored value plus delta (R256). -/
  reg : List Nat := List.replicate 29 0
  /-- Deltas not yet in the stored copy (R260). -/
  delta : List Nat := List.replicate 29 0
  /-- Residues of registers 0 to 12 (R257). -/
  residue : List Nat := List.replicate 13 0
  /-- SEQ_BASE b (R84). -/
  seqBase : Nat := 0
  /-- PEND_IMP (R260). -/
  pendImp : Nat := 0
  /-- PEND_EXP (R260). -/
  pendExp : Nat := 0
  /-- PEND_IMP of the pending slots of abandoned starts (R100). -/
  carryImp : Nat := 0
  /-- PEND_EXP of the pending slots of abandoned starts (R100). -/
  carryExp : Nat := 0
  /-- S_end of the last committed segment (R272). -/
  sEnd : Nat := 0
  /-- Last committed cycle number (R272). -/
  cycle : Nat := 0
  /-- Cycles committed with ESTIMATED since binding (R272). -/
  estCycles : Nat := 0
  /-- Estimate causes (R239). -/
  causes : Nat := 0
  /-- Causes that end at the next cycle boundary (R239). -/
  estEnd : Nat := 0
  /-- Slot at which the last of them began to end (R239, R416). -/
  estEndAt : Nat := 0
  /-- Estimate state until the next billing snapshot (R382). -/
  snapEst : Bool := false
  /-- Pending slots, oldest first (R228). -/
  slots : List PendSlot := []
  /-- Contributions of the previous cycle (cycle-hold) (R237). -/
  prev : List Contrib := []
  /-- Committed sums of the previous cycle (R237). -/
  prevSums : List ElemSum := []
  /-- Its number of outputs (R237). -/
  prevN : Nat := 0
  /-- Act, rea, app, fun, sqa of the last cycle committed without ESTIMATED (R239). -/
  good : List Int := []
  /-- Model: number, first and end slot of the last committed cycles, newest first (R235). The model's own field, log entry 15. -/
  recent : List (Nat × Nat × Nat) := []
  /-- Its length in slots (R239). -/
  goodLen : Nat := 0
  /-- Act, rea, app, fun, sqa of the last committed cycle (R273). -/
  last : List Int := []
  /-- Its flags (R273). -/
  lastFlags : Nat := 0
  /-- Its length in slots (R273). -/
  lastLen : Nat := 0
  /-- Sums of the segments of the cycle being committed (R273). -/
  accum : List Int := []
  /-- First slot of that cycle (R273). -/
  accumFrom : Nat := 0
  /-- Rate of record (R320). -/
  rate : Nat := 1
  /-- Friendly state of record (R320). -/
  friendly : Bool := false
  /-- Instant up to which the boundary steps have run (R320). -/
  boundaryDone : Nat := 0
  /-- DEMAND_ACC (R323). -/
  demandAcc : Nat := 0
  /-- Device time at which the running subinterval opened (R323). -/
  subTime : Int := 0
  /-- Flags gathered for it (R323). -/
  subFlags : Nat := 0
  /-- Subintervals closed since binding (R380). -/
  subClosed : Nat := 0
  /-- Last subintervals, newest first: energy and flags (R323). -/
  history : List (Nat × Nat) := []
  /-- Total maximum, then rates 1 to 8: D and TIME (R324). -/
  maxDem : List (Nat × Nat) := List.replicate 9 (0, 0)
  /-- Register 0 at the start of the profile interval (R330). -/
  profStart0 : Nat := 0
  /-- Register 1 at the start of the profile interval (R330). -/
  profStart1 : Nat := 0
  /-- Flags gathered for the profile interval (R330). -/
  profFlags : Nat := 0
  /-- Device time at which the profile interval opened (R330). -/
  profTime : Int := 0
  /-- First interval after binding (R330). -/
  profFirst : Bool := true
  /-- PSEQ (R383). -/
  pseq : Nat := 0
  /-- END of the newest profile record (R380). -/
  pend : Nat := 0
  /-- PMARK (R384). -/
  pmark : Nat := 0
  /-- EV_PROFILE_WRAP raised since PMARK moved (R384). -/
  wrapRaised : Bool := false
  /-- Sequence of the newest snapshot (R385). DESIGN CHOICE at reset, log entry 18. -/
  sseq : Nat := 0
  /-- Model: snapshots ever taken for the point number (R385). The model's own field, log entry 18. -/
  snapCount : Nat := 0
  /-- Snapshots of this binding (R327). -/
  billCount : Nat := 0
  /-- END_TIME of the previous snapshot (R327). -/
  billStart : Int := 0
  /-- ESTIMATED, outage and step in the billing period (R327). -/
  billFlags : Nat := 0
  /-- Largest one-second active energy of the interval (R85). -/
  e1 : Nat := 0
  /-- Running second (R85). -/
  e1Second : Nat := 0
  /-- Energy of it in 2^-32 mWh (R85). -/
  e1Acc : Nat := 0
  /-- Ledger and relay state (R339). -/
  ledger : Ledger := {}
  /-- Spans of slots, from and to, in which an alarm response holds freeze credit (R416). -/
  freeze : List (Nat × Option Nat) := []
  /-- Net energy in the running window of each group that involves the point, and (at 16 + g) in the next one (R271). -/
  balance : List (Nat × Int) := []
  /-- S_first that continues the last committed span (R259). -/
  expect : Option Nat := none
  /-- Sags: count, half cycles, worst r (R284). -/
  pqSag : List Nat := [0, 0, 0xFFFF]
  /-- Swells (R284). -/
  pqSwell : List Nat := [0, 0, 0]
  /-- Interruptions (R284). -/
  pqIntr : List Nat := [0, 0, 0xFFFF]
  /-- Sag, swell, interruption of the point running (R297). -/
  pqState : Nat := 0
  /-- Consecutive cycles that show type 13 (R430). -/
  n13 : Nat := 0
  /-- Consecutive cycles that do not (R430). -/
  c13 : Nat := 0
  /-- A confirmation runs (R432). -/
  ask13 : Bool := false
  /-- No new request before this slot (R432). -/
  block13 : Nat := 0
  /-- Consecutive cycles that show type 14 (R430). -/
  n14 : Nat := 0
  /-- Consecutive cycles that do not (R430). -/
  c14 : Nat := 0
  /-- Consecutive cycles that show type 16, per current channel (R430). -/
  n16 : List Nat := [0, 0, 0]
  /-- Consecutive cycles that do not (R430). -/
  c16 : Nat := 0
  /-- Running 60 s span of type 15 (R431). -/
  revSpan : Nat := 0
  /-- Export quanta of the span (R431). -/
  revQuanta : Nat := 0
  /-- P_h of the last window, in mW (R288). -/
  harmP : List Int := []
  /-- VOID flag of the last window (R288). -/
  harmFlags : Nat := 1
  /-- WINDOW_END (R298). -/
  harmEnd : Nat := 0
  deriving DecidableEq, Repr

/-- One scheduled edge of a pulse output (R269). -/
structure PulseEdge where
  /-- The slot at which it leaves. -/
  at_ : Nat := 0
  /-- A rising edge. -/
  rising : Bool := false
  /-- It waits in the queue of crowded edges. -/
  crowded : Bool := false
  deriving DecidableEq, Repr

/-- One calibration pulse output (R267 to R269). -/
structure Pulse where
  /-- MP (R267). -/
  mp : Nat := 0
  /-- QUANTITY, 0xFF off (R267). -/
  quantity : Nat := 0xFF
  /-- WIDTH (R267). -/
  width : Nat := 0
  /-- CONSTANT (R267). -/
  constant : Nat := 0
  /-- Accumulator A (R268). -/
  acc : Nat := 0
  /-- Output level (R55). -/
  level : Bool := false
  /-- Scheduled edges, in time order (R269). -/
  edges : List PulseEdge := []
  /-- Slot of the previous rising edge (R269). -/
  lastRise : Option Nat := none
  /-- Late edges (R269). -/
  late : Nat := 0
  /-- Crowded edges (R269). -/
  crowded : Nat := 0
  /-- Discarded edges (R269). -/
  discarded : Nat := 0
  /-- Assignment for the next round boundary: MP, QUANTITY, WIDTH, CONSTANT (R267). -/
  next : Option (Nat × Nat × Nat × Nat) := none
  deriving DecidableEq, Repr

/-- Setting of a balance group (R270). -/
structure BalSetting where
  /-- WINDOW in minutes (R270). -/
  window : Nat := 0
  /-- REF (R270). -/
  ref : Nat := 0
  /-- ALLOW_PPM (R270). -/
  ppm : Nat := 0
  /-- ALLOW_FIX (R270). -/
  fix : Nat := 0
  /-- MEMBERS (R270). -/
  members : BitVec 256 := 0
  deriving DecidableEq, Repr

/-- One balance group (R270, R271). -/
structure Balance where
  /-- Setting in force (R270). -/
  set : BalSetting := {}
  /-- Setting for the next window end (R270). -/
  next : Option BalSetting := none
  /-- Device time of the end of the running window (R271). -/
  windowEnd : Int := 0
  /-- ESTIMATED, clock step, outage of the running window, then of the next one (R271). -/
  flags : Nat := 0
  /-- S_cs of a step that ends the running window short (R333). -/
  cut : Option Nat := none
  deriving DecidableEq, Repr

/-- One switch point of a day profile (R312). -/
structure DayPoint where
  /-- MINUTE, 0xFFFF unused (R312). -/
  minute : Nat := 0xFFFF
  /-- RATE (R312). -/
  rate : Nat := 1
  /-- FLAGS[0] (R312). -/
  friendly : Bool := false
  deriving DecidableEq, Repr

/-- One calendar (R312). -/
structure Calendar where
  /-- CAL_ID (R312). -/
  calId : Nat := 0
  /-- ACTIVATE (R312). -/
  activate : Nat := 0
  /-- BILL_DAY (R312). -/
  billDay : Nat := 0
  /-- BILL_MINUTE (R312). -/
  billMinute : Nat := 0
  /-- START_MONTH, START_DAY, WEEK (R312). -/
  seasons : List (Nat × Nat × Nat) := []
  /-- Day profile of Monday to Sunday (R312). -/
  weeks : List (List Nat) := []
  /-- Day profiles (R312). -/
  days : List (List DayPoint) := []
  /-- YEAR, MONTH, DAY, DAY_PROFILE (R312). -/
  special : List (Nat × Nat × Nat × Nat) := []
  /-- PRICES (R312). -/
  prices : List Nat := List.replicate 8 0
  deriving DecidableEq, Repr

/-- One tariff plan (R311, R316). -/
structure Plan where
  /-- Active calendar (R311). -/
  active : Option Calendar := none
  /-- Passive calendar (R311). -/
  passive : Option Calendar := none
  /-- Activation instant (R316). -/
  activateAt : Option Nat := none
  /-- Instant and former calendar of an activation whose segments before it may still come (R316). -/
  old : Option (Nat × Option Calendar) := none
  /-- Rate in force (R311). -/
  rate : Nat := 1
  /-- Friendly state in force (R311). -/
  friendly : Bool := false
  deriving DecidableEq, Repr

/-- One boundary table entry (R317). -/
structure Entry where
  /-- INSTANT (R317). -/
  instant : Nat := 0
  /-- Frozen (R317). -/
  frozen : Bool := false
  /-- Command billing end (R317). -/
  command : Bool := false
  /-- Late (R317). -/
  late : Bool := false
  /-- Device time of the boundary, 2^-16 s (R317). -/
  time : Int := 0
  /-- PLAN (R317). -/
  plan : Nat := 0
  /-- KINDS (R317). -/
  kinds : Nat := 0
  /-- Rate from the instant (R317). -/
  rate : Nat := 1
  /-- Friendly from the instant (R317). -/
  friendly : Bool := false
  /-- Points of a command billing end (R329). -/
  points : List Nat := []
  deriving DecidableEq, Repr

/-- One boundary commit in progress (R320, R322). -/
structure Commit where
  /-- SEQ (R322). -/
  seq : Nat := 0
  /-- The commit of a step or a zone change, for all plans (R333). -/
  step : Bool := false
  /-- T (R322). -/
  instant : Nat := 0
  /-- TIME (R322). -/
  time : Int := 0
  /-- EXEC (R322). -/
  exec : Nat := 0
  /-- FLAGS (R322). -/
  flags : Nat := 0
  /-- Entries of all plans at T (R320). -/
  entries : List Entry := []
  /-- Affected points that have not passed T, and points whose first cycle, not yet open, may still open at or before T
  (R320). -/
  waiting : List Nat := []
  /-- POINTS (R322). -/
  points : Nat := 0
  /-- SNAPSHOTS (R322). -/
  snapshots : Nat := 0
  /-- Points that set a new total maximum (R324). -/
  newMax : List Nat := []
  deriving DecidableEq, Repr

/-- One BILLING_CLOSE whose reply is owed (R329). -/
structure CloseReq where
  /-- INSTANT (R329). -/
  instant : Nat := 0
  /-- Port (R329). -/
  port : Nat := 0
  /-- Named points not yet through step 5 (R329). -/
  left : List Nat := []
  /-- Snapshots taken (R329). -/
  snaps : Nat := 0
  deriving DecidableEq, Repr

/-- Calendar sequencer (R302 to R338). -/
structure Tariff where
  /-- Plans 0 to 3 (R311). -/
  plans : List Plan := List.replicate 4 {}
  /-- Boundary table, ascending (R317). -/
  table : List Entry := []
  /-- Device time up to which the table is filled (R318). -/
  tableEnd : Int := 0
  /-- Last executed TIME of each kind and plan (R322). DESIGN CHOICE at reset, log entry 19. -/
  lastExec : List (List Int) := List.replicate 6 [-1, -1, -1, -1]
  /-- Boundary commits since first commissioning (R322). -/
  bcSeq : Nat := 0
  /-- Boundary commits in progress, in instant order (R320). -/
  commits : List Commit := []
  /-- BILLING_CLOSE replies owed (R329). -/
  closes : List CloseReq := []
  /-- Snapshots to sign: MP and SSEQ, in boundary order (R328). -/
  signQueue : List (Nat × Nat) := []
  /-- Round boundary at which TT_ZONE has changed, while ZONE_CHANGE has not run (R516). -/
  zoneAt : Option Nat := none
  /-- Slot of the last EV_BOUNDARY_TABLE_LOW (R318). -/
  lowAt : Option Nat := none
  /-- Span covered ahead is below TT_TABLE_LOW (R337). -/
  tableLow : Bool := false
  /-- DEMAND_RESET requests for the next round boundary (R325). -/
  demReset : List (List Nat × Option Nat) := []
  /-- Accepted demand and profile settings, oldest first: index 0 to 7, device time from which it holds, value (R338). -/
  intervals : List (Nat × Int × Nat) := []
  deriving DecidableEq, Repr

/-- One token handed to the commit unit (R353). -/
structure TokenReq where
  /-- Port of the request (R353). -/
  port : Nat := 0
  /-- Point (R353). -/
  mp : Nat := 0
  /-- CLASS (R349). -/
  class_ : Nat := 0
  /-- SERIAL (R349). -/
  serial : Nat := 0
  /-- AMOUNT (R349). -/
  amount : Nat := 0
  deriving DecidableEq, Repr

/-- One driver board as the relay controller sees it (R361 to R364). -/
structure Board where
  /-- DIR of the last latch (R364). DESIGN CHOICE at reset, log entry 20. -/
  latched : Nat := 0xFF
  /-- DIR of the latch before (R364). DESIGN CHOICE at reset, log entry 20. -/
  latched1 : Nat := 0xFF
  /-- POS of the last good readback (R362). DESIGN CHOICE at reset, log entry 20. -/
  pos : Nat := 0xFF
  /-- Consecutive bad readbacks (R364). -/
  bad : Nat := 0
  /-- Consecutive mismatches per relay (R364). -/
  mism : List Nat := [0, 0, 0, 0, 0, 0, 0, 0]
  /-- Refreshes since the chain (re)started, saturating at 2 (R364). -/
  depth : Nat := 0
  deriving DecidableEq, Repr

/-- A SET_CREDIT_POLICY that acts at the next round boundary (R359). -/
structure PolicyReq where
  points : List Nat
  flags : BitVec 32
  low1 : Nat
  low2 : Nat
  low3 : Nat
  ecLimit : Nat
  daily : Nat
  creditMax : Nat
  deriving DecidableEq, Repr

/-- A RELAY_COMMAND that acts at the next round boundary (R357). -/
structure RelayReq where
  mp : Nat
  action : Nat
  seconds : Nat := 0
  port : Nat := 0
  deriving DecidableEq, Repr

/-- Relay controller (R344 to R364). -/
structure Relays where
  /-- Directives not yet taken: relay and OPEN (R347). -/
  q15 : List (Nat × Bool) := []
  /-- Directives in force, bit k set closes (R362). DESIGN CHOICE at reset, log entry 20. -/
  dirs : List Nat := List.replicate 32 0xFF
  /-- Relays whose changed directive is held (R96). -/
  held : List Nat := []
  /-- Driver boards (R362). -/
  boards : List Board := List.replicate 32 {}
  /-- Frames last shifted out (R362). -/
  frames : List Nat := []
  /-- Readback frames last shifted in (R362). -/
  readback : List Nat := []
  /-- RLY_CONFIG in force at the last refresh (R365). -/
  config : Nat := 0
  /-- Model: refreshes since power-on (R363). The model's own field, log entry 15. -/
  refreshes : Nat := 0
  /-- Relay commands for the next round boundary (R357). -/
  commands : List RelayReq := []
  /-- Credit policies for the next round boundary (R359). -/
  policies : List PolicyReq := []
  /-- Points whose RECONNECT_ARM acts at the next round boundary (R358). -/
  arms : List Nat := []
  /-- Tokens handed over, oldest first (R353). -/
  tokens : List TokenReq := []
  deriving DecidableEq, Repr

/-- One open coalescing window (R293, R294). -/
structure CoalWin where
  /-- CODE of the member reports (R294). -/
  class_ : Nat := 0
  /-- End reports (R293). -/
  end_ : Bool := false
  /-- Kind of the domain (R405). -/
  domKind : Nat := 0
  /-- Index of the domain (R405). -/
  domIdx : Nat := 0
  /-- Slot of the first report (R294). -/
  first : Nat := 0
  /-- End of the window (R294). -/
  close : Nat := 0
  /-- Reports joined, oldest first (R294). -/
  reports : List EvGroup := []
  /-- Member metering points (R293). -/
  points : List Nat := []
  /-- Member channels (R293). -/
  chans : List Nat := []
  /-- Worst value (R295). -/
  worst : Int := 0
  /-- Channel of it (R295). -/
  worstCh : Nat := 0xFFFF
  deriving DecidableEq, Repr

/-- One capture track (R292). -/
structure Track where
  /-- CHANNEL (R292). -/
  ch : Nat := 0
  /-- RATE (R292). -/
  rate : Nat := 0
  /-- Stamp of the first output since the ring (re)started (R291). -/
  start : Nat := 0
  /-- Outputs kept, oldest first: stamp and value (-8 388 608 excluded) (R292). -/
  data : List (Nat × Int) := []
  deriving DecidableEq, Repr

/-- Waveform capture (R290 to R292). -/
structure Capture where
  /-- STATE (R291). -/
  state : CaptureState := .idle
  /-- FLAGS (R292). -/
  flags : Nat := 0
  /-- Selected triggers (R299). -/
  triggers : Nat := 0
  /-- ANY (R299). -/
  any : Bool := false
  /-- CAUSE (R292). -/
  cause : Nat := 0
  /-- SOURCE (R292). -/
  source : Nat := 0
  /-- T_trig (R290). -/
  trig : Nat := 0
  /-- TRIG_TIME (R292). -/
  trigTime : Int := 0
  /-- END_STAMP (R292). -/
  endStamp : Nat := 0
  /-- CAPTURE_SEQ (R292). -/
  seq : Nat := 0
  /-- IGNORED (R292). -/
  ignored : Nat := 0
  /-- Round boundary from which the rings run (R299). -/
  from_ : Nat := 0
  /-- Tracks (R292). -/
  tracks : List Track := []
  /-- Header complete with its valid mark (R292). -/
  valid : Bool := false
  deriving DecidableEq, Repr

/-- Power-quality detector, coalescer and capture (R275 to R301). -/
structure Pq where
  /-- Items from the engine (R278). -/
  q9 : List QWord := []
  /-- Open coalescing windows (R294). -/
  windows : List CoalWin := []
  /-- Reports that found no window (R294). -/
  overflow : Nat := 0
  /-- Waveform capture (R291). -/
  capture : Capture := {}
  /-- Harmonic analysis stopped (BOOT, lean metering) (R285). -/
  harmPaused : Bool := true
  deriving DecidableEq, Repr

/-- One slot of the event ring: a head record or an extension record (R400, R404). -/
structure EvRecord where
  /-- Event sequence (R399). -/
  seq : Nat := 0
  /-- Head record; none for an extension record (R400). -/
  head : Option EvHead := none
  /-- DATA of an extension record (R404). -/
  ext : List Byte := []
  deriving DecidableEq, Repr

/-- A group staged in Q14 during a freeze (R408, R409). -/
structure Staged where
  /-- Records of the group (R408). -/
  recs : List EvRecord := []
  deriving DecidableEq, Repr

/-- A freeze of the event log (R408, R409). -/
structure Freeze where
  /-- FROZEN_SEQ (R408). -/
  seq : Nat := 0
  /-- Slot at which it began (R409). -/
  start : Nat := 0
  /-- Staged groups (R409). -/
  staged : List Staged := []
  /-- LOST (R409). -/
  lost : Nat := 0
  /-- EV_LOG_FROZEN_FULL placed (R409). -/
  full : Bool := false
  deriving DecidableEq, Repr

/-- Event recorder (R399 to R412, R518). -/
structure Events where
  /-- Sequence of the next record (R399). -/
  seq : Nat := 0
  /-- Events waiting for the recorder (R31). -/
  q13 : List EvGroup := []
  /-- Freeze in force (R408). -/
  freeze : Option Freeze := none
  /-- Slot of the last EV_AUTH_FAIL of each cause (R518). -/
  authAt : List (Option Nat) := [none, none, none, none]
  /-- Failures of each cause since its previous record (R518). -/
  authCount : List Nat := [0, 0, 0, 0]
  /-- Slot of the last EV_STORE_UNCORRECTABLE (R390). -/
  uncorrAt : Option Nat := none
  /-- Words found since (R390). -/
  uncorrCount : Nat := 0
  deriving DecidableEq, Repr

/-- One active alarm (R413 to R416). -/
structure Alarm where
  /-- Alarm type (R413). -/
  type : Nat := 0
  /-- 0 for device scope, the point or the group (R414). -/
  target : Nat := 0
  /-- Response word it was raised with (R415). -/
  word : Nat := 0
  /-- Slot of the raise (R414). -/
  raised : Nat := 0
  /-- R, the first round boundary after the raise (R416). -/
  from_ : Nat := 0
  /-- Its response has been applied at R (R416). -/
  applied : Bool := false
  /-- Fields that the owning chapter adds to its record (R271). -/
  extra : List Byte := []
  deriving DecidableEq, Repr

/-- One entry of the backup alarm buffer (R441). -/
structure BufEntry where
  /-- TYPE (R441). -/
  type : Nat := 0
  /-- EVID (R441). -/
  evid : Nat := 0
  /-- TIME (R441). -/
  time : Int := 0
  /-- PERIODS (R441). -/
  periods : Nat := 0
  /-- DATA (R441). -/
  data : Nat := 0
  /-- CRC and VALID match (R441). -/
  valid : Bool := true
  deriving DecidableEq, Repr

/-- One tamper input or the light sensor (R422 to R426). -/
structure Input where
  /-- Consecutive samples that disagree (R425). -/
  disagree : Nat := 0
  /-- Consecutive samples that agree (R425). -/
  agree : Nat := 0
  deriving DecidableEq, Repr

/-- Counts of one thermal watch entry (R434). -/
structure Therm where
  /-- Consecutive means above THRESH (R434). -/
  above : Nat := 0
  /-- Consecutive means at or below THRESH - HYST (R434). -/
  below : Nat := 0
  /-- The entry asks for the alarm of its point (R434). -/
  on : Bool := false
  deriving DecidableEq, Repr

/-- Alarms, tamper inputs, evidence and CAL_LINK (R413 to R445, R130). -/
structure Tamper where
  /-- Active alarms, in order of raise (R414). -/
  alarms : List Alarm := []
  /-- Slots at which a LOCK whose alarm has cleared ends (R416). -/
  locks : List Nat := []
  /-- Slot of the last counted increment of each type (R416). -/
  evidAt : List (Option Nat) := List.replicate 19 none
  /-- Raises of each type (R416). -/
  recCount : List Nat := List.replicate 19 0
  /-- TAMP0 to TAMP7, then light (R425). -/
  inputs : List Input := List.replicate 9 {}
  /-- Loop generators (R423). DESIGN CHOICE at reset, log entry 21. -/
  lfsr : List (BitVec 31) := [1, 1, 1, 1]
  /-- Slot of the last supply excursion (R426). -/
  glitchAt : Option Nat := none
  /-- Backup alarm buffer, by entry (R441). -/
  buffer : List BufEntry := []
  /-- TOTAL (R442). -/
  total : Nat := 0
  /-- Pending increments (R442). -/
  pendInc : List Nat := List.replicate 16 0
  /-- PEND_MASK (R421). -/
  pendMask : BitVec 32 := 0
  /-- PEND_WORD (R421). -/
  pendWord : Nat := 0
  /-- DORMANT mask of the always-on domain (R444). -/
  dormantMask : BitVec 32 := 0
  /-- Overflow count of each evidence counter (R438). -/
  overflow : List Nat := List.replicate 16 0
  /-- Model: 10 ms low pulses given on WAKE_OUT (R440). The model's own field, log entry 15. -/
  wakePulses : Nat := 0
  /-- Thermal watch counts (R434). -/
  therm : List Therm := List.replicate 16 {}
  /-- Filtered state of CAL_LINK: shorted (R130). DESIGN CHOICE at reset, log entry 5. -/
  calLink : Bool := false
  /-- Consecutive 1 ms samples of CAL_LINK that differ from it (R130). -/
  calLinkRun : Nat := 0
  /-- Slot at which CAL_LINK was last seen to open (R101). -/
  calOpenAt : Nat := 0
  deriving DecidableEq, Repr

/-- Point record in the store (R380). -/
structure PointRec where
  /-- SEQ (R380). -/
  seq : Nat := 0
  /-- CAUSE (R380). -/
  cause : Nat := 0
  /-- BIND_SEQ (R380). -/
  bindSeq : Nat := 0
  /-- SAMPLE (R380). -/
  sample : Nat := 0
  /-- REG (R380). -/
  reg : List Nat := []
  /-- RESIDUE (R380). -/
  residue : List Nat := []
  /-- DEMAND_ACC (R380). -/
  demandAcc : Nat := 0
  /-- HIST and HFLAGS (R380). -/
  history : List (Nat × Nat) := []
  /-- Subintervals closed since binding (R380). -/
  subClosed : Nat := 0
  /-- MAXDEM (R380). -/
  maxDem : List (Nat × Nat) := []
  /-- E1 (R380). -/
  e1 : Nat := 0
  /-- PSEQ (R380). -/
  pseq : Nat := 0
  /-- PEND (R380). -/
  pend : Nat := 0
  /-- EST_CYCLES (R380). -/
  estCycles : Nat := 0
  /-- CYCLE (R380). -/
  cycle : Nat := 0
  /-- PMARK (R380). -/
  pmark : Nat := 0
  /-- SSEQ (R380). -/
  sseq : Nat := 0
  /-- Ledger part (R380). -/
  ledger : Ledger := {}
  deriving DecidableEq, Repr

/-- Billing snapshot (R327). -/
structure Snapshot where
  /-- MP (R327). -/
  mp : Nat := 0
  /-- PLAN (R327). -/
  plan : Nat := 0
  /-- CAUSE (R327). -/
  cause : Nat := 0
  /-- FLAGS (R327). -/
  flags : Nat := 0
  /-- BILL_COUNT (R327). -/
  billCount : Nat := 0
  /-- BIND_SEQ (R327). -/
  bindSeq : Nat := 0
  /-- START_TIME (R327). -/
  startTime : Int := 0
  /-- END_TIME (R327). -/
  endTime : Int := 0
  /-- END_SAMPLE (R327). -/
  endSample : Nat := 0
  /-- BC_SEQ (R327). -/
  bcSeq : Nat := 0
  /-- EST_CYCLES (R327). -/
  estCycles : Nat := 0
  /-- REG (R327). -/
  reg : List Nat := []
  /-- LEGAL_IMP, LEGAL_EXP, WRAPS_IMP, WRAPS_EXP (R327). -/
  legal : List Nat := []
  /-- MAXDEM (R327). -/
  maxDem : List (Nat × Nat) := []
  /-- C of CREDIT (R356). -/
  credit : Int := 0
  /-- H of CREDIT (R356). -/
  h : Nat := 0
  /-- Flags of CREDIT (R356). -/
  creditFlags : Nat := 0
  /-- SSEQ (R327). -/
  sseq : Nat := 0
  deriving DecidableEq, Repr

/-- Profile record (R330). -/
structure Profile where
  /-- END (R330). -/
  endTime : Nat := 0
  /-- IMPORT (R330). -/
  imp : Nat := 0
  /-- EXPORT (R330). -/
  exp : Nat := 0
  /-- FLAGS (R330). -/
  flags : Nat := 0
  deriving DecidableEq, Repr

/-- Boundary commit record (R322). -/
structure BcRec where
  /-- SEQ (R322). -/
  seq : Nat := 0
  /-- INSTANT (R322). -/
  instant : Nat := 0
  /-- TIME (R322). -/
  time : Int := 0
  /-- EXEC (R322). -/
  exec : Nat := 0
  /-- KINDS (R322). -/
  kinds : List Nat := []
  /-- STATES (R322). -/
  states : List Nat := []
  /-- FLAGS (R322). -/
  flags : Nat := 0
  /-- POINTS (R322). -/
  points : Nat := 0
  /-- SNAPSHOTS (R322). -/
  snapshots : Nat := 0
  deriving DecidableEq, Repr

/-- Adjournment marker (R81). -/
structure Marker where
  /-- RUN (R81). -/
  run : Nat := 0
  /-- S_STOP (R81). -/
  sStop : Nat := 0
  /-- TIME_STOP (R81). -/
  timeStop : Int := 0
  /-- MODE (R81). -/
  mode : Mode := .dormant
  /-- CAUSE (R81). -/
  cause : Nat := 0
  /-- BOUNDARIES (R81). -/
  boundaries : Nat := 0
  /-- REG_RECORDS (R81). -/
  regRecords : Nat := 0
  /-- EVENT_RECORDS (R81). -/
  eventRecords : Nat := 0
  /-- HANDLES (R81). -/
  handles : Nat := 0
  /-- VHOLD_MV (R81). -/
  vholdMv : Nat := 0
  /-- ENERGY_UJ (R81). -/
  energyUj : Nat := 0
  /-- CHOLD_UF (R81). -/
  cUf : Nat := 0
  deriving DecidableEq, Repr

/-- Run record (R381). -/
structure RunRec where
  /-- RUN (R381). -/
  run : Nat := 0
  /-- FIRST_SAMPLE (R381). -/
  firstSample : Nat := 0
  /-- TIME (R381). -/
  time : Int := 0
  /-- OUTCOME (R381). -/
  outcome : Nat := 0
  /-- MODE (R381). -/
  mode : Mode := .dormant
  /-- TORN (R381). -/
  torn : Nat := 0
  /-- PREV_RUN (R381). -/
  prevRun : Nat := 0
  deriving DecidableEq, Repr

/-- Device record (R379). -/
structure DeviceRec where
  /-- SEQ (R379). -/
  seq : Nat := 0
  /-- Newest anchor (R306). -/
  anchor : Anchor := {}
  /-- Checkpoint interval in force (R88). -/
  ckptS : Nat := 10
  /-- Scrubber position (R389). -/
  scrubPos : Nat := 0
  deriving DecidableEq, Repr

/-- Sequencer record (R322, R329). -/
structure SeqRec where
  /-- SEQ (R379). -/
  seq : Nat := 0
  /-- Last executed TIME of each kind and plan (R322). -/
  lastExec : List (List Int) := []
  /-- Command billing ends entered and not executed (R329). -/
  closes : List Entry := []
  deriving DecidableEq, Repr

/-- Seal state record (R464). -/
structure SealState where
  /-- SEQ (R379). -/
  seq : Nat := 0
  /-- SEAL_MOVES (R464). -/
  moves : Nat := 0
  /-- H of the operations window (R457). -/
  opsH : Nat := 0
  /-- Bitmap of the operations window (R457). -/
  opsMap : BitVec 64 := 0
  /-- H of the metrology window (R457). -/
  metH : Nat := 0
  /-- Bitmap of the metrology window (R457). -/
  metMap : BitVec 64 := 0
  /-- SEQ of the last calibration package (R464). -/
  lastSeq : Nat := 0
  /-- VERSION of it (R464). -/
  lastVersion : Nat := 0
  /-- Device time of it (R464). -/
  lastTime : Int := 0
  /-- SHAKE256 digest of it (R464). -/
  lastDigest : List Byte := []
  deriving DecidableEq, Repr

/-- One record on its way through the store writer (R369), by its kind and location; a log entry names the log copy that its job
writes (R378). -/
inductive StoreRec where
  | point (mp : Nat) (r : PointRec)
  | relay (mp : Nat) (l : Ledger)
  | pqCount (mp : Nat) (c : List (List Nat))
  | sequencer (r : SeqRec)
  | sealState (r : SealState)
  | evidence (counts overflow : List Nat)
  | device (r : DeviceRec)
  | marker (r : Marker) (second : Bool)
  | run (r : RunRec) (second : Bool)
  | boundary (r : BcRec) (second : Bool)
  | profile (mp : Nat) (q : Nat) (r : Profile)
  | snapshot (r : Snapshot)
  | event (r : EvRecord)
  | signature (mp sseq : Nat) (bytes : List Byte)
  | image (target slot offset : Nat) (bytes : List Byte)
  | host (offset : Nat) (bytes : List Byte)
  | handles (l : List OpRef)
  deriving DecidableEq, Repr

/-- One job of the store writer (R369 to R372). -/
structure StoreJob where
  /-- Priority of its source (R370). -/
  prio : Nat := 2
  /-- Records of the job (R369). -/
  recs : List StoreRec := []
  /-- Operation that completes when the job ends (R143). -/
  op : Option OpRef := none
  /-- Port whose waiting reply is released (R137). -/
  reply : Option Nat := none
  /-- The job waits on the energy check (R372). -/
  wait : Bool := false
  /-- The void phase of the waiting job has ended (R369, R372). -/
  voided : Bool := false
  /-- Point whose token the record applies (R353). -/
  token : Option Nat := none
  /-- The record belongs to a checkpoint (R387). -/
  ckpt : Bool := false
  deriving DecidableEq, Repr

/-- Scrubber (R389 to R392, R394). -/
structure Scrub where
  /-- Word position in the pass (R389). -/
  pos : Nat := 0
  /-- Pace exponent (R389). -/
  k : Nat := 0
  /-- Scrubbing paused (R393). -/
  paused : Bool := true
  /-- SCRUB_NOW running (R392). -/
  nowOp : Option OpRef := none
  /-- Full-pace pass running (R392). -/
  full : Bool := false
  /-- Highest die temperature of the previous hour, 1/16 C (R389). DESIGN CHOICE at reset, log entry 5. -/
  theta : Int := 0
  /-- Slot at which the running hour began (R389). -/
  hourAt : Nat := 0
  /-- PASS_START (R394). -/
  passStart : Int := 0
  /-- Weak words of the running pass (R390). -/
  weak : Nat := 0
  /-- Corrected words of the running pass (R390). -/
  corrected : Nat := 0
  /-- Uncorrectable words of the running pass (R390). -/
  uncorr : Nat := 0
  /-- PASS_WEAK (R394). -/
  passWeak : Nat := 0
  /-- PASS_CORRECTED (R394). -/
  passCorrected : Nat := 0
  /-- PASS_UNCORR (R394). -/
  passUncorr : Nat := 0
  deriving DecidableEq, Repr

/-- A dual-copy record (R377): copy A, copy B, and which copy the last write used. -/
structure Dual (α : Type) where
  a : Slot α := .blank
  b : Slot α := .blank
  lastB : Bool := true
  deriving DecidableEq, Repr

/-- The non-volatile store (R366 to R398). -/
structure Store where
  /-- Jobs of the writer, in the order in which it takes them (R369). -/
  jobs : List StoreJob := []
  /-- Point records (R379). -/
  points : List (Dual PointRec) := List.replicate 256 {}
  /-- Relay records of reference and unbound points (R379). -/
  relayRecs : List (Dual Ledger) := List.replicate 256 {}
  /-- Power-quality counter records (R379). -/
  pqRecs : List (Dual (List (List Nat))) := List.replicate 256 {}
  /-- Sequencer record (R379). -/
  seqRec : Dual SeqRec := {}
  /-- Seal state (R379). -/
  sealRec : Dual SealState := {}
  /-- Evidence mirror: counts and overflow counts (R379). -/
  evidRec : Dual (List Nat × List Nat) := {}
  /-- Device record (R379). -/
  deviceRec : Dual DeviceRec := {}
  /-- Adjournment marker log, newest first, by RUN (R378, R379). -/
  markers : List (Nat × Dual Marker) := []
  /-- Run record log, newest first, by RUN (R378, R379). -/
  runs : List (Nat × Dual RunRec) := []
  /-- Boundary commit log, newest first, by SEQ (R378, R379). -/
  bcs : List (Nat × Dual BcRec) := []
  /-- Profile rings, newest first, by sequence (R383). -/
  profiles : List (List (Nat × Slot Profile)) := List.replicate 256 []
  /-- Snapshot rings, newest first, by sequence (R385). -/
  snaps : List (List (Nat × Slot Snapshot)) := List.replicate 256 []
  /-- Snapshot signatures: MP, SSEQ, header and signature (R385). -/
  sigs : List (Nat × Nat × List Byte) := []
  /-- Event ring, newest first, by sequence (R386). -/
  ring : List (Nat × Slot EvRecord) := []
  /-- Sequence after the last record in the region (R410). -/
  ringNext : Nat := 0
  /-- Handles outstanding at the last adjournment (R77). -/
  handleList : List OpRef := []
  /-- Host-reserved region: bytes other than 0x00 (R397). -/
  host : List Host.Cell := []
  /-- Scrubber (R389). -/
  scrub : Scrub := {}
  /-- CORRECTED (R393). -/
  corrected : Nat := 0
  /-- UNCORRECTABLE (R393). -/
  uncorr : Nat := 0
  /-- WEAK (R393). -/
  weak : Nat := 0
  /-- PASSES (R393). -/
  passes : Nat := 0
  /-- TORN (R393). -/
  torn : Nat := 0
  /-- Invalid records found by the start scan (R381). -/
  tornStart : Nat := 0
  /-- PAGES (R393). -/
  pages : Nat := 0
  /-- DEFERRED (R393). -/
  deferred : Nat := 0
  /-- A fallback of R382 has occurred (R393). -/
  fallback : Bool := false
  /-- LAST_BAD (R394). -/
  lastBad : Nat := 0xFFFFFFFF
  deriving DecidableEq, Repr

/-- Vending keys of a plan (R350, R462, R492). -/
structure Vending where
  /-- Key in force (R462). -/
  key : Option (List Byte) := none
  /-- Previous key (R462). -/
  prev : Option (List Byte) := none
  /-- Slot at which the previous key leaves force (R492). -/
  prevEnd : Nat := 0
  deriving DecidableEq, Repr

/-- One session key (R460). -/
structure Session where
  /-- Key (R460). -/
  key : List Byte := []
  /-- Slot at which its lifetime ends (R460). -/
  end_ : Nat := 0
  deriving DecidableEq, Repr

/-- One partial package (R315). -/
structure Partial where
  /-- TOTAL of the first fragment (R315). -/
  total : Nat := 0
  /-- Bytes received (R315). -/
  data : List Byte := []
  /-- Port of the last fragment (R315). -/
  port : Nat := 0
  /-- FUNCTION of LOAD_KEYS (R463). -/
  func : Nat := 0
  deriving DecidableEq, Repr

/-- What a job of the security engine serves (R451). -/
inductive JobKind where
  | plan (p : Nat) -- verification of a calendar package (R315)
  | cal          -- verification of a calibration package (R467)
  | key (function : Nat) -- LOAD_KEYS (R463)
  | decrypt      -- decryption of a verified key package (R462)
  | image (target slot : Nat) -- IMAGE_END (R481)
  deriving DecidableEq, Repr

/-- One job of the security engine (R451). -/
structure SecJob where
  /-- What the job serves (R451). -/
  kind : JobKind := .cal
  /-- Operation that waits for it (R142). -/
  op : Option OpRef := none
  /-- Package or data (R451). -/
  data : List Byte := []
  /-- Port of the request (R518). -/
  port : Nat := 0
  /-- Run once more after a poisoned result (R451). -/
  rerun : Bool := false
  deriving DecidableEq, Repr

/-- A CAL_MEASURE in progress (R468). -/
structure Measure where
  op : OpRef
  ch : Nat
  ref : Option Nat := none
  cycles : Nat := 1
  from_ : Nat := 0
  start : Option Nat := none
  done : Nat := 0
  nOut : Nat := 0
  excluded : Nat := 0
  sumZ : Int := 0
  sumZZ : Nat := 0
  sumUZ : Int := 0
  sumHZ : Int := 0
  ovl : Bool := false
  deriving DecidableEq, Repr

/-- Security engine, keys and seal (R446 to R476). -/
structure Security where
  /-- Identity key present (R476). -/
  idKey : Bool := false
  /-- Transport key present (R476). -/
  transportKey : Bool := false
  /-- Installed public keys: vendor, operations, metrology (R447). DESIGN CHOICE at reset, log entry 22. -/
  pubKeys : List (List Byte) := [Config.vendorKey, [], []]
  /-- Identity certificate package (R473). -/
  cert : List Byte := []
  /-- Seal state in force (R464). -/
  sealSt : SealState := {}
  /-- Vending keys of the plans (R462). -/
  vending : List Vending := List.replicate 4 {}
  /-- Operations session key (R460). -/
  opsSession : Option Session := none
  /-- Metrology session key (R460). -/
  metSession : Option Session := none
  /-- Entropy source failed (R449). -/
  entropyFailed : Bool := false
  /-- AUTH_FAILS (R476). -/
  authFails : Nat := 0
  /-- Jobs of the security engine, oldest first (R451). -/
  jobs : List SecJob := []
  /-- Partial packages of LOAD_PLAN (R315). -/
  plans : List (Option Partial) := [none, none, none, none]
  /-- Partial package of CAL_WRITE (R467). -/
  calPart : Option Partial := none
  /-- Partial data of LOAD_KEYS (R463). -/
  keyPart : Option Partial := none
  /-- CAL_MEASURE operations in progress (R468). -/
  measures : List Measure := []
  deriving DecidableEq, Repr

/-- One image slot (R477, R519). -/
structure Image where
  /-- Holds a verified package (R477). -/
  ok : Bool := false
  /-- VERSION of the verified package (R477). DESIGN CHOICE at reset, log entry 23. -/
  version : Nat := 0
  /-- ROLLBACK of it (R453). DESIGN CHOICE at reset, log entry 23. -/
  rollback : Nat := 0
  /-- Package bytes (R368). DESIGN CHOICE at reset, log entry 23. -/
  package : List Byte := []
  /-- Model: the slot holds the package delivered with the device (R519). The model's own field, log entry 23. -/
  factory : Bool := false
  deriving DecidableEq, Repr

/-- An open image load session (R478 to R480). -/
structure LoadSession where
  /-- SESSION_TARGET (R477). -/
  target : Nat := 0
  /-- Slot being loaded (R478). -/
  slot : Nat := 0
  /-- SESSION_PORT (R477). -/
  port : Nat := 0
  /-- TOTAL (R478). -/
  total : Nat := 0
  /-- RECEIVED (R479). -/
  received : Nat := 0
  /-- Slot of the last accepted IMAGE_DATA or of the opening (R480). -/
  last : Nat := 0
  deriving DecidableEq, Repr

/-- An accepted IMAGE_ACTIVATE (R482): the slot, FORCE, and the port of the request. -/
structure CcReq where
  slot : Nat
  force : Bool := false
  port : Nat := 0
  /-- Slot at which its reply was ready (R482). -/
  at_ : Nat := 0
  deriving DecidableEq, Repr

/-- An accepted UCODE_ACTIVATE (R485): the slot, its operation, and the sample index of its acceptance. -/
structure UcodeReq where
  slot : Nat
  op : OpRef
  from_ : Nat := 0
  deriving DecidableEq, Repr

/-- Image slots and switches (R477 to R485). -/
structure Images where
  /-- Control-core slot A (R477). -/
  ccA : Image := {}
  /-- Control-core slot B (R477). -/
  ccB : Image := {}
  /-- Microcode slot A (R477). -/
  ucA : Image := {}
  /-- Microcode slot B (R477). -/
  ucB : Image := {}
  /-- CC_ACTIVE (R519). -/
  ccActive : Nat := 0
  /-- UC_ACTIVE (R519). -/
  ucActive : Nat := 0
  /-- CC_TRIAL (R477). -/
  trial : Bool := false
  /-- Load session (R477). -/
  session : Option LoadSession := none
  /-- Accepted IMAGE_ACTIVATE (R482). -/
  ccReq : Option CcReq := none
  /-- Accepted UCODE_ACTIVATE (R485). -/
  ucReq : Option UcodeReq := none
  /-- Microcode slot verified at this start and not yet in use (R90). -/
  ucBoot : Option Nat := none
  /-- FW_SLOT (R157). -/
  fwSlot : Nat := 0xFF
  /-- FW_VERSION (R157). -/
  fwVersion : Nat := 0
  /-- UCODE_VERSION (R157). -/
  ucVersion : Nat := 0
  /-- Slot of step 3 of the switch (R484). -/
  switchSlot : Nat := 0
  /-- Image slots that failed verification at this start (R452). -/
  badSlots : List Nat := []
  deriving DecidableEq, Repr

/-- The whole device. -/
structure State where
  /-- Commands that wait, first in, first out. The model's own field, log entry 2. -/
  pending : List Instr := []
  /-- Fixed at manufacture (R3). -/
  fuses : Fuses := {}
  /-- One-time-programmable memory (R446). -/
  otp : Otp := {}
  /-- Supply (R63). -/
  power : Power := {}
  /-- Time base (R20). -/
  clock : Clock := {}
  /-- Mode and lifecycle progress (R95). -/
  mode : ModeSt := {}
  /-- Control plane (R32). -/
  cp : ControlPlane := {}
  /-- P0, P1, P2 (R149). -/
  ports : List Port := []
  /-- P3 (R131). -/
  tap : Tap := {}
  /-- Flow state of Q0 to Q31 (R31). -/
  queues : List QueueStat := []
  /-- Parameter values that differ from their reset value, by rising PID (R507). -/
  params : List (Nat × BitVec 32) := []
  /-- Channels (R173). -/
  channels : List Channel := List.replicate 512 {}
  /-- Islands (R174). -/
  islands : List Island := List.replicate 8 {}
  /-- Engine island (R216). -/
  engine : Engine := {}
  /-- Segment records on their way to the commit unit (R255). -/
  q8 : List QWord := []
  /-- Urgent requests on their way to the islands (R31). -/
  q28 : List Urgent := []
  /-- Metering points (R245). -/
  points : List Point := List.replicate 256 {}
  /-- Device-wide binding number (R248). -/
  bindSeq : Nat := 0
  /-- Calibration pulse outputs (R267). -/
  pulses : List Pulse := List.replicate 8 {}
  /-- Balance groups (R270). -/
  groups : List Balance := List.replicate 16 {}
  /-- Calendar sequencer (R317). -/
  tariff : Tariff := {}
  /-- Relay controller (R361). -/
  relays : Relays := {}
  /-- Power quality (R275). -/
  pq : Pq := {}
  /-- Event recorder (R399). -/
  events : Events := {}
  /-- Tamper and alarms (R422). -/
  tamper : Tamper := {}
  /-- Non-volatile store (R366). -/
  store : Store := {}
  /-- Security (R446). -/
  security : Security := {}
  /-- Image slots (R477). -/
  images : Images := {}
  /-- Counter that numbers the free values the model draws. The model's own field, log entry 6. -/
  free : Nat := 0
  deriving DecidableEq, Repr

/-- Why a step stops although the command is modelled. No meaning of this model raises one: every command of the table has
an effect the spec states. The one constructor is kept for a store address outside the die (R366), which no command can
form: the operation that reads or writes the host-reserved region answers nothing there. Safe. -/
inductive Fault where
  /-- An access beyond the 128 MiB of the store die (R366). Raised by no command: their ranges are checked at order 3 of
  R112. Safe. -/
  | storeAddress (address : Nat)
  deriving DecidableEq, Repr

/-- Why a command is refused by the model. -/
inductive Refusal where
  /-- The command has no meaning in this model yet. Raised only by an arm of `exec`. Safe. -/
  | notModelled (mnemonic : String)
  deriving DecidableEq, Repr

/-- The delivered state of Q0 to Q31: every credit with the producer (R25, R31). -/
def State.resetQueues : List QueueStat := List.replicate 32 {}

/-- P0, P1 and P2 with their initial credits (R118) and event masks (R156). -/
def State.resetPorts : List Port :=
  [{ credits := 16, mask := 0xFFFFFFFFFFFFFFFF },
   { credits := 8, mask := 0x0000FF0000009AFF },
   { credits := 4, mask := 0x00000000000004FF }]

/-- What R199 states of the factory coefficients b[0] to b[95], of which b[191] to b[96] are the mirror image: each fits in 24 bits, and
the whole sum is 8 388 608. -/
def factoryHalfOk (l : List Int) : Bool :=
  (l.all fun c => decide (-8388608 ≤ c) && decide (c ≤ 8388607)) && 2 * l.foldl (· + ·) 0 == 8388608

/-- The first half of the factory filter: the coefficients of the die revision, which are free, as far as they have the properties that
R199 states; the passband and the attenuation are not checked (log entry 10). -/
def factoryHalf : List Int :=
  let l := (List.range 96).map Config.factoryCoeff
  if factoryHalfOk l then l else List.replicate 95 0 ++ [4194304]

/-- The banks at first commissioning (R199): the factory filter in bank 0, symmetric, every other bank empty. -/
def State.resetBanks : List Bank :=
  { taps := 192, k := 4, coeff := factoryHalf ++ factoryHalf.reverse } :: List.replicate 15 {}

/-- The image slots as delivered (R519): slots A verified and active, slots B empty. -/
def State.resetImages : Images :=
  { ccA := { ok := true, version := 1, package := Config.deliveredPackage 0, factory := true }
    ucA := { ok := true, version := 1, package := Config.deliveredPackage 1, factory := true } }

/-- The device as delivered, without supply, before its first start (log entry 4): every register at the value the spec
states, and otherwise at the value a log entry names. -/
def State.reset : State :=
  { queues := State.resetQueues
    ports := State.resetPorts
    engine := { banks := State.resetBanks }
    images := State.resetImages }

end Sys2Proof.Machine
end

