-- ==== Sys2Proof/Machine/Ops.lean ====
section
/-! DEFINITION. The named operations over the state that every family uses: updates of one part, presence of units, events,
replies, handles and completions. -/
namespace Sys2Proof.Machine

/-! ## Updates of one part -/

/-- One part of the state changed. -/
def State.onPower (s : State) (f : Power → Power) : State := { s with power := f s.power }
/-- One part of the state changed. -/
def State.onClock (s : State) (f : Clock → Clock) : State := { s with clock := f s.clock }
/-- One part of the state changed. -/
def State.onMode (s : State) (f : ModeSt → ModeSt) : State := { s with mode := f s.mode }
/-- One part of the state changed. -/
def State.onCp (s : State) (f : ControlPlane → ControlPlane) : State := { s with cp := f s.cp }
/-- One part of the state changed. -/
def State.onTap (s : State) (f : Tap → Tap) : State := { s with tap := f s.tap }
/-- One part of the state changed. -/
def State.onOtp (s : State) (f : Otp → Otp) : State := { s with otp := f s.otp }
/-- One part of the state changed. -/
def State.onEngine (s : State) (f : Engine → Engine) : State := { s with engine := f s.engine }
/-- One part of the state changed. -/
def State.onTariff (s : State) (f : Tariff → Tariff) : State := { s with tariff := f s.tariff }
/-- One part of the state changed. -/
def State.onRelays (s : State) (f : Relays → Relays) : State := { s with relays := f s.relays }
/-- One part of the state changed. -/
def State.onPq (s : State) (f : Pq → Pq) : State := { s with pq := f s.pq }
/-- One part of the state changed. -/
def State.onEvents (s : State) (f : Events → Events) : State := { s with events := f s.events }
/-- One part of the state changed. -/
def State.onTamper (s : State) (f : Tamper → Tamper) : State := { s with tamper := f s.tamper }
/-- One part of the state changed. -/
def State.onStore (s : State) (f : Store → Store) : State := { s with store := f s.store }
/-- One part of the state changed. -/
def State.onSec (s : State) (f : Security → Security) : State := { s with security := f s.security }
/-- One part of the state changed. -/
def State.onImages (s : State) (f : Images → Images) : State := { s with images := f s.images }
/-- Port p changed. -/
def State.onPort (s : State) (p : Nat) (f : Port → Port) : State := { s with ports := upd s.ports p f }
/-- Queue q changed. -/
def State.onQueue (s : State) (q : Nat) (f : QueueStat → QueueStat) : State := { s with queues := upd s.queues q f }
/-- Channel c changed. -/
def State.onChan (s : State) (c : Nat) (f : Channel → Channel) : State := { s with channels := upd s.channels c f }
/-- Island n changed. -/
def State.onIsland (s : State) (n : Nat) (f : Island → Island) : State := { s with islands := upd s.islands n f }
/-- Metering point m changed. -/
def State.onPoint (s : State) (m : Nat) (f : Point → Point) : State := { s with points := upd s.points m f }
/-- The ledger of point m changed. -/
def State.onLedger (s : State) (m : Nat) (f : Ledger → Ledger) : State :=
  s.onPoint m fun p => { p with ledger := f p.ledger }
/-- Pulse output i changed. -/
def State.onPulse (s : State) (i : Nat) (f : Pulse → Pulse) : State := { s with pulses := upd s.pulses i f }
/-- Balance group g changed. -/
def State.onGroup (s : State) (g : Nat) (f : Balance → Balance) : State := { s with groups := upd s.groups g f }
/-- Lane n changed. -/
def State.onLane (s : State) (n : Nat) (f : Lane → Lane) : State :=
  s.onEngine fun e => { e with lanes := upd e.lanes n f }

/-- Every port changed. -/
def State.eachPort (s : State) (f : Port → Port) : State := { s with ports := s.ports.map f }
/-- Every queue changed. -/
def State.eachQueue (s : State) (f : QueueStat → QueueStat) : State := { s with queues := s.queues.map f }
/-- Every channel changed. -/
def State.eachChan (s : State) (f : Channel → Channel) : State := { s with channels := s.channels.map f }
/-- Every channel changed, by its number. -/
def State.eachChanAt (s : State) (f : Nat → Channel → Channel) : State :=
  { s with channels := (List.range s.channels.length).map fun c => f c (s.channels.getD c {}) }
/-- Every island changed. -/
def State.eachIsland (s : State) (f : Island → Island) : State := { s with islands := s.islands.map f }
/-- Every metering point changed. -/
def State.eachPoint (s : State) (f : Point → Point) : State := { s with points := s.points.map f }
/-- Every pulse output changed. -/
def State.eachPulse (s : State) (f : Pulse → Pulse) : State := { s with pulses := s.pulses.map f }
/-- Every balance group changed. -/
def State.eachGroup (s : State) (f : Balance → Balance) : State := { s with groups := s.groups.map f }
/-- The segment words on their way changed. -/
def State.onQ8 (s : State) (f : List QWord → List QWord) : State := { s with q8 := f s.q8 }
/-- The urgent requests on their way changed. -/
def State.onQ28 (s : State) (f : List Urgent → List Urgent) : State := { s with q28 := f s.q28 }
/-- The device-wide binding number set. -/
def State.setBindSeq (s : State) (n : Nat) : State := { s with bindSeq := n }

/-- Port p. -/
def State.port (s : State) (p : Nat) : Port := s.ports.getD p {}
/-- Channel c. -/
def State.chan (s : State) (c : Nat) : Channel := s.channels.getD c {}
/-- Island n. -/
def State.isl (s : State) (n : Nat) : Island := s.islands.getD n {}
/-- Metering point m. -/
def State.point (s : State) (m : Nat) : Point := s.points.getD m {}
/-- Tariff plan p. -/
def State.plan (s : State) (p : Nat) : Plan := s.tariff.plans.getD p {}
/-- Lane n. -/
def State.lane (s : State) (n : Nat) : Lane := s.engine.lanes.getD n {}

/-! ## Presence of units (R1 to R7) -/

/-- Islands fitted. -/
def Variant.islands : Variant → Nat
  | .v512 => 8
  | .v256 => 4
  | .v128 => 2
  | .v064 => 1

/-- The variant code of R132 and R157. -/
def Variant.code : Variant → Nat
  | .v512 => 0x0512
  | .v256 => 0x0256
  | .v128 => 0x0128
  | .v064 => 0x0064

/-- Islands fitted. -/
def State.nIsl (s : State) : Nat := s.fuses.variant.islands
/-- Channels present. -/
def State.nChan (s : State) : Nat := 64 * s.nIsl
/-- Metering points present. -/
def State.nMp (s : State) : Nat := 32 * s.nIsl
/-- Billing points, maximum. -/
def State.billMax (s : State) : Nat := 30 * s.nIsl
/-- Reference points, maximum. -/
def State.refMax (s : State) : Nat := 2 * s.nIsl
/-- Harmonic analyser present. -/
def State.hasHarm (s : State) : Bool := s.fuses.variant != .v064
/-- Waveform capture present. -/
def State.hasCapt (s : State) : Bool := s.fuses.variant == .v512 || s.fuses.variant == .v256
/-- Sample compression present. -/
def State.hasComp (s : State) : Bool := s.fuses.variant == .v512
/-- Adaptive loop present. -/
def State.hasAdapt (s : State) : Bool := s.fuses.variant != .v512

/-- The unit-presence bitmap of R4. -/
def State.units (s : State) : Nat :=
  b2n s.hasHarm + 2 * b2n s.hasCapt + 4 * b2n s.hasComp + 8 * b2n s.hasAdapt + 16 * (2 ^ s.nIsl - 1)

/-- Whether island n is in service: fitted, not retired by command and not dropped by admission. -/
def State.islOn (s : State) (n : Nat) : Bool :=
  decide (n < s.nIsl) && !(s.isl n).retired && !(s.isl n).dropped

/-- Whether an island shows a fault of R172. -/
def State.islFault (s : State) (n : Nat) : Bool := (s.isl n).refFault || (s.isl n).supFault

/-! ## Lifecycle and modes -/

/-- The lifecycle state: the number of pairs with bit A programmed (R107). -/
def State.life (s : State) : Lifecycle :=
  match b2n s.otp.l1.a + b2n s.otp.l2.a + b2n s.otp.l3.a with
  | 0 => .manufacture
  | 1 => .unsealed
  | 2 => .sealed
  | _ => .retired

/-- The number of a lifecycle state (R107). -/
def Lifecycle.num : Lifecycle → Nat
  | .manufacture => 0
  | .unsealed => 1
  | .sealed => 2
  | .retired => 3

/-- The number of a mode (R95). -/
def Mode.num : Mode → Nat
  | .dormant => 0
  | .boot => 1
  | .commission => 2
  | .calibrate => 3
  | .meter => 4
  | .degraded => 5
  | .adjourn => 6
  | .watch => 7

/-- The number of a debug level. -/
def DebugLevel.num : DebugLevel → Nat
  | .d0 => 0
  | .d1 => 1
  | .d2 => 2

/-- The four modes that meter under a running control plane: the responding modes of R118. -/
def Mode.responding : Mode → Bool
  | .commission | .calibrate | .meter | .degraded => true
  | _ => false

/-- The effective mode of R515: CALIBRATE counts as its return mode, DEGRADED as its base mode, and METER as COMMISSION
in RETIRED and MANUFACTURE. -/
def effectiveOf (l : Lifecycle) (m ret base : Mode) : Mode :=
  let e := match m with
    | .calibrate => ret
    | .degraded => base
    | x => x
  if e = .meter ∧ (l = .retired ∨ l = .manufacture) then .commission else e

/-- The effective mode in force: in BOOT and ADJOURN that of R515. -/
def State.effMode (s : State) : Mode :=
  match s.mode.mode with
  | .boot | .adjourn => effectiveOf s.life s.mode.before s.mode.ret s.mode.base
  | m => effectiveOf s.life m s.mode.ret s.mode.base

/-- Whether billing, credit and disconnection run (R96). -/
def State.billing (s : State) : Bool := s.effMode == .meter

/-- Whether a port takes packets (R118): the control plane is ready, in a responding mode or in the recovery service. -/
def State.responds (s : State) : Bool :=
  s.cp.st == .ready && (s.mode.mode.responding || (s.mode.mode == .boot && s.cp.recovery))

/-- Whether the partner of a port can be heard (R50, R118): P0 needs VDDIO_H. -/
def State.hears (s : State) (p : Nat) : Bool := s.responds && (p != 0 || s.power.vddioMv != 0)

/-- Whether the metering plane runs: the converters and the engine produce samples. -/
def State.metering (s : State) : Bool :=
  s.mode.mode.responding || (s.mode.mode == .boot && decide (4 ≤ s.mode.bootStep))

/-- Whether the store is restored and the writer, the commits and the relay chain run: from step 5 of a start (R90, R100). -/
def State.storeOn (s : State) : Bool := s.mode.mode.responding || (s.mode.mode == .boot && decide (5 ≤ s.mode.bootStep))

/-! ## Time -/

/-- The sample index now. -/
def State.now (s : State) : Nat := s.clock.slot

/-- The first round boundary after now. -/
def State.nextRound (s : State) : Nat := (s.now / 256 + 1) * 256

/-- Slots in a second (R18). -/
def slotsPerS : Nat := 128000

/-! ## Status codes -/

/-- The code of a status (R512). -/
def Status.code : Status → Nat
  | .ok => 0x0000 | .accepted => 0x0001
  | .frameCrc => 0x0100 | .frameLength => 0x0101 | .unknownOpcode => 0x0102 | .badParameter => 0x0103
  | .noCredit => 0x0104
  | .notInMode => 0x0200 | .lifecycleForbids => 0x0201 | .sealed => 0x0202 | .authorityRequired => 0x0203
  | .signatureInvalid => 0x0204 | .rollback => 0x0205
  | .unitAbsent => 0x0300 | .unitRetired => 0x0301 | .capacity => 0x0302 | .noHandle => 0x0303
  | .resourceBusy => 0x0304
  | .tokenMac => 0x0400 | .tokenUsed => 0x0401 | .tokenOld => 0x0402 | .tokenLockout => 0x0403
  | .tokenClass => 0x0404 | .tokenLimit => 0x0405
  | .storeFault => 0x0500 | .logFrozen => 0x0501
  | .modeChanged => 0x0600 | .cancelled => 0x0601 | .abortedPower => 0x0602

/-! ## Events (R399 to R406) -/

/-- The notify priority of a record that sets one bit and is no alarm record (R406). -/
def prioOf (code : Nat) : Nat :=
  if code ≤ 7 ∨ (56 ≤ code ∧ code ≤ 63) then 3
  else if 40 ≤ code ∧ code ≤ 47 then 2
  else 1

/-- An event sent into Q13 (R399). -/
def State.send (s : State) (g : EvGroup) : State := s.onEvents fun e => { e with q13 := e.q13 ++ [g] }

/-- An event of the event-word bit `code`, raised now (R149, R402, R403): its source and the bytes it carries. -/
def State.raise (s : State) (code kind idx : Nat) (fields : List Byte) (flags : Nat := 0) : State :=
  s.send { code := code, srcKind := kind, srcIdx := idx, at_ := s.now, flags := flags, fields := fields,
           bits := BitVec.ofNat 64 (2 ^ code), prio := prioOf code }

/-- A port-local event (R150), which latches and notifies on its own port only. -/
def State.raisePort (s : State) (p code : Nat) (fields : List Byte) : State :=
  s.send { code := code, srcKind := 5, srcIdx := p, at_ := s.now, fields := fields,
           bits := BitVec.ofNat 64 (2 ^ code), port := some p, prio := prioOf code }

/-- A record that sets no event-word bit (codes from 0x0040, R402). -/
def State.note (s : State) (t code kind idx : Nat) (fields : List Byte) : State :=
  s.send { code := code, srcKind := kind, srcIdx := idx, at_ := t, flags := 8, fields := fields, bits := 0, prio := 0 }

/-- A bit of a port's latch set at once, for an event whose record has not reached the recorder yet: the latch is set by
the recorder (R149), so this operation only serves the port-local bits. -/
def Port.setLatch (p : Port) (b : BitVec 64) : Port := { p with latch := p.latch ||| b }

/-- The latch as a reader sees it: the completion bit of the port follows the level of R145. -/
def State.latchOf (s : State) (p : Nat) : BitVec 64 :=
  let q := s.port p
  let own : BitVec 64 := if q.completions.isEmpty then 0 else BitVec.ofNat 64 (2 ^ (8 + p))
  (q.latch &&& ~~~(0x700 : BitVec 64)) ||| own

/-- The EVENTS flag of R123: the latch holds a bit that is unmasked. -/
def State.eventsFlag (s : State) (p : Nat) : Bool := (s.latchOf p &&& (s.port p).mask) != 0

/-- A free value of the model and the state after drawing it (log entry 6). -/
def State.draw (s : State) : Nat × State := (Config.freeValue s.free, { s with free := s.free + 1 })

/-- n free bytes and the state after drawing them (log entry 6). -/
def State.drawBytes (s : State) (n : Nat) : List Byte × State :=
  (padTo n (Config.freeBytes s.free), { s with free := s.free + 1 })

/-! ## Ports, replies, handles (R134 to R148) -/

/-- Initial credits of a port (R118). -/
def initialCredits : Nat → Nat
  | 0 => 16
  | 1 => 8
  | 2 => 4
  | _ => 1

/-- The bytes of a reply packet (R135). -/
def replyPacket (r : Reply) (events completion : Bool) : List Byte :=
  let body : List Byte :=
    [0x5A, BitVec.ofNat 8 (b2n (!r.resync) + 16 * b2n r.resync + 32 * b2n events + 64 * b2n completion)]
      ++ le 2 r.tag.toNat ++ le 2 r.status.code ++ le 2 r.handle ++ le 2 r.payload.length ++ r.payload
  body ++ le 4 (crc32c body).toNat

/-- A reply placed in a port's reply stream (R137); on the mailbox its bytes wait for Capture-DR (R133). -/
def State.reply (s : State) (p : Nat) (r : Reply) : State :=
  if p = 3 then s.onTap fun t => { t with replyBytes := t.replyBytes ++ replyPacket r false false }
  else s.onPort p fun q => { q with replies := q.replies ++ [r] }

/-- A reply with status OK. -/
def State.replyOk (s : State) (r : Request) (payload : List Byte) (wait : Wait := .none) : State :=
  s.reply r.port { tag := r.tag, payload := payload, wait := wait }

/-- Whether a port's newest reply still waits, so that the port executes no further request (R137). -/
def Port.busy (p : Port) : Bool :=
  match p.replies.getLast? with
  | some r => r.wait != .none
  | none => false

/-- The waiting reply of a port completed: its status and payload are set and it may be sent. -/
def State.release (s : State) (p : Nat) (status : Status) (payload : List Byte) : State :=
  s.onPort p fun q =>
    match q.replies.getLast? with
    | some r =>
      if r.wait = .none then q
      else { q with replies := q.replies.dropLast ++ [{ r with status := status, payload := payload, wait := .none }] }
    | none => q

/-- The waiting reply of a port may be sent as it stands. -/
def State.releaseAsIs (s : State) (p : Nat) : State :=
  s.onPort p fun q =>
    match q.replies.getLast? with
    | some r => { q with replies := q.replies.dropLast ++ [{ r with wait := .none }] }
    | none => q

/-- The handle after h (R142): plus 1, from 0xFFFF to 1. -/
def nextHandle (h : Nat) : Nat := if 0xFFFF ≤ h then 1 else h + 1

/-- The first handle after h that is not allocated; at most 64 are (R142). -/
def freshHandle (hs : List HandleEntry) : Nat → Nat → Nat
  | 0, h => nextHandle h
  | k + 1, h =>
    if hs.any (fun e => e.handle == nextHandle h) then freshHandle hs k (nextHandle h) else nextHandle h

/-- A long operation accepted (R142): its handle allocated and the ACCEPTED reply placed. None when 64 are allocated. -/
def State.accept (s : State) (r : Request) (opcode : Nat) (committed : Bool := false) : Option (State × OpRef) :=
  let p := s.port r.port
  if 64 ≤ p.handles.length then none
  else
    let h := freshHandle p.handles 65 p.lastHandle
    some ((s.onPort r.port fun q =>
        { q with handles := q.handles ++ [{ handle := h, opcode := opcode, tag := r.tag, committed := committed }]
                 lastHandle := h }).reply r.port { tag := r.tag, status := .accepted, handle := h },
      { port := r.port, handle := h })

/-- The entry of an operation in its port's handle table. -/
def State.entry (s : State) (o : OpRef) : Option HandleEntry :=
  (s.port o.port).handles.find? fun e => e.handle == o.handle

/-- The entry of an operation changed. -/
def State.onEntry (s : State) (o : OpRef) (f : HandleEntry → HandleEntry) : State :=
  s.onPort o.port fun q => { q with handles := q.handles.map fun e => if e.handle = o.handle then f e else e }

/-- The operation has passed its commit point (R114). -/
def State.commitOp (s : State) (o : OpRef) : State := s.onEntry o fun e => { e with committed := true }

/-- A completion record placed for an operation (R143). Nothing is placed when the operation has its completion already. -/
def State.postDone (s : State) (o : OpRef) (status : Status) (detail result : Nat) : State :=
  match s.entry o with
  | none => s
  | some e =>
    if e.done then s
    else (s.onPort o.port fun q =>
      let n := (q.lastSeq + 1) % 65536
      { q with lastSeq := n
               completions := q.completions ++ [{ seq := n, handle := o.handle, opcode := e.opcode, status := status,
                                                  detail := detail, tag := e.tag, result := result }] }).onEntry o
        fun e => { e with done := true }

/-- The end of an operation (R114, R143): a mode change past the commit point turns its status into MODE_CHANGED with
DETAIL 1 and keeps the RESULT of a normal end; an operation whose completion is owed at readiness (R144) posts nothing here. -/
def State.finish (s : State) (o : OpRef) (status : Status) (detail result : Nat) : State :=
  match s.entry o with
  | none => s
  | some e =>
    if e.detached then s
    else if e.modeLost && e.committed then s.postDone o .modeChanged 1 result
    else s.postDone o status detail result

/-- Whether an operation is still running for its owner: allocated, not completed and not ended by a reset. -/
def State.live (s : State) (o : OpRef) : Bool :=
  match s.entry o with
  | some e => !e.done && !e.detached
  | none => false

/-! ## Refusals (R112, R113) -/

/-- Why a request is refused: its status, whether the refusal is at order 6 or 7, and the cause of EV_AUTH_FAIL when it is
one (R459, R518). -/
structure Deny where
  status : Status
  order67 : Bool := false
  authCause : Option Nat := none
  /-- Invalid records that the request met (R375). -/
  torn : Nat := 0
  deriving DecidableEq, Repr

/-- A check of R112 that gives a status when it fails. -/
def need (b : Bool) (st : Status) : Except Deny Unit := if b then .ok () else .error { status := st }

/-- A check at order 6 or 7. -/
def need67 (b : Bool) (st : Status) : Except Deny Unit := if b then .ok () else .error { status := st, order67 := true }

/-- The payload of a refusal at orders 6 and 7 (R113). -/
def State.rejection (s : State) : List Byte :=
  [BitVec.ofNat 8 s.mode.mode.num, BitVec.ofNat 8 s.life.num, BitVec.ofNat 8 (DebugLevel.num s.mode.debug), 0]

/-- A failure of an authorisation or a package (R459, R518): counted in AUTH_FAILS (causes 0 and 1, R476), and recorded at most once
per second and cause with the count of failures since the cause's previous record. -/
def State.authFail (s : State) (cause port : Nat) : State :=
  let n := s.events.authCount.getD cause 0 + 1
  let due := match s.events.authAt.getD cause none with
    | none => true
    | some t => decide (t + slotsPerS ≤ s.now)
  let s := if cause ≤ 1 then s.onSec fun x => { x with authFails := incSat 32 x.authFails } else s
  if due then
    (s.onEvents fun e => { e with authCount := upd e.authCount cause fun _ => 0
                                  authAt := upd e.authAt cause fun _ => some s.now }).raise 56 12 0
      (le 4 cause ++ le 1 port ++ le 4 n)
  else s.onEvents fun e => { e with authCount := upd e.authCount cause fun _ => n }

/-- A refused request (R113): the reply, and the counts that the refusal's order allows. -/
def State.refuse (s : State) (r : Request) (d : Deny) : State :=
  let s := if d.order67 then s.onPort r.port fun q => { q with rejections := incSat 32 q.rejections } else s
  let s := match d.authCause with
    | some c => s.authFail c r.port
    | none => s
  let s := if d.torn = 0 then s else s.onStore fun t => { t with torn := min (2 ^ 32 - 1) (t.torn + d.torn) }
  s.reply r.port { tag := r.tag, status := d.status, payload := if d.order67 then s.rejection else [] }

/-- A command run with its refusals answered. -/
def State.answer (s : State) (r : Request) (x : Except Deny State) : State :=
  match x with
  | .ok s' => s'
  | .error d => s.refuse r d

end Sys2Proof.Machine
end

