-- ==== Sys2Proof/Machine/Flags.lean ====
section
/-! DEFINITION. The status words and flag fields that the spec computes from the state: MODE_STATE, channel and island
states, the slot word, the counts held in OTP. -/
namespace Sys2Proof.Machine

/-- MODE_STATE (R103). -/
def State.modeState (s : State) : Nat :=
  s.mode.mode.num + 8 * s.mode.ret.num + 64 * s.mode.base.num + 512 * b2n s.mode.armed

/-- The OTP count of evidence counter n: its pairs with bit A programmed (R436). -/
def State.evidCount (s : State) (n : Nat) : Nat := ((s.otp.evidence.getD n []).filter fun p => p.a).length

/-- The rollback count c (R446, R453): pairs with bit A programmed. -/
def State.rollbackCount (s : State) : Nat := (s.otp.rollback.filter fun p => p.a).length

/-- Whether SETTLING shows in CH_STATE (R211). -/
def State.settling (s : State) (c : Nat) : Bool :=
  let h := s.chan c
  (decide (h.settleFrom ≤ s.now) && decide (s.now < h.settleTo))
    || h.settleAhead.any fun x => decide (x.1 ≤ s.now) && decide (s.now < x.2)

/-- The code of a check state (R173). -/
def CheckState.num : CheckState → Nat
  | .unchecked => 0
  | .good => 1
  | .suspect => 2
  | .failed => 3
  | .unverified => 4

/-- CH_STATE (R173). -/
def State.chState (s : State) (c : Nat) : Nat :=
  let ch := s.chan c
  let n := c / 64
  let age := match ch.checkAt with
    | none => 255
    | some t => min 255 ((s.now - t) / 12800)
  ch.check.num + 8 * ch.mismatches + 32 * b2n ch.overload + 64 * b2n (s.settling c)
    + 128 * b2n (!s.islOn n || s.islFault n) + 256 * age

/-- ISL_STATE (R174). -/
def State.islState (s : State) (n : Nat) : Nat :=
  let i := s.isl n
  1 + 2 * b2n (s.islOn n) + 4 * b2n i.retired + 8 * b2n i.refFault + 16 * b2n i.supFault
    + 32 * b2n i.a.failed + 64 * b2n i.b.failed

/-- The integration that a second runs at a slot. -/
def Second.current (x : Second) (now : Nat) : Option Integ := x.runs.find? fun r => decide (r.start ≤ now) && decide (now < r.endGate)

/-- The requests that a second has taken up and not begun, or has begun. -/
def Second.urgents (x : Second) (begun : Bool) : List Urgent :=
  (x.runs.filter fun r => r.begun == begun).filterMap fun r => r.urgent

/-- The byte of ISL_SEC_STATUS that one second gives (R174): channel, busy, serving an urgent request. -/
def Second.byte (x : Second) (now : Nat) : Nat :=
  match x.current now with
  | some r => r.ch % 64 + 64 + 128 * b2n r.urgent.isSome
  | none => 64 * b2n x.testAt.isSome

/-- The urgent requests of an island that are pending (R181): none of them is under integration. -/
def Island.waiting (i : Island) : List Urgent := i.urgents ++ i.a.urgents false ++ i.b.urgents false

/-- ISL_SEC_STATUS (R174). -/
def State.islSec (s : State) (n : Nat) : Nat :=
  let i := s.isl n
  i.a.byte s.now + 256 * i.b.byte s.now + 65536 * i.waiting.length

/-- The bytes of FIR coefficients in the layout of R206. -/
def coeffBytes (cs : List Int) : List Byte := (cs.map (leI 3)).flatten

/-- Whether a role belongs to the metering group (R164): VOLTAGE, CURRENT, NEUTRAL, SPARE. -/
def meteringRole (r : Nat) : Bool := r == 1 || r == 2 || r == 3 || r == 5

/-- Whether a bank is in use by metering (R204). -/
def State.bankInUse (s : State) (n : Nat) : Bool :=
  s.channels.any fun c => meteringRole c.set.role && c.set.bank == n && !c.set.single

/-- FIR_BANK_n (R205). -/
def State.firBank (s : State) (n : Nat) : Nat :=
  let b := s.engine.banks.getD n {}
  let crc := if b.taps = 0 then 0 else (crc32c (coeffBytes b.coeff)).toNat % 65536
  b.taps + 512 * b.k + 4096 * b2n (s.bankInUse n) + 8192 * b2n (!b.pending.isEmpty) + 65536 * crc

/-- SVC_SLOTS (R477). -/
def State.svcSlots (s : State) : Nat :=
  let i := s.images
  b2n i.ccA.ok + 2 * b2n i.ccB.ok + 4 * i.ccActive + 8 * b2n i.trial + 16 * b2n i.ucA.ok + 32 * b2n i.ucB.ok
    + 64 * i.ucActive
    + match i.session with
      | none => 0
      | some x => 128 + 256 * x.target + 512 * x.port

/-- The version a slot register shows (R477): 0 when the slot is not verified. -/
def Image.shown (i : Image) : Nat := if i.ok then i.version else 0

/-- The mask of active alarm types of device scope, TMP_ACTIVE (R445). -/
def State.tmpActive (s : State) : Nat :=
  maskOf ((s.tamper.alarms.filter fun a => decide (a.type ≤ 12)).map fun a => a.type)

/-- Whether an alarm of a type is active for a target (R414). -/
def State.alarmOn (s : State) (type target : Nat) : Bool :=
  s.tamper.alarms.any fun a => a.type == type && a.target == target

/-- Whether a LOCK response is in force: an alarm with LOCK stands, or an earlier one has not run out (R416). -/
def State.lockOn (s : State) : Bool :=
  (s.tamper.alarms.any fun a => bit a.word 7 && decide (a.from_ ≤ s.now))
    || s.tamper.locks.any fun e => decide (s.now < e)

/-- Seconds of LOCK remaining (R476): the largest, with the full hour for an alarm that still stands. -/
def State.lockSeconds (s : State) : Nat :=
  if s.tamper.alarms.any fun a => bit a.word 7 && decide (a.from_ ≤ s.now) then 3600
  else s.tamper.locks.foldl (fun m e => max m (ceilDiv (e - s.now) slotsPerS)) 0

/-- A degradation condition of R97: a lane retired, an island retired or dropped, or the reference lost. -/
def State.degradation (s : State) : Bool :=
  s.engine.lanes.any (fun l => l.retired)
    || (s.islands.take s.nIsl).any (fun i => i.retired || i.dropped) || s.clock.refLost

/-- The DEGRADE byte of GET_STATUS (R158). -/
def State.degradeByte (s : State) : Nat :=
  b2n (s.engine.lanes.any fun l => l.retired)
    + 2 * b2n ((s.islands.take s.nIsl).any fun i => i.retired || i.dropped) + 4 * b2n s.clock.refLost

end Sys2Proof.Machine
end

