-- ==== Sys2Proof/Machine/Params.lean ====
section
/-! DEFINITION. The parameter map (R507 to R511): which identifiers exist, their access and reset values, the values in
force, and the rules that concern one value alone. -/
namespace Sys2Proof.Machine

/-- An identifier inside a range of R507. -/
def pidInRange (pid : Nat) : Bool := decide (pid ≤ 0x7FF) || (decide (0x1000 ≤ pid) && decide (pid ≤ 0x1FFF))

/-- The last identifier of the range of R507 that holds this one. -/
def pidRangeEnd (pid : Nat) : Nat := if 0x1000 ≤ pid then 0x1FFF else pid / 256 * 256 + 0xFF

/-- The island of an island parameter, and its number p (R510). -/
def islandPid (pid : Nat) : Option (Nat × Nat) :=
  if 0x700 ≤ pid ∧ pid ≤ 0x7FF then some ((pid - 0x700) / 32, (pid - 0x700) % 32) else none

/-- The channel of a channel parameter, and its number p (R511). -/
def chanPid (pid : Nat) : Option (Nat × Nat) :=
  if 0x1000 ≤ pid ∧ pid ≤ 0x1FFF then some ((pid - 0x1000) / 8, (pid - 0x1000) % 8) else none

/-- Whether an identifier belongs to a fused-off unit, island or channel (R7, R500). -/
def State.pidAbsent (s : State) (pid : Nat) : Bool :=
  match islandPid pid, chanPid pid with
  | some (n, _), _ => decide (s.nIsl ≤ n)
  | _, some (c, _) => decide (s.nChan ≤ c)
  | _, _ =>
    if 0x210 ≤ pid ∧ pid ≤ 0x21F then !s.hasHarm || decide (s.nChan ≤ 32 * (pid - 0x210))
    else if 0x240 ≤ pid ∧ pid ≤ 0x27F then decide (s.nChan ≤ 8 * (pid - 0x240))
    else false

/-- Access codes (R501). -/
inductive Access where
  | ro | rw | rwS | rwA | w1c | wo
  deriving DecidableEq, Repr

/-- The code of an access (R501). -/
def Access.num : Access → Nat
  | .ro => 0
  | .rw => 1
  | .rwS => 2
  | .rwA => 3
  | .w1c => 4
  | .wo => 5

/-- The access of an identifier as its owning table gives it; none for one that no table names (R500). For channel
parameters 1 to 4 the access in force depends on the role (R164). -/
def State.access (s : State) (pid : Nat) : Option Access :=
  match islandPid pid, chanPid pid with
  | some (_, p), _ =>
    match p with
    | 0 | 2 | 5 | 6 => some .ro
    | 1 => some .rwS
    | 3 | 4 | 8 | 9 | 10 => some .rw
    | _ => none
  | _, some (c, p) =>
    match p with
    | 0 | 5 | 6 => some .rw
    | 7 => some .ro
    | _ => some (if meteringRole (s.chan c).set.role then .rwS else .rw)
  | _, _ =>
    if pid = 0x10 ∨ pid = 0x12 ∨ pid = 0x13 ∨ pid = 0x23 then some .rw
    else if pid = 0x11 ∨ pid = 0x20 ∨ pid = 0x30 ∨ (0x32 ≤ pid ∧ pid ≤ 0x35) then some .ro
    else if pid = 0x21 ∨ pid = 0x22 then some .rwA
    else if 0x100 ≤ pid ∧ pid ≤ 0x10F then some .ro
    else if pid = 0x140 ∨ pid = 0x141 then some .rwS
    else if 0x200 ≤ pid ∧ pid ≤ 0x205 then some .rw
    else if 0x210 ≤ pid ∧ pid ≤ 0x21F then some .rw
    else if 0x240 ≤ pid ∧ pid ≤ 0x27F then some .rw
    else if pid = 0x300 then some .rwA
    else if pid = 0x301 then some .rwS
    else if 0x302 ≤ pid ∧ pid ≤ 0x304 then some .rw
    else if 0x308 ≤ pid ∧ pid ≤ 0x315 then some .rwA
    else if pid = 0x400 then some .rwA
    else if pid = 0x401 ∨ pid = 0x500 then some .rw
    else if 0x520 ≤ pid ∧ pid ≤ 0x532 then some .rwA
    else if pid = 0x600 ∨ (0x602 ≤ pid ∧ pid ≤ 0x605) then some .rwA
    else if pid = 0x601 then some .rw
    else if pid = 0x610 ∨ (0x620 ≤ pid ∧ pid ≤ 0x62F) then some .ro
    else if 0x680 ≤ pid ∧ pid ≤ 0x69F then some .rw
    else if 0x6C0 ≤ pid ∧ pid ≤ 0x6C3 then some .rw
    else none

/-- The default response words of alarm types 0 to 18 (R413). -/
def alarmDefaults : List Nat :=
  [0x1F0, 0x1F0, 0x1F0, 0x1F0, 0x060, 0x060, 0x060, 0x060, 0x1F0, 0x020, 0x070, 0x170, 0x010, 0x260, 0x060, 0x064,
   0x275, 0x010, 0x031]

/-- The reset value of a writable identifier held in the parameter list (Reset columns of R508 to R510). -/
def State.pidReset (s : State) (pid : Nat) : BitVec 32 :=
  match islandPid pid with
  | some (n, p) =>
    match p with
    | 1 => (Config.vrefTrim n).setWidth 32
    | 3 => 600
    | 4 => 0x3FF
    | 8 => if s.hasComp then 0 else 1
    | 9 => 0xA2
    | 10 => 128
    | _ => 0
  | none =>
    match chanPid pid with
    | some (_, 6) => 0x003201F4
    | some _ => 0
    | none =>
      if 0x520 ≤ pid ∧ pid ≤ 0x532 then BitVec.ofNat 32 (alarmDefaults.getD (pid - 0x520) 0)
      else if 0x210 ≤ pid ∧ pid ≤ 0x21F then 0xFFFFFFFF
      else if 0x308 ≤ pid ∧ pid ≤ 0x30B then 0x15
      else if 0x30C ≤ pid ∧ pid ≤ 0x30F then 0x5
      else match pid with
        | 0x10 => 60
        | 0x12 => 0x14
        | 0x13 => 4
        | 0x21 => 0x07
        | 0x22 => 0x25
        | 0x140 => 8
        | 0x141 => 20
        | 0x200 => 0x2200
        | 0x201 => 230000
        | 0x202 => 0x14056E5A
        | 0x203 => 0x01F401F4
        | 0x204 => 800
        | 0x205 => 20
        | 0x301 => 0x22190000
        | 0x302 => 20
        | 0x303 => 24
        | 0x304 => 1
        | 0x401 => 60
        | 0x500 => 64
        | 0x600 => 0x2000
        | 0x601 => 4
        | 0x602 => 0x320A0064
        | 0x603 => 0x003207D0
        | 0x604 => 10
        | 0x605 => 0x0532190F
        | 0x6C0 => 100
        | 0x6C1 => 60
        | 0x6C2 => 2700
        | _ => 0

/-- The value in force of an identifier held in the parameter list. -/
def State.par (s : State) (pid : Nat) : BitVec 32 :=
  match s.params.find? fun e => e.1 == pid with
  | some e => e.2
  | none => s.pidReset pid

/-- The same as a number. -/
def State.parN (s : State) (pid : Nat) : Nat := (s.par pid).toNat

/-- An entry put into a list of (identifier, value) pairs that rises by identifier. -/
def insertPid (pid : Nat) (v : BitVec 32) : List (Nat × BitVec 32) → List (Nat × BitVec 32)
  | [] => [(pid, v)]
  | e :: r =>
    if pid < e.1 then (pid, v) :: e :: r
    else if e.1 = pid then (pid, v) :: r
    else e :: insertPid pid v r

/-- A value in force set. A value equal to the reset value is not listed, so that equal settings are equal data. -/
def State.setPar (s : State) (pid : Nat) (v : BitVec 32) : State :=
  { s with params := if v = s.pidReset pid then s.params.filter fun e => e.1 != pid else insertPid pid v s.params }

/-- The settings of a channel with one of its parameters 0 to 5 written (R173, R189, R203, R210). -/
def Settings.put (t : Settings) (p : Nat) (v : BitVec 32) : Settings :=
  let n := v.toNat
  match p with
  | 0 => { t with role := bits n 0 3 }
  | 1 => { t with pga := bits n 0 3, gcorr := ofTwos 24 (bits n 8 24) }
  | 2 => { t with off := ofTwos 32 n }
  | 3 => { t with frac := bits n 0 8, int := bits n 8 8 }
  | 4 => { t with bank := bits n 0 4 }
  | 5 => { t with single := bit n 0 }
  | _ => t

/-- The value that one of a channel's parameters 0 to 5 reads. -/
def Settings.get (t : Settings) (p : Nat) : BitVec 32 :=
  BitVec.ofNat 32 (match p with
    | 0 => t.role
    | 1 => t.pga + 256 * toTwos 24 t.gcorr
    | 2 => toTwos 32 t.off
    | 3 => t.frac + 256 * t.int
    | 4 => t.bank
    | 5 => b2n t.single
    | _ => 0)

/-- Whether a channel's PIDs 32m to 32m + 31 exist: the mask that PQ_HARM_EN reads through (R500). -/
def State.harmMask (s : State) (m : Nat) : Nat := 2 ^ (min 32 (s.nChan - 32 * m)) - 1

/-- The value in force of any identifier, as GET_PARAM reads it (R500, R501). -/
def State.value (s : State) (pid : Nat) : BitVec 32 :=
  match islandPid pid, chanPid pid with
  | some (n, p), _ =>
    match p with
    | 0 => BitVec.ofNat 32 (s.islState n)
    | 2 => BitVec.ofNat 32 (toTwos 16 (s.isl n).temp)
    | 5 => BitVec.ofNat 32 ((s.isl n).comparisons + 65536 * (s.isl n).mismatches)
    | 6 => BitVec.ofNat 32 (s.islSec n)
    | 1 | 3 | 4 | 8 | 9 | 10 => s.par pid
    | _ => 0
  | _, some (c, p) =>
    match p with
    | 6 => s.par pid
    | 7 => BitVec.ofNat 32 (s.chState c)
    | _ => (s.chan c).set.get p
  | _, _ =>
    if 0x100 ≤ pid ∧ pid ≤ 0x10F then BitVec.ofNat 32 (s.firBank (pid - 0x100))
    else if 0x210 ≤ pid ∧ pid ≤ 0x21F then BitVec.ofNat 32 (s.parN pid &&& s.harmMask (pid - 0x210))
    else if 0x620 ≤ pid ∧ pid ≤ 0x62F then
      BitVec.ofNat 32 (s.evidCount (pid - 0x620) + 65536 * satN 16 (s.tamper.overflow.getD (pid - 0x620) 0))
    else match pid with
      | 0x11 => BitVec.ofNat 32 s.modeState
      | 0x20 => 0x7F
      | 0x30 => BitVec.ofNat 32 s.svcSlots
      | 0x32 => BitVec.ofNat 32 s.images.ccA.shown
      | 0x33 => BitVec.ofNat 32 s.images.ccB.shown
      | 0x34 => BitVec.ofNat 32 s.images.ucA.shown
      | 0x35 => BitVec.ofNat 32 s.images.ucB.shown
      | 0x610 => BitVec.ofNat 32 s.tmpActive
      | _ => if (s.access pid).isSome then s.par pid else 0

/-- A value inside a closed range. -/
def within (lo hi x : Nat) : Bool := decide (lo ≤ x) && decide (x ≤ hi)

/-- The minutes of interval codes 0 to 8 (R338). -/
def intervalMinutes (code : Nat) : Nat := [1, 2, 3, 5, 10, 15, 20, 30, 60].getD code 15

/-- The rule that concerns one value alone (owning chapters): true when the value is allowed there. What depends on the role
of a channel is a rule of the configuration (R166, R174). -/
def State.valueOk (s : State) (pid : Nat) (v : BitVec 32) : Bool :=
  let n := v.toNat
  match islandPid pid, chanPid pid with
  | some (_, p), _ =>
    match p with
    | 1 => decide (n < 65536)
    | 3 => within 60 3600 n
    | 4 => decide (n < 512) || n == 0x3FF
    | 8 => decide (n ≤ 1)
    | 9 => decide (n ≤ 255)
    | 10 => decide (n ≤ 255)
    | _ => false
  | _, some (_, p) =>
    match p with
    | 0 => decide (n ≤ 5)
    | 1 => decide (bits n 0 3 ≤ 4) && bits n 3 5 == 0
    | 2 => true
    | 3 => decide (n < 65536)
    | 4 => decide (n ≤ 15)
    | 5 => decide (n ≤ 1)
    | 6 => within 100 10000 (n % 65536) && within 10 1000 (n / 65536)
    | _ => false
  | _, _ =>
    if 0x520 ≤ pid ∧ pid ≤ 0x532 then decide (n < 1024) && decide (n % 4 ≤ 2)
    else if 0x210 ≤ pid ∧ pid ≤ 0x21F then (n &&& s.harmMask (pid - 0x210)) == n
    else if 0x240 ≤ pid ∧ pid ≤ 0x27F then true
    else if 0x308 ≤ pid ∧ pid ≤ 0x30B then
      decide (n < 256) && decide (n % 16 ≤ 8) && decide (1 ≤ n / 16) && intervalMinutes (n % 16) % (max 1 (n / 16)) == 0
    else if 0x30C ≤ pid ∧ pid ≤ 0x30F then decide (n ≤ 8)
    else if pid = 0x310 ∨ pid = 0x313 then true
    else if pid = 0x311 ∨ pid = 0x312 ∨ pid = 0x314 ∨ pid = 0x315 then
      decide (bits n 0 4 ≤ 12) && decide (bits n 4 3 ≤ 5) && decide (bits n 7 3 ≤ 6) && decide (bits n 10 11 ≤ 1439)
        && decide (bits n 21 4 ≤ 8) && decide (n < 2 ^ 25)
    else if 0x680 ≤ pid ∧ pid ≤ 0x69F then
      pid % 2 == 1 || (decide (bits n 0 10 < 512) && decide (bits n 10 8 < 256))
    else match pid with
      | 0x10 => decide (n ≤ 1440)
      | 0x12 => within 5 160 n
      | 0x13 => decide (n % 16 ≤ 8) && decide (n < 32)
      | 0x21 => decide (n < 128)
      | 0x22 => decide (n < 128)
      | 0x23 => decide (n ≤ 9)
      | 0x140 => within 6 10 (n % 16) && decide (n < 64)
      | 0x141 => within 5 500 n
      | 0x200 => bits n 2 6 == 0 && within 1 25 (bits n 8 5) && within 1 7 (bits n 13 3) && decide (n < 65536)
      | 0x201 => within 1000 1000000 n
      | 0x202 =>
        within 50 99 (bits n 0 8) && within 101 150 (bits n 8 8) && within 1 10 (bits n 16 8)
          && within 5 100 (bits n 24 8)
          && decide (bits n 0 8 * 100 + 2 * (bits n 24 8 * 10) < bits n 8 8 * 100)
          && decide (bits n 16 8 < bits n 0 8)
      | 0x203 => within 10 5000 (n % 65536) && within 10 5000 (n / 65536)
      | 0x204 => within 10 10000 n
      | 0x205 => within 5 100 n
      | 0x300 => decide (n < 256) && decide (-48 ≤ ofTwos 8 n) && decide (ofTwos 8 n ≤ 56)
      | 0x301 => true
      | 0x302 => within 5 500 n
      | 0x303 => within 1 47 n
      | 0x304 => decide (n ≤ 1)
      | 0x400 => decide (bits n 0 6 ≤ 32) && decide (n < 256)
      | 0x401 => within 10 3600 n
      | 0x500 => within 1 65535 n
      | 0x600 => decide (n < 2 ^ 14)
      | 0x601 => within 1 64 n
      | 0x602 => within 10 65535 (n % 65536) && within 1 100 (bits n 16 8) && within 5 250 (bits n 24 8)
      | 0x603 => within 500 5000 (n % 65536) && within 5 250 (bits n 16 8) && decide (n < 2 ^ 24)
      | 0x604 => within 1 65535 n
      | 0x605 =>
        within 5 100 (bits n 0 8) && within 15 100 (bits n 8 8) && within 5 250 (bits n 16 8) && within 1 50 (bits n 24 8)
      | 0x6C0 => decide (n ≤ 200)
      | 0x6C1 => within 10 600 n
      | 0x6C2 => within 2500 3300 n
      | 0x6C3 => decide (n ≤ 3)
      | _ => false

end Sys2Proof.Machine
end

