-- ==== Sys2Proof/Machine/Operands.lean ====
section
/-! DEFINITION. The operand forms of requests: parameter lengths, reserved fields, identifiers and the AUTH field, as order
3 and order 4 of R112 check them. -/
namespace Sys2Proof.Machine

/-- A parameter length that the command fixes. -/
def len (r : Request) (n : Nat) : Except Deny Unit := need (r.params.length == n) .badParameter

/-- Byte i of the parameters. -/
def byteAt (r : Request) (i : Nat) : Nat := fld r.params i 1

/-- A field of the parameters. -/
def fieldAt (r : Request) (off k : Nat) : Nat := fld r.params off k

/-- A reserved field that must be zero (R13). -/
def reserved (r : Request) (off k : Nat) : Except Deny Unit := need (isZero r.params off k) .badParameter

/-- A flags byte of which only the low w bits are defined. -/
def flagsWithin (x w : Nat) : Except Deny Unit := need (decide (x < 2 ^ w)) .badParameter

/-- Whether a length is one that an AUTH field may have (R458): nothing, FORM 1, FORM 0. -/
def authLen (n : Nat) : Bool := n == 0 || n == 48 || n == 3325

/-- The AUTH field that follows the first n parameter bytes: its bytes; a wrong length fails order 3 (R458). -/
def authField (r : Request) (n : Nat) : Except Deny (List Byte) := do
  need (decide (n ≤ r.params.length)) .badParameter
  need (authLen (r.params.length - n)) .badParameter
  let a := r.params.drop n
  need (a.isEmpty || (fld a 0 1 == (if a.length = 48 then 1 else 0) && within 1 2 (fld a 1 1) && isZero a 2 2
    && isZero a 14 2)) .badParameter
  .ok a

/-- The channels that a command names, at order 4 (R6): all present, and none on an island retired in service; where both
fail, UNIT_ABSENT. -/
def needChans (s : State) (cs : List Nat) : Except Deny Unit := do
  need (cs.all fun c => decide (c < s.nChan)) .unitAbsent
  need (!cs.any fun c => (s.isl (c / 64)).retired) .unitRetired

/-- A channel identifier at order 4. -/
def needChan (s : State) (c : Nat) : Except Deny Unit := needChans s [c]

/-- A metering-point identifier at order 4. -/
def needPoint (s : State) (m : Nat) : Except Deny Unit := need (decide (m < s.nMp)) .unitAbsent

/-- An island identifier at order 4 of a command that R488 exempts from the retired check. -/
def needIslFitted (s : State) (n : Nat) : Except Deny Unit := need (decide (n < s.nIsl)) .unitAbsent

/-- An island identifier at order 4. -/
def needIsl (s : State) (n : Nat) : Except Deny Unit := do
  need (decide (n < s.nIsl)) .unitAbsent
  need (!(s.isl n).retired) .unitRetired

/-- Whether the recovery service runs (R454). -/
def State.inRecovery (s : State) : Bool := s.mode.mode == .boot && s.cp.recovery

/-- The mode check of a command accepted in the responding modes; in the recovery service only where it is listed. -/
def modeResp (s : State) (recOk : Bool) : Except Deny Unit := need67 (s.mode.mode.responding || (recOk && s.inRecovery)) .notInMode

/-- The mode check of a command accepted in COMMISSION, CALIBRATE, METER and DEGRADED. -/
def modeAll (s : State) : Except Deny Unit := modeResp s false

/-- The mode check of a command accepted in COMMISSION, METER and DEGRADED. -/
def modeNoCal (s : State) : Except Deny Unit :=
  need67 (s.mode.mode == .commission || s.mode.mode == .meter || s.mode.mode == .degraded) .notInMode

/-- A command refused in RETIRED (order 6). -/
def notRetired (s : State) : Except Deny Unit := need67 (s.life != .retired) .lifecycleForbids

end Sys2Proof.Machine
end

