-- ==== Sys2Proof/Machine/Auth.lean ====
section
/-! DEFINITION. Port privileges (R119), authorisations (R456 to R461) and signed packages. -/
namespace Sys2Proof.Machine

/-- The privilege mask of a port (R120). P3 has none: its mailbox has a list of commands instead (R133). -/
def State.portMask (s : State) : Nat → Nat
  | 0 => 0x7F
  | 1 => s.parN 0x21
  | 2 => s.parN 0x22
  | _ => 0

/-- The opcodes whose base bit is READ (R119). -/
def readOpcodes : List Nat :=
  [0x0001, 0x0002, 0x0101, 0x0103, 0x0203, 0x0204, 0x0304, 0x0402, 0x0501, 0x0502, 0x0503, 0x0504, 0x0505, 0x0506,
   0x0601, 0x0602, 0x0604, 0x0801, 0x0802, 0x0804, 0x0B01, 0x0B02, 0x0B03]

/-- The base bits a request needs (R119): `read` marks HOST_AREA without WRITE, `cal` marks SET_MODE with TARGET 3. -/
def basePriv (op : Nat) (read cal : Bool) : Nat :=
  if op = 0x0302 ∨ op = 0x0805 then 0
  else if readOpcodes.contains op || (op == 0x0509 && read) then 1
  else if op = 0x0401 ∨ op = 0x0404 then 2
  else if op = 0x0005 ∨ op = 0x0006 ∨ op = 0x0007 then 4
  else if op / 256 = 0x07 ∨ (op = 0x0003 ∧ cal = true) then 32
  else if op / 256 = 0x09 then 64
  else 8

/-- The privilege part of order 5 (R119, R133). -/
def needPriv (s : State) (r : Request) (op : Nat) (signed : Bool := false) (read cal : Bool := false) :
    Except Deny Unit :=
  if r.port = 3 then need (op == 0x0001 || op == 0x0002 || op == 0x0805) .authorityRequired
  else if op = 0x0805 ∧ r.port = 1 then .error { status := .authorityRequired }
  else
    let want := basePriv op read cal + (if signed then 16 else 0)
    need ((s.portMask r.port &&& want) == want) .authorityRequired

/-- Device time now is defined in the time base; an authorisation compares it with NOT_AFTER. The step's own anchor
arithmetic gives it to the checks here as an argument. -/
def notAfterOk (time : Int) (na : Nat) : Bool := na == 0 || decide (time ≤ (na : Int))

/-- H and the bitmap of an anchor's window (R457): 1 operations, 2 metrology. -/
def SealState.window (w : SealState) (anchor : Nat) : Nat × BitVec 64 :=
  if anchor = 1 then (w.opsH, w.opsMap) else (w.metH, w.metMap)

/-- Whether a SEQ is acceptable to a window (R457). -/
def seqOk (h : Nat) (m : BitVec 64) (q : Nat) : Bool :=
  decide (h < q) || (decide (q ≤ h) && decide (h < q + 64) && !m.getLsbD (h - q))

/-- A window after a SEQ is consumed (R457): bit j of the bitmap stands for H - j. -/
def seqTake (h : Nat) (m : BitVec 64) (q : Nat) : Nat × BitVec 64 :=
  if h < q then (q, (m <<< (q - h)) ||| 1) else (h, m ||| BitVec.ofNat 64 (2 ^ (h - q)))

/-- A SEQ consumed from an anchor's window. -/
def State.takeSeq (s : State) (anchor q : Nat) : State :=
  s.onSec fun x =>
    let w := x.sealSt.window anchor
    let t := seqTake w.1 w.2 q
    { x with sealSt := if anchor = 1 then { x.sealSt with opsH := t.1, opsMap := t.2 }
                       else { x.sealSt with metH := t.1, metMap := t.2 } }

/-- The anchor slot in force: the highest programmed slot, as its number and digest (R446). -/
def State.anchorSlot (s : State) (anchor : Nat) : Option (Nat × List Byte) :=
  let l := match anchor with
    | 0 => s.otp.vendorAnchors
    | 1 => s.otp.opsAnchors
    | _ => s.otp.metAnchors
  match l.getLast? with
  | some d => some (l.length - 1, d)
  | none => none

/-- The installed public key of an anchor when its digest equals the slot in force (R447). -/
def State.anchorKey (s : State) (anchor : Nat) : Option (List Byte) :=
  let k := s.security.pubKeys.getD anchor []
  match s.anchorSlot anchor with
  | some (_, d) => if !k.isEmpty && shake256 k 32 == d then some k else none
  | none => none

/-- A signature under the anchor in force (R447, R450). -/
def State.sigOk (s : State) (anchor : Nat) (ctx : String) (msg sig : List Byte) : Bool :=
  match s.anchorKey anchor with
  | some k => Config.mlDsaVerify k (Keccak.ascii ctx) msg sig
  | none => false

/-- The session key of an anchor (R460). -/
def State.session (s : State) (anchor : Nat) : Option Session :=
  if anchor = 1 then s.security.opsSession else s.security.metSession

/-- The message that an authorisation covers (R459). -/
def authMessage (s : State) (op : Nat) (auth body : List Byte) : List Byte :=
  auth.take 16 ++ s.fuses.deviceId ++ le 2 op ++ shake256 body 64

/-- An authorisation checked at order 5 (R459): the anchor the command needs, the opcode, the parameter bytes before AUTH,
the AUTH bytes, and whether FORM 1 is refused (R461). It answers the state in which the SEQ is consumed. -/
def checkAuth (s : State) (time : Int) (anchor op : Nat) (body auth : List Byte) (form0 : Bool) :
    Except Deny State := do
  let form := fld auth 0 1
  need (!auth.isEmpty && fld auth 1 1 == anchor && !(form == 1 && form0)) .authorityRequired
  let key := s.session anchor
  need (form == 0 || key.isSome) .authorityRequired
  let msg := authMessage s op auth body
  let good := if form = 0 then s.sigOk anchor "OVP-AUTH" msg (auth.drop 16)
    else match key with
      | some k => kmac256 k.key msg 32 "OVP-AUTH" == auth.drop 16
      | none => false
  if !good then .error { status := .signatureInvalid, authCause := some 0 }
  let w := s.security.sealSt.window anchor
  if !notAfterOk time (fld auth 8 6) || !seqOk w.1 w.2 (fld auth 4 4) then
    .error { status := .rollback, authCause := some 0 }
  .ok (s.takeSeq anchor (fld auth 4 4))

/-- Order 5 of a command (R119, R459): the port privilege, then the authority. `anchor` is the anchor whose signature the
command must carry now, or none where host authority suffices; an AUTH supplied there is checked and consumed all the same.
It answers the state with the SEQ consumed, which a short command adopts once it has passed every check; a long one keeps the AUTH with
its operation (R457). -/
def order5 (s : State) (time : Int) (r : Request) (op : Nat) (anchor : Option Nat) (bodyLen : Nat) (auth : List Byte)
    (form0 : Bool := false) (cal : Bool := false) : Except Deny State := do
  let carried := if auth.isEmpty then none else some (fld auth 1 1)
  let signed := anchor == some 1 || carried == some 1
  needPriv s r op signed false cal
  match anchor with
  | some a => checkAuth s time a op (r.params.take bodyLen) auth form0
  | none =>
    match carried with
    | some a => checkAuth s time a op (r.params.take bodyLen) auth form0
    | none => .ok s

/-- The authorisation of a long command kept with its operation: its SEQ is consumed at the commit point (R457). -/
def State.holdAuth (s : State) (o : OpRef) (auth : List Byte) : State :=
  s.onEntry o fun e => { e with auth := if auth.isEmpty then none else some (fld auth 1 1, fld auth 4 4) }

/-- The anchor that "host/ops" asks for: none outside SEALED, operations in SEALED. -/
def State.opsWhenSealed (s : State) : Option Nat := if s.life = .sealed then some 1 else none

/-! ## Packages (R455, R456) -/

/-- The parts of a package. -/
structure Package where
  type : Nat
  version : Nat
  anchor : Nat
  flags : Nat
  seq : Nat
  rollback : Nat
  notAfter : Nat
  devId : List Byte
  header : List Byte
  payload : List Byte
  sig : List Byte
  deriving DecidableEq, Repr

/-- A package read from bytes; none when its layout or lengths are wrong (order 1 of R456). -/
def parsePackage (bs : List Byte) (types : List Nat) : Option Package :=
  let n := fld bs 8 4
  let p : Package :=
    { type := fld bs 0 2, version := fld bs 20 4, anchor := fld bs 3 1, flags := fld bs 4 2, seq := fld bs 12 4,
      rollback := fld bs 16 4, notAfter := fld bs 24 6, devId := sub bs 32 16, header := bs.take 64,
      payload := sub bs 64 n, sig := bs.drop (64 + n) }
  let unsigned := bit p.flags 1
  if decide (64 ≤ bs.length) && types.contains p.type && fld bs 2 1 == 1 && decide (p.anchor ≤ 2)
      && decide (p.flags < 4) && (!unsigned || p.type == 4) && isZero bs 6 2 && isZero bs 30 2 && isZero bs 48 16
      && decide (64 + n ≤ bs.length) && p.sig.length == (if unsigned then 0 else 3309)
      && (p.anchor != 0 || p.seq == 0)
      && (if p.type ≤ 2 then decide (p.rollback ≤ 64) else p.rollback == 0)
      && (bit p.flags 0 || p.devId == zeros 16)
  then some p else none

/-- The outcome of the checks of R456: the status and the order that failed. -/
structure PkgFail where
  status : Status
  order : Nat
  deriving DecidableEq, Repr

/-- Orders 2 to 6 of R456 on a package of a known anchor. `anyUnsigned` admits FLAGS[1] as R467 does in MANUFACTURE and
UNSEALED. -/
def checkPackage (s : State) (time : Int) (p : Package) (anchor : Nat) (anyUnsigned : Bool) : Except PkgFail Unit := do
  let unsigned := bit p.flags 1
  if p.anchor ≠ anchor then .error ⟨.signatureInvalid, 2⟩
  if unsigned && !anyUnsigned then .error ⟨.signatureInvalid, 3⟩
  if !unsigned && !s.sigOk anchor "OVP-PKG" (p.header ++ p.payload) p.sig then .error ⟨.signatureInvalid, 3⟩
  let bound := bit p.flags 0
  if bound && p.devId ≠ s.fuses.deviceId then .error ⟨.signatureInvalid, 4⟩
  if !bound && !unsigned && decide (4 ≤ p.type) then .error ⟨.signatureInvalid, 4⟩
  if !notAfterOk time p.notAfter then .error ⟨.rollback, 5⟩
  if unsigned then .ok ()
  else if p.type ≤ 2 then
    if p.rollback < s.rollbackCount then .error ⟨.rollback, 6⟩ else .ok ()
  else if anchor = 0 then .ok ()
  else
    let w := s.security.sealSt.window anchor
    if seqOk w.1 w.2 p.seq then .ok () else .error ⟨.rollback, 6⟩

/-- Every order of R456 on bytes: the package, or the status and the order of the failure. -/
def verifyPackage (s : State) (time : Int) (bs : List Byte) (types : List Nat) (anchor : Nat → Nat)
    (anyUnsigned : Bool) : Except PkgFail Package :=
  match parsePackage bs types with
  | none => .error ⟨.badParameter, 1⟩
  | some p =>
    match checkPackage s time p (anchor p.anchor) anyUnsigned with
    | .ok _ => .ok p
    | .error e => .error e

/-- The count of a package failure (R518): orders 2 to 6 raise EV_AUTH_FAIL with cause 1. -/
def State.pkgFail (s : State) (e : PkgFail) (port : Nat) : State := if e.order = 1 then s else s.authFail 1 port

end Sys2Proof.Machine
end

