-- ==== Sys2Proof/Machine/TimeBase.lean ====
section
/-! DEFINITION. The mapping between sample index and device time (R306). -/
namespace Sys2Proof.Machine

/-- A device time held to its 48 bits (R302). -/
def wrap48 (t : Int) : Int := t % 2 ^ 48

/-- The distance of two device times of 48 bits. -/
def timeDiff (b a : Int) : Int := (b - a + 2 ^ 47) % 2 ^ 48 - 2 ^ 47

/-- The line through one anchor at the nominal rate, rounded (R306, second form). -/
def Anchor.line (b : Anchor) (s : Nat) : Int := roundDiv (b.t * 128000 + ((s : Int) - b.s) * 65536) 128000

/-- The line through two anchors, a before b (R306, first form). -/
def Anchor.through (b a : Anchor) (s : Nat) : Int :=
  roundDiv (b.t * ((b.s : Int) - a.s) + ((s : Int) - b.s) * timeDiff b.t a.t) (b.s - a.s)

/-- Device time of sample s over anchors, newest first (R306). Before any anchor exists it is `rtc`. -/
def timeOver (anchors : List Anchor) (rtc : Int) (s : Nat) : Int :=
  match anchors.filter fun a => decide (a.s ≤ s) with
  | b :: a :: _ => if b.step || b.s == a.s then b.line s else b.through a s
  | [b] => b.line s
  | [] =>
    match anchors.getLast? with
    | some b => b.line s
    | none => rtc

/-- Device time t(s) of sample s (R306). -/
def State.timeOf (s : State) (n : Nat) : Int := timeOver s.clock.anchors s.clock.rtc n

/-- Device time now. -/
def State.time (s : State) : Int := s.timeOf s.now

/-- The latest step anchor, or the oldest anchor. -/
def State.stepAnchor (s : State) : Anchor :=
  match s.clock.anchors.find? fun a => a.step with
  | some a => a
  | none => s.clock.anchors.getLastD {}

/-- Bisection for the first index in (lo, lo + 2^k] at which a rising test holds, when it holds at the end. -/
def firstIn (f : Nat → Bool) : Nat → Nat → Nat
  | 0, lo => lo + 1
  | k + 1, lo => if f (lo + 2 ^ k) then firstIn f k lo else firstIn f k (lo + 2 ^ k)

/-- The instant of a device time (R306): the first sample at or after the latest step anchor with t(s) at or after it. -/
def State.instantOf (s : State) (t : Int) : Nat :=
  let a := s.stepAnchor
  if t ≤ s.timeOf a.s then a.s else firstIn (fun n => decide (t ≤ s.timeOf n)) 60 a.s

/-- Bits [47:16] of a device time: whole seconds. -/
def secondsOf (t : Int) : Nat := (t / 65536).toNat % 2 ^ 32

/-- A device time as 6 bytes. -/
def time6 (t : Int) : List Byte := leI 6 t

/-- A sample index as 8 bytes with [63:56] zero. -/
def sample8 (n : Nat) : List Byte := le 7 n ++ [0]

/-- A sample index as 7 bytes (R403). -/
def sample7 (n : Nat) : List Byte := le 7 n

/-- A new anchor placed at a sample (R306). -/
def State.placeAnchor (s : State) (a : Anchor) : State :=
  s.onClock fun c => { c with anchors := a :: c.anchors.filter fun b => b.s != a.s || b.step != a.step }

end Sys2Proof.Machine
end

