-- ==== Sys2Proof/Machine/Admission.lean ====
section
/-! DEFINITION. Configurations and their admission (R164, R165, R197, R199, R203, R220 to R222, R242, R246). -/
namespace Sys2Proof.Machine

/-! ## Channels, rates and points -/

/-- Bank n. -/
def State.bank (s : State) (n : Nat) : Bank := s.engine.banks.getD n {}

/-- The output period of a channel's settings in slots (R201). -/
def State.periodOf (s : State) (t : Settings) : Nat := if t.single then 64 else 2 ^ (s.bank t.bank).k

/-- The output rate of a channel's settings in outputs per second (R201). -/
def State.rateOf (s : State) (t : Settings) : Nat := 128000 / s.periodOf t

/-- The outputs of a channel in the retained window (R201). -/
def State.windowOf (s : State) (t : Settings) : Nat := if t.single then 96 else 5120 / 2 ^ (s.bank t.bank).k

/-- The channels of a binding that are used. -/
def Binding.chans (b : Binding) : List Nat := b.ch.filter fun c => c != 0xFFFF

/-- The elements of a binding as pairs of a voltage and a current channel (R245). -/
def Binding.elements (b : Binding) : List (Nat × Nat) :=
  let g := fun i => b.ch.getD i 0xFFFF
  match b.type with
  | 0 => [(g 0, g 3)]
  | 1 => [(g 0, g 3), (g 1, g 4), (g 2, g 5)]
  | _ => [(g 0, g 3), (g 2, g 5)]

/-- The first voltage channel of a binding. -/
def Binding.v1 (b : Binding) : Nat := b.ch.getD 0 0xFFFF

/-- The neutral channel of a binding, if any. -/
def Binding.neutral (b : Binding) : Option Nat :=
  let n := b.ch.getD 6 0xFFFF
  if n = 0xFFFF then none else some n

/-- Whether a binding is a reference point (R2). -/
def Binding.isRef (b : Binding) : Bool := bit b.flags 0

/-- The numbers of the bound points, ascending. -/
def State.boundPoints (s : State) : List Nat := (List.range s.nMp).filter fun m => (s.point m).bind.isSome

/-- The numbers of the bound billing points, ascending. -/
def State.billPoints (s : State) : List Nat :=
  s.boundPoints.filter fun m => match (s.point m).bind with
    | some b => !b.isRef
    | none => false

/-- The points bound to a channel, ascending. -/
def State.pointsOf (s : State) (c : Nat) : List Nat :=
  s.boundPoints.filter fun m => match (s.point m).bind with
    | some b => b.ch.contains c
    | none => false

/-- Whether a channel is bound to a point. -/
def State.bound (s : State) (c : Nat) : Bool := !(s.pointsOf c).isEmpty

/-- Whether a point is held under causes [0] to [2] of R239, so that it costs nothing (R220). -/
def Point.heldFree (p : Point) : Bool := p.causes % 8 != 0

/-- The output period of a point in slots: that of its first voltage channel. -/
def State.pointPeriod (s : State) (m : Nat) : Nat :=
  match (s.point m).bind with
  | some b => s.periodOf (s.chan b.v1).set
  | none => 1

/-- Whether harmonic analysis is enabled on a channel: its PQ_HARM_EN bit, on a variant that has the unit (R301). -/
def State.harmEnabled (s : State) (c : Nat) : Bool := s.hasHarm && bit (s.value (0x210 + c / 32)).toNat (c % 32)

/-! ## Projected load (R220, R221) -/

/-- The cost of one channel (R220). -/
def State.chanLoad (s : State) (c : Nat) : Nat :=
  let t := (s.chan c).set
  if t.role = 0 ∨ s.islOn (c / 64) = false then 0
  else
    let r := s.rateOf t
    r * (if t.single then 72 else (s.bank t.bank).taps + 8)
      + (if t.role = 1 ∧ s.bound c = true then 63 * r else 0)
      + (if s.harmEnabled c then 220000 else 0)

/-- The cost of one point (R220). -/
def State.pointLoad (s : State) (m : Nat) : Nat :=
  match (s.point m).bind with
  | some b => if (s.point m).heldFree then 0 else 40 * b.elements.length * s.rateOf (s.chan b.v1).set
  | none => 0

/-- The projected load in lane-cycles per second (R220). -/
def State.load (s : State) : Nat :=
  ((List.range s.nChan).map s.chanLoad).sum + ((List.range s.nMp).map s.pointLoad).sum

/-- The retained-window sum (R221). -/
def State.windowUsed (s : State) : Nat :=
  ((List.range s.nChan).map fun c =>
    let t := (s.chan c).set
    if t.role = 0 ∨ s.islOn (c / 64) = false then 0 else s.windowOf t).sum

/-- Lanes in service. -/
def State.lanesOn (s : State) : Nat := (s.engine.lanes.filter fun l => !l.retired).length

/-- The largest load that is admitted with a number of lanes: 92 % of their capacity (R221). -/
def loadLimit (lanes : Nat) : Nat := lanes * 409600000 * 92 / 100

/-- Both conditions of R221. -/
def State.admitted (s : State) : Bool := decide (s.load ≤ loadLimit s.lanesOn) && decide (s.windowUsed ≤ 163840)

/-- A change of configuration is refused when it raises the load or the window and is not admitted (R222). -/
def capacityFails (before after : State) : Bool :=
  (decide (before.load < after.load) && decide (loadLimit after.lanesOn < after.load))
    || (decide (before.windowUsed < after.windowUsed) && decide (163840 < after.windowUsed))

/-- The staging buffer words of one island (R197): `uncomp` is its fabric form. -/
def stagingWords (uncomp : Bool) : Nat := if uncomp then 65536 else 36864

/-- The staging sum over the islands in service (R197). -/
def State.stagingUsed (s : State) : Nat :=
  ((List.range s.nIsl).map fun n =>
    if s.islOn n then stagingWords (bit (s.parN (0x708 + 32 * n)) 0) else 0).sum

/-- R197 holds. -/
def State.stagingOk (s : State) : Bool := decide (s.stagingUsed ≤ 360448)

/-! ## Parameter sets on the configuration as it would stand -/

/-- A setting of a channel written. -/
def State.putChan (s : State) (c p : Nat) (v : BitVec 32) : State := s.onChan c fun ch => { ch with set := ch.set.put p v }

/-- One item written into the configuration, without any effect of its boundary. -/
def State.putItem (s : State) : EffItem → State
  | .pid pid v =>
    match chanPid pid with
    | some (c, p) => if p ≤ 5 then s.putChan c p v else s.setPar pid v
    | none => s.setPar pid v
  | .fs c v => s.onChan c fun ch => { ch with fs := v }
  | .bank n t k cs => s.onEngine fun e => { e with banks := upd e.banks n fun b => { b with taps := t, k := k, coeff := cs } }

/-- The configuration with every committed item applied (R503): what checks of later sets see. -/
def State.configured (s : State) : State := (s.engine.effects.map fun e => e.item).foldl State.putItem s

/-- The configuration with more items applied. -/
def State.withItems (s : State) (items : List EffItem) : State := items.foldl State.putItem s.configured

/-- The corrections of a channel lie in the ranges that its role needs (R166). -/
def correctionOk (t : Settings) : Bool :=
  !meteringRole t.role || (decide (0x200000 ≤ t.gcorr) && decide (t.gcorr ≤ 0x7FFFFF)
    && decide (-2097152 ≤ t.off) && decide (t.off ≤ 2097152))

/-- What R165, R166, R189 and R199 ask of one channel's settings together. -/
def State.chanOk (s : State) (c : Nat) : Bool :=
  let t := (s.chan c).set
  correctionOk t && !(t.role == 4 && !t.single) && !(t.single && t.frac != 0)
    && !(t.role != 0 && !t.single && (s.bank t.bank).taps == 0)

/-- All channels of a point have one output rate (R203). -/
def State.ratesOk (s : State) (m : Nat) : Bool :=
  match (s.point m).bind with
  | some b => b.chans.all fun c => s.rateOf (s.chan c).set == s.rateOf (s.chan b.v1).set
  | none => true

/-- R203 is broken for a point by a change that is not one set of COMMIT_PARAMS: its channels differ in rate, or its rate changes. -/
def rateBreaks (before after : State) (m : Nat) : Bool :=
  !after.ratesOk m || after.pointPeriod m != before.pointPeriod m

/-- Both rules of an enabled DST pattern name a month (R338); patterns start at 0x310 and 0x313. -/
def State.dstOk (s : State) (base : Nat) : Bool :=
  s.parN base == 0 || ((s.parN (base + 1)) % 16 != 0 && (s.parN (base + 2)) % 16 != 0
    && bits (s.parN (base + 1)) 4 3 != 0 && bits (s.parN (base + 2)) 4 3 != 0)

/-- An enabled thermal watch entry names an AUX_DC channel and a bound point (R434). -/
def State.thermalOk (s : State) (v : Nat) : Bool :=
  !bit v 18 || ((s.chan (v % 1024)).set.role == 4 && (s.point (bits v 10 8)).bind.isSome)

/-- The first condition on the whole configuration that an item enters and that fails, in the order of the completion
table of R506: `before` is the configuration so far, `after` the one with the whole set applied. -/
def itemFails (before after : State) (pid : Nat) : Option Status :=
  match chanPid pid, islandPid pid with
  | some (c, p), _ =>
    if 5 < p then none
    else if !after.chanOk c then some .badParameter
    else if p = 0 ∧ (before.chan c).set.role ≠ (after.chan c).set.role ∧ before.bound c = true then some .resourceBusy
    else if (after.pointsOf c).any fun m => !after.ratesOk m then some .resourceBusy
    else if (p = 0 ∨ p = 4 ∨ p = 5) ∧ capacityFails before after = true then some .capacity
    else none
  | _, some (_, p) =>
    if p = 8 ∧ after.stagingOk = false then some .capacity
    else if p = 4 ∧ after.parN pid ≠ 0x3FF ∧ (after.chan (after.parN pid)).set.role ≠ 1 then some .badParameter
    else none
  | _, _ =>
    if 0x210 ≤ pid ∧ pid ≤ 0x21F ∧ capacityFails before after = true then some .capacity
    else if 0x310 ≤ pid ∧ pid ≤ 0x312 ∧ after.dstOk 0x310 = false then some .badParameter
    else if 0x313 ≤ pid ∧ pid ≤ 0x315 ∧ after.dstOk 0x313 = false then some .badParameter
    else if 0x680 ≤ pid ∧ pid ≤ 0x69F ∧ pid % 2 = 0 ∧ after.thermalOk (after.parN pid) = false then some .badParameter
    else none

/-- A change of CH_ROLE between the two groups of R164. -/
def State.groupChange (s : State) (pid : Nat) (v : BitVec 32) : Bool :=
  match chanPid pid with
  | some (c, 0) => meteringRole (s.configured.chan c).set.role != meteringRole (bits v.toNat 0 3)
  | _ => false

/-- The lifecycle rule of one write outside a sealed move (R12, R164): LIFECYCLE_FORBIDS at order 6, SEALED at order 8. The role
is that of the committed configuration, which the write would meet at its hand-over. -/
def State.sealFails (s : State) (pid : Nat) (v : BitVec 32) : Option Status :=
  if s.configured.access pid = some .rwS then
    match s.life with
    | .sealed => some .sealed
    | .retired => some .lifecycleForbids
    | _ => none
  else if s.groupChange pid v = true ∧ s.life = .sealed then some .sealed
  else none

/-- A write of UNCOMP = 0 where compression is absent (R198). -/
def State.fabricAbsent (s : State) (pid : Nat) (v : BitVec 32) : Bool :=
  match islandPid pid with
  | some (_, 8) => !s.hasComp && v.toNat == 0
  | _ => false

/-- The rule of one value alone (R502: what staging checks at order 9). -/
def State.aloneOk (s : State) (pid : Nat) (v : BitVec 32) : Bool := s.valueOk pid v

end Sys2Proof.Machine
end

