-- ==== Sys2Proof/Machine/Queues.lean ====
section
/-! DEFINITION. The hardware queues (R22 to R31): words with parity and poison, credits, the arbiter, and the health counts. -/
namespace Sys2Proof.Machine

/-! ## Words (R23, R24) -/

/-- A word of w data bits as its producer sends it: the parity bit makes the number of 1 bits over data, poison and parity
even (R23). -/
def wordOf (w d : Nat) (poison : Bool := false) : QWord :=
  { data := d % 2 ^ w, poison := poison, parity := parity (d % 2 ^ w) w != poison }

/-- A gap word (R26): poisoned, with the count of what was discarded, saturated. -/
def gapWord (w n : Nat) : QWord := { wordOf w (satN w n) true with gap := true }

/-- Wire bit i of a word of w data bits inverted: data bits, the poison bit, the parity bit. -/
def QWord.invert (w : Nat) (x : QWord) (i : Nat) : QWord :=
  if i < w then { x with data := x.data ^^^ 2 ^ i }
  else if i = w then { x with poison := !x.poison }
  else if i = w + 1 then { x with parity := !x.parity }
  else x

/-- A word as the consumer side delivers it (R23): a parity mismatch sets the poison bit. -/
def QWord.receive (w : Nat) (x : QWord) : QWord :=
  if (Machine.parity x.data w != x.poison) = x.parity then x else { x with poison := true }

/-- Words that cross a queue of w data bits: `flips` names the bits that are inverted on the way, as (word, bit). -/
def crossing (w : Nat) (flips : List (Nat × Nat)) (ws : List QWord) : List QWord :=
  (List.zip ws (List.range ws.length)).map fun x =>
    ((flips.filter fun f => f.1 == x.2).foldl (fun v f => v.invert w f.2) x.1).receive w

/-! ## Depths and credits (R25 to R31) -/

/-- Data bits and depth in words of Q0 to Q31 (R31). -/
def queueTable : List (Nat × Nat) :=
  List.replicate 8 (14, 128) ++ [(64, 2048), (32, 1024), (24, 4096), (24, 8192), (64, 1024), (64, 1024), (64, 16384), (32, 256)]
  ++ [(32, 16384), (32, 16384), (32, 256), (32, 8192), (32, 8192), (32, 256), (32, 4096), (32, 4096), (32, 2048), (32, 2048)]
  ++ [(16, 32), (16, 32), (32, 64), (64, 64), (32, 256), (64, 4096)]

/-- The depth of a queue (R31). -/
def queueDepth (q : Nat) : Nat := (queueTable.getD q (0, 0)).2

/-- The data bits of a queue's words (R31). -/
def queueBits (q : Nat) : Nat := (queueTable.getD q (0, 0)).1

/-- Whether a queue exists on the variant (R30). -/
def State.queuePresent (s : State) (q : Nat) : Bool :=
  if q ≤ 7 then decide (q < s.nIsl) else if q = 10 then s.hasHarm else if q = 11 then s.hasCapt else true

/-- The flow state of a queue. -/
def State.queue (s : State) (q : Nat) : QueueStat := s.queues.getD q {}

/-- The credits that the producers of a queue hold while it holds no word: its depth without those whose return was dropped
(R25, R29). -/
def State.creditsMax (s : State) (q : Nat) : Nat := queueDepth q - (s.queue q).lost

/-- Whether a real-time producer may send: besides the reserved credit it holds another (R26). -/
def State.flowing (s : State) (q : Nat) : Bool := decide (1 < s.creditsMax q)

/-- The words of an event in Q13: its identity and sample index, then its fields. The spec lays out no word of Q13: DESIGN
CHOICE, log entry 161. -/
def EvGroup.words (g : EvGroup) : Nat := 2 + ceilDiv g.fields.length 8

/-- Words that a queue whose contents the state holds as data has taken or its producers keep ready. Q0 to Q7, Q10, Q11, Q26,
Q27, Q29 and Q30 hold none between commands: their consumers take every word within the command that sends it (log entry
161). -/
def State.wordsFor (s : State) (q : Nat) : Nat :=
  match q with
  | 8 => s.q8.length
  | 9 => s.pq.q9.length
  | 13 => (s.events.q13.map EvGroup.words).sum
  | 14 => match s.events.freeze with
    | some f => 4 * (f.staged.map fun g => g.recs.length).sum
    | none => 0
  | 15 => s.relays.q15.length
  | 18 => 4 * (s.port 0).completions.length
  | 21 => 4 * (s.port 1).completions.length
  | 28 => s.q28.length
  | _ => 0

/-- The credits that the producers of a queue hold now (R25): each word in the queue uses one. -/
def State.credits (s : State) (q : Nat) : Nat := s.creditsMax q - s.wordsFor q

/-- Units discarded by the real-time producer of a queue (R26). -/
def State.discard (s : State) (q n : Nat) : State := s.onQueue q fun x => { x with discarded := x.discarded + n }

/-- A queue of which a credit return was dropped (R29). -/
def State.loseCredit (s : State) (q : Nat) : State := s.onQueue q fun x => { x with lost := min (queueDepth q) (x.lost + 1) }

/-! ## The arbiter (R27) -/

/-- The producer served next among those that wait: the first after the last one served, round robin. -/
def nextTurn (turn : Nat) (ps : List Nat) : Option Nat :=
  match (ps.filter fun p => decide (turn < p)).min? with
  | some p => some p
  | none => ps.min?

/-- The records at the head of a list that the credits cover, and the rest, which waits at the producers. -/
def covered {α : Type} (words : α → Nat) : Nat → List α → List α × List α
  | _, [] => ([], [])
  | room, x :: r =>
    if room < words x then ([], x :: r)
    else let y := covered words (room - words x) r; (x :: y.1, y.2)

/-- Waiting records sent while credits last, one producer after another (R27): the records sent, those that still wait with the
chosen one first, and the producer served last. -/
def arbitrate {α : Type} (words prod : α → Nat) : Nat → Nat → Nat → List α → List α × List α × Nat
  | 0, _, turn, l => ([], l, turn)
  | k + 1, room, turn, l =>
    match nextTurn turn (l.map prod) with
    | none => ([], l, turn)
    | some p =>
      let mine := fun x => prod x == p
      match l.find? mine with
      | none => ([], l, turn)
      | some x =>
        if room < words x then ([], x :: l.eraseP mine, turn)
        else
          let y := arbitrate words prod k (room - words x) p (l.eraseP mine)
          (x :: y.1, y.2.1, y.2.2)

/-- A queue of several producers after its consumer has taken the record at the head: the credits that return let waiting
records in. `cap` is the number of credits without words. -/
def refill {α : Type} (words prod : α → Nat) (cap turn : Nat) (l : List α) : List α × Nat :=
  let (held, wait) := covered words cap l
  let held := held.drop 1
  let y := arbitrate words prod wait.length (cap - (held.map words).sum) turn wait
  (held ++ y.1 ++ y.2.1, y.2.2)

/-- The record at the head of a queue of several producers, when the queue holds it. -/
def takeable {α : Type} (words : α → Nat) (cap : Nat) (l : List α) : Option α := (covered words cap l).1.head?

/-! ## Health counts (R28, R29) -/

/-- n poisoned words delivered by a queue (R28): counted, and EV_QUEUE_POISON raised at the first one after the host's last
acknowledgement. Within a second of the queue's last record the latch is set without a record (log entry 27). -/
def State.poisonedN (s : State) (q n : Nat) : State :=
  if n = 0 then s
  else
    let x := s.queue q
    let due := match x.lastRecord with
      | none => true
      | some t => decide (t + slotsPerS ≤ s.now)
    let s := s.onQueue q fun x => { x with
      poisonCount := satN 32 (x.poisonCount + n), sinceRecord := x.sinceRecord + n, poisonNotified := true }
    if x.poisonNotified then s
    else if due then
      (s.onQueue q fun x => { x with sinceRecord := 0, lastRecord := some s.now }).raise 13 6 q
        (le 4 (satN 32 (x.sinceRecord + n)))
    else s.eachPort fun p => p.setLatch (BitVec.ofNat 64 (2 ^ 13))

/-- One poisoned word delivered by a queue. -/
def State.poisoned (s : State) (q : Nat) : State := s.poisonedN q 1

/-- A gap word delivered by a queue: it counts as a gap word and as a poisoned one (R26, R28). -/
def State.gapped (s : State) (q : Nat) : State :=
  (s.onQueue q fun x => { x with gapCount := incSat 32 x.gapCount, discarded := 0 }).poisoned q

/-! ## Notices (R34) -/

/-- The pending notices sent once the control plane is ready and a credit is there; the control core takes each at once. -/
def State.sendNotices (s : State) : State :=
  if s.cp.st = .ready ∧ 0 < s.creditsMax 30 then
    s.onCp fun c => { c with taken := c.taken + c.notices.length, notices := [] }
  else s

/-- NOTICE (R34): a notice of a metering-plane unit. Its code's pending bit is set while the control plane is not ready (R33) or no
credit is there, and several occurrences become one. -/
def execNotice (s : State) (code : Nat := 0) : Host.Outcome State Fault Refusal :=
  .next (if s.metering = false then s
    else (s.onCp fun c => { c with notices := union c.notices [code] }).sendNotices)

/-! ## Credits found missing (R29) -/

/-- CREDIT_RESYNC (R29): a present queue has been empty for 256 consumer clock periods, and its credits are compared with the
depth. -/
def execCreditResync (q : Nat) (s : State) : Host.Outcome State Fault Refusal :=
  .next (if 32 ≤ q ∨ s.queuePresent q = false ∨ s.wordsFor q ≠ 0 ∨ s.credits q = queueDepth q then s
    else ((s.onQueue q fun x => { x with lost := 0 }).poisoned q).sendNotices)

end Sys2Proof.Machine
end

