-- ==== Sys2Proof/Machine/Records.lean ====
section
/-! DEFINITION. The byte layouts of event records, and of the power, engine, store and security blocks of GET_STATUS. -/
namespace Sys2Proof.Machine

/-- A record's body with its mark word (R374). -/
def framed (body : List Byte) : List Byte := body ++ frameMark body

/-- SOURCE (R401). -/
def EvHead.source (h : EvHead) : Nat := h.srcKind * 4096 + h.srcIdx

/-- The 32 bytes of a head record (R400). -/
def EvHead.bytes (h : EvHead) : List Byte :=
  framed (le 2 0xE0 ++ le 2 32 ++ le 4 h.seq ++ time6 h.time ++ le 2 h.code ++ le 2 h.source ++ le 1 h.ext
    ++ le 1 h.flags ++ le 4 h.data)

/-- The 32 bytes of a record: head or extension (R400, R404). -/
def EvRecord.bytes (r : EvRecord) : List Byte :=
  match r.head with
  | some h => h.bytes
  | none => framed (le 2 0xE1 ++ le 2 32 ++ le 4 r.seq ++ padTo 16 r.ext)

/-- The 16 bytes of a completion record (R143). -/
def Completion.bytes (c : Completion) : List Byte :=
  le 2 c.seq ++ le 2 c.handle ++ le 2 c.opcode ++ le 2 c.status.code ++ le 2 c.detail ++ le 2 c.tag.toNat
    ++ le 4 c.result

/-! ## Hold-up (R67 to R74, R86) -/

/-- The capacitance that V_ADJ and the energy check use, in uF: 1 500 uF before the first test (R69, R371). -/
def Power.cInForce (p : Power) : Nat := if p.health = .unknown ∨ p.cUf = 0 then 1500 else p.cUf

/-- V_ADJ squared in mV^2 (R74): the larger of (6.0 V)^2 and (4.5 V)^2 + 48 mJ / C. -/
def vAdjSq (cUf : Nat) : Nat := max 36000000 (20250000 + 48000000000 / max 1 cUf)

/-- V_ADJ in mV, rounded (log entry 24). -/
def Power.vAdjMv (p : Power) : Nat := roundSqrt (vAdjSq p.cInForce) 1

/-- VHOLD is below V_ADJ. -/
def Power.belowAdj (p : Power) (vhold : Nat) : Bool := decide (vhold * vhold < vAdjSq p.cInForce)

/-- The capacitor gives no ride-through (R69). -/
def Power.noRide (p : Power) : Bool := p.health == .absent || p.health == .insufficient

/-- The checkpoint interval in force, in s (R69, R85). -/
def State.ckptInterval (s : State) : Nat := if s.power.health = .healthy then s.parN 0x6C1 else 10

/-- The capacitor is under service (R493). -/
def State.capService (s : State) : Bool := bit (s.parN 0x6C3) 0

/-- The number of a health state (R70). -/
def Health.num : Health → Nat
  | .unknown => 0
  | .healthy => 1
  | .unhealthy => 2
  | .insufficient => 3
  | .absent => 4

/-- The power block (R70). -/
def State.powerBlock (s : State) : List Byte :=
  let p := s.power
  let pstate := if p.lean then 1 else if p.leanTemp then 2 else 0
  le 2 p.cUf ++ le 2 p.esrMohm ++ le 1 p.health.num ++ le 1 pstate ++ le 2 p.vAdjMv ++ le 2 p.vholdMv ++ le 2 p.vmainMv
    ++ le 2 p.vbatMv ++ le 2 s.ckptInterval ++ le 4 p.healthTime ++ le 4 p.adjCount ++ le 4 p.incompleteCount ++ zeros 4

/-! ## Engine (R223, R244) -/

/-- The engine clock of an operating point, in kHz (R223). -/
def pointKhz (p : Nat) : Nat := 102400 + 51200 * p

/-- The nominal engine supply of an operating point, in mV (R223). -/
def pointMv (p : Nat) : Nat := 620 + 30 * p

/-- The body bias of an operating point, reverse, in mV (R223). -/
def pointBiasMv : Nat → Nat
  | 0 => 200
  | 1 => 100
  | _ => 0

/-- The body bias of the engine island: it moves with the supply, and stays off without the adaptive loop (R223, R224). -/
def State.engineBiasMv (s : State) : Nat := if s.hasAdapt then pointBiasMv s.engine.point else 0

/-- TAKEBACK_RATE (R236, R244): the count of the last complete span of 128 000 slots. -/
def State.takebackRate (s : State) : Nat :=
  let e := s.engine
  let span := s.now / 128000
  if span = e.span then e.rate else if span = e.span + 1 then e.spanCount else 0

/-- The engine and islands block (R244). -/
def State.engineBlock (s : State) : List Byte :=
  let e := s.engine
  let isl := fun (f : Nat → Bool) => maskOf ((List.range s.nIsl).filter f)
  le 1 (maskOf ((List.range 8).filter fun n => !(s.lane n).retired)) ++ le 1 (isl s.islOn)
    ++ le 1 (isl fun n => (s.isl n).retired) ++ le 1 (isl fun n => (s.isl n).dropped) ++ le 1 e.point
    ++ le 1 (b2n s.hasAdapt + 2 * b2n e.romUcode + 4 * b2n s.power.lean) ++ le 2 (pointMv e.point + e.trim)
    ++ le 4 (s.load / 1000) ++ le 4 (s.lanesOn * pointKhz e.clockPoint) ++ le 4 s.windowUsed ++ le 4 e.flagFalls
    ++ le 4 e.abandoned ++ le 4 e.takebacks ++ le 4 e.questioned ++ le 4 e.excluded ++ le 2 s.takebackRate
    ++ le 2 ((s.points.filter fun p => p.causes != 0).length) ++ le 4 e.selfTests ++ sample8 e.lastSelf
    ++ le 1 e.lastFailed ++ zeros 7

/-! ## Store (R393) and security (R476) -/

/-- The number of words of the die (R366). -/
def storeWords : Nat := 16777216

/-- The store block (R393). -/
def State.storeBlock (s : State) : List Byte :=
  let t := s.store
  le 4 t.corrected ++ le 4 t.uncorr ++ le 4 t.weak ++ le 4 t.passes ++ le 2 (t.scrub.pos * 10000 / storeWords)
    ++ le 1 t.scrub.k
    ++ le 1 (b2n t.scrub.paused + 2 * b2n t.scrub.nowOp.isSome + 4 * b2n (t.jobs.any fun j => j.wait)
        + 8 * b2n t.fallback)
    ++ le 4 t.torn ++ le 4 t.pages ++ le 4 t.deferred

/-- The slot in force of each anchor, as ANCHORS of R470 packs them. -/
def State.anchorsByte (s : State) : Nat :=
  let f := fun a => match s.anchorSlot a with
    | some (i, _) => i
    | none => 0
  f 0 + 2 * f 1 + 8 * f 2

/-- The security and tamper block (R476). -/
def State.securityBlock (s : State) : List Byte :=
  let x := s.security
  le 2 (b2n x.idKey + 2 * b2n x.transportKey + 4 * b2n s.inRecovery + 8 * b2n s.lockOn + 16 * b2n s.mode.d2Entered
      + 32 * b2n x.opsSession.isSome + 64 * b2n x.metSession.isSome + 128 * b2n x.entropyFailed)
    ++ le 1 s.rollbackCount ++ le 1 s.anchorsByte ++ le 4 x.sealSt.opsH ++ le 4 x.sealSt.metH ++ le 4 x.sealSt.moves
    ++ le 4 x.authFails ++ le 4 s.tmpActive ++ ((List.range 9).map fun n => le 2 (s.evidCount n)).flatten
    ++ le 4 s.lockSeconds ++ zeros 2

/-! ## The whole status payload (R158) -/

/-- The 8 bytes of one queue in the health block (R28, R158). -/
def State.queueBytes (s : State) (q : Nat) : List Byte :=
  if s.queuePresent q then
    let x := s.queue q
    le 4 x.poisonCount ++ le 4 x.gapCount
  else zeros 8

/-- The 16 bytes of one port (R158). -/
def State.portBytes (s : State) (p : Nat) : List Byte :=
  let q := s.port p
  le 4 q.rejections ++ le 4 q.violations ++ le 4 q.framing ++ le 1 q.handles.length ++ le 1 q.credits
    ++ le 1 (if p = 2 then b2n s.tamper.calLink else 0) ++ zeros 1

/-- The system block (R158). -/
def State.systemBlock (s : State) : List Byte :=
  le 2 s.modeState ++ le 1 s.life.num ++ le 1 (DebugLevel.num s.mode.debug) ++ le 1 s.cp.resetCause ++ le 1 s.degradeByte ++ zeros 2
    ++ time6 s.time ++ zeros 2 ++ sample8 s.now ++ le 4 s.clock.run ++ le 4 ((s.now - s.cp.readyAt) / slotsPerS)

/-- The 512-byte payload of GET_STATUS (R158). -/
def State.statusPayload (s : State) : List Byte :=
  s.systemBlock ++ s.powerBlock ++ ((List.range 32).map s.queueBytes).flatten
    ++ ((List.range 3).map s.portBytes).flatten ++ s.engineBlock ++ s.storeBlock ++ s.securityBlock

/-- The 48-byte identity payload (R157). The mask of the mailbox port is not stated (log entry 6). -/
def State.identity (s : State) (p : Nat) (priv3 : Nat) : List Byte :=
  le 2 s.fuses.variant.code ++ le 1 (if s.fuses.grade = .i then 0 else 1) ++ le 1 0 ++ le 2 s.units ++ le 1 s.life.num
    ++ le 1 s.fuses.dieRev ++ padTo 16 s.fuses.deviceId ++ le 4 s.images.fwVersion ++ le 1 s.images.fwSlot ++ le 1 1
    ++ le 2 4096 ++ le 4 s.images.ucVersion ++ le 4 s.fuses.romVersion ++ le 1 p
    ++ le 1 (if p = 3 then priv3 else s.portMask p) ++ le 1 (initialCredits p) ++ le 1 s.billMax ++ le 1 s.refMax
    ++ zeros 3

end Sys2Proof.Machine
end

