-- ==== Sys2Proof/Machine/Handles.lean ====
section
/-! DEFINITION. The end of long operations before their commit point: cancels (R147), mode changes (R114), control-plane
resets (R144) and adjournments (R82), and the three handle commands. -/
namespace Sys2Proof.Machine

/-- A new pass of the scrubber begins at address 0 (R389, R392), at normal pace. -/
def Scrub.restart (x : Scrub) (time : Int) : Scrub :=
  { x with pos := 0, nowOp := none, full := false, passStart := time, weak := 0, corrected := 0, uncorr := 0 }

/-- Whatever an operation had started is withdrawn before its commit point, so that it has no effect (R114). -/
def State.withdraw (s : State) (o : OpRef) : State :=
  let s := if s.power.testOp = some o then s.onPower fun p => { p with testOp := none, test := .idle } else s
  let s := if s.store.scrub.nowOp = some o then
      s.onStore fun t => { t with scrub := t.scrub.restart s.clock.rtc } else s
  let load := s.security.jobs.any fun j => j.op == some o && match j.kind with
    | .image _ _ => true
    | _ => false
  let s := if load then s.onImages fun i => { i with session := none } else s
  let s := s.onSec fun x => { x with jobs := x.jobs.filter fun j => j.op != some o
                                     measures := x.measures.filter fun m => m.op != o }
  let s := match s.images.ucReq with
    | some u => if u.op = o then s.onImages fun i => { i with ucReq := none } else s
    | none => s
  let s := s.onEngine fun e =>
    { e with remaps := e.remaps.filter fun m => m.op != o
             lanes := e.lanes.map fun l => if l.op = some o then { l with op := none, passes := 0 } else l }
  s.eachIsland fun i =>
      let i := if i.retireOp = some (some o) then { i with retireOp := none } else i
      if i.restoreOp = some o then { i with restoreOp := none, restoreGood := 0, restoreReady := false } else i

/-- An operation stopped before its commit point: it has no effect and completes with a status and DETAIL 0. -/
def State.stopOp (s : State) (o : OpRef) (st : Status) : State := (s.withdraw o).postDone o st 0 0

/-- The modes that accept a long command (R499); CAL_WRITE in SEALED is not accepted in COMMISSION (R465). -/
def longAccepts (op : Nat) (m : Mode) (recovery inSeal : Bool) : Bool :=
  if op = 0x0702 then m == .calibrate
  else if op = 0x0701 then m.responding && !(inSeal && m == .commission)
  else if op = 0x0A01 ∨ op = 0x0A02 ∨ op = 0x0A03 then m == .commission || m == .meter || m == .degraded
  else if op = 0x0903 ∨ op = 0x0905 then m.responding || (m == .boot && recovery)
  else m.responding

/-- The operations of a port that are outstanding, in the order of allocation. -/
def State.outstanding (s : State) (p : Nat) : List OpRef :=
  ((s.port p).handles.filter fun e => !e.done).map fun e => { port := p, handle := e.handle }

/-- Every outstanding operation of the three ports. -/
def State.allOutstanding (s : State) : List OpRef := s.outstanding 0 ++ s.outstanding 1 ++ s.outstanding 2

/-- What a change of mode does to one outstanding operation (R114). -/
def State.modeHits (s : State) (m : Mode) (o : OpRef) : State :=
  match s.entry o with
  | none => s
  | some e =>
    if longAccepts e.opcode m s.cp.recovery (s.life == .sealed) then s
    else if e.committed then s.onEntry o fun e => { e with modeLost := true }
    else s.stopOp o .modeChanged

/-- The operations that are outstanding at the entry of a control-plane reset or an adjournment (R144, R82): those before
their commit point are withdrawn, and every completion is owed at readiness. -/
def State.detachOps (s : State) : State :=
  s.allOutstanding.foldl (fun s o =>
    match s.entry o with
    | none => s
    | some e => (if e.committed then s else s.withdraw o).onEntry o fun e => { e with detached := true }) s

/-- DETAIL of a completion that a reset or an adjournment owes: 1 past the commit point, but 0 for SPOT_CHECK after an adjournment, which
ends the check (R144, R184). -/
def HandleEntry.owedDetail (e : HandleEntry) (st : Status) : Nat :=
  if st = .abortedPower ∧ e.opcode = 0x0703 then 0 else b2n e.committed

/-- The completions owed since the reset or adjournment, posted at readiness in the order of allocation (R144). -/
def State.postOwed (s : State) (st : Status) : State :=
  (s.allOutstanding.filter fun o => match s.entry o with
    | some e => e.detached
    | none => false).foldl (fun s o =>
      match s.entry o with
      | some e => s.postDone o st (e.owedDetail st) e.owed
      | none => s) s

/-- POLL_HANDLE (R146). PROGRESS of a running operation is the command's estimate, which the spec leaves open. -/
def cmdPollHandle (s : State) (r : Request) : Except Deny State := do
  len r 2
  needPriv s r 0x0B01
  modeResp s true
  let h := fieldAt r 0 2
  let (v, s) := s.draw
  match s.entry { port := r.port, handle := h } with
  | none => .ok (s.replyOk r (le 1 0 ++ le 1 (v % 101) ++ le 2 0))
  | some e =>
    let st := if e.done then 3 else if e.cancelReq then 2 else 1
    .ok (s.replyOk r (le 1 st ++ le 1 (if e.done then 100 else v % 101) ++ le 2 e.opcode))

/-- CANCEL_HANDLE (R147). -/
def cmdCancelHandle (s : State) (r : Request) : Except Deny State := do
  len r 2
  needPriv s r 0x0B02
  modeResp s true
  let o : OpRef := { port := r.port, handle := fieldAt r 0 2 }
  match s.entry o with
  | none => .ok (s.replyOk r [2])
  | some e =>
    if e.done then .ok (s.replyOk r [2])
    else if e.committed then .ok (s.replyOk r [1])
    else .ok (((s.onEntry o fun e => { e with cancelReq := true }).stopOp o .cancelled).replyOk r [0])

/-- Completion records acknowledged by a sequence (R148): removed, and their handles freed. -/
def Port.ackCompletions (p : Port) (ack : Nat) : Port :=
  let gone := p.completions.filter fun c => serialLe 16 c.seq ack
  { p with completions := p.completions.filter fun c => !serialLe 16 c.seq ack
           handles := p.handles.filter fun e => !(e.done && gone.any fun c => c.handle == e.handle) }

/-- READ_COMPLETIONS (R148). -/
def cmdReadCompletions (s : State) (r : Request) : Except Deny State := do
  len r 4
  flagsWithin (byteAt r 2) 1
  needPriv s r 0x0B03
  modeResp s true
  let s := if bit (byteAt r 2) 0 then s.onPort r.port fun p => p.ackCompletions (fieldAt r 0 2) else s
  let rs := (s.port r.port).completions.take (byteAt r 3)
  .ok (s.replyOk r (le 2 rs.length ++ (rs.map Completion.bytes).flatten))

end Sys2Proof.Machine
end

