-- ==== Sys2Proof/Machine/StoreOps.lean ====
section
/-! DEFINITION. The store writer (R366 to R386): jobs, their pages, the energy check, and what a confirmed record changes. -/
namespace Sys2Proof.Machine

/-! ## Copies and logs -/

/-- The content of a location that holds a valid record. -/
def Slot.get? {α : Type} : Slot α → Option α
  | .valid a => some a
  | _ => none

/-- Whether a location holds a record cut by a failure (R375). -/
def Slot.isTorn {α : Type} : Slot α → Bool
  | .torn => true
  | _ => false

/-- The newest valid copy (R377): that of the last write, or the other one. -/
def Dual.newest {α : Type} (d : Dual α) : Option α :=
  match (if d.lastB then d.b else d.a).get? with
  | some x => some x
  | none => (if d.lastB then d.a else d.b).get?

/-- A write goes to the copy that the previous write did not use (R377). -/
def Dual.put {α : Type} (d : Dual α) (x : α) : Dual α :=
  if d.lastB then { d with a := .valid x, lastB := false } else { d with b := .valid x, lastB := true }

/-- The void mark of a write's copy, or a write cut before its mark word: the copy is invalid, and the write still to come goes to it
(R369, R373, R377). -/
def Dual.void {α : Type} (d : Dual α) : Dual α :=
  if d.lastB then { d with a := .torn } else { d with b := .torn }

/-- At a start the first write goes to the copy that does not hold the newest valid value (R377). -/
def Dual.settle {α : Type} (d : Dual α) : Dual α :=
  match (if d.lastB then d.b else d.a).get?, (if d.lastB then d.a else d.b).get? with
  | none, some _ => { d with lastB := !d.lastB }
  | _, _ => d

/-- The copies of a record that a start scan finds invalid and not blank (R375). -/
def Dual.tornCount {α : Type} (d : Dual α) : Nat := b2n d.a.isTorn + b2n d.b.isTorn

/-! ## The pages of a job (R366, R368, R379) -/

/-- The ring length of a point's profile (R383). -/
def State.ringLen (s : State) : Nat := 5242880 / s.nMp

/-- The pages that a range of bytes touches. -/
def pagesOf (addr n : Nat) : Nat := if n = 0 then 0 else (addr + n - 1) / 256 - addr / 256 + 1

/-- The pages that one record's job writes. Where the spec gives a record no layout, it counts as filling the space that
R379 gives it (log entry 25). -/
def State.recPages (s : State) : StoreRec → Nat
  | .point _ _ => 3
  | .relay _ _ | .pqCount _ _ | .marker _ _ | .run _ _ | .boundary _ _ => 1
  | .sequencer _ | .sealState _ | .evidence _ _ => 8
  | .device _ => 16
  | .profile m q _ => pagesOf (16 * s.ringLen * m + 16 * (q % s.ringLen)) 16
  | .snapshot _ => 2
  | .event _ => 0
  | .signature _ _ bs => pagesOf 0 bs.length
  | .image _ _ off bs => pagesOf off bs.length
  | .host off bs => pagesOf off bs.length
  | .handles l => pagesOf 0 (4 * l.length)

/-- The event records of a job. -/
def eventRecs : List StoreRec → List EvRecord
  | [] => []
  | .event r :: l => r :: eventRecs l
  | _ :: l => eventRecs l

/-- The pages of a job: the records of one event group lie in consecutive slots of the ring (R386, R399). -/
def State.jobPages (s : State) (j : StoreJob) : Nat :=
  let ev := eventRecs j.recs
  (j.recs.map s.recPages).sum
    + match ev with
      | [] => 0
      | r :: _ => pagesOf (32 * (r.seq % 524288)) (32 * ev.length)

/-- A write of the configuration region on behalf of a command, complete within it (log entry 26). How many pages such a
record touches is not stated (log entry 6). -/
def State.configWrite (s : State) : State :=
  let (v, s) := s.draw
  s.onStore fun t => { t with pages := (t.pages + v) % 2 ^ 32 }

/-! ## Queueing -/

/-- A job placed behind those of its priority and before those of lower ones (R370). -/
def placeJob (j : StoreJob) : List StoreJob → List StoreJob
  | [] => [j]
  | k :: r => if j.prio < k.prio then j :: k :: r else k :: placeJob j r

/-- A job handed to the store writer. -/
def State.enqueue (s : State) (j : StoreJob) : State := s.onStore fun t => { t with jobs := placeJob j t.jobs }

/-- Records handed to Q12 as one job. -/
def State.q12 (s : State) (recs : List StoreRec) : State := s.enqueue { recs := recs }

/-- The registers and ledger of a point as one record (R380); its SEQ is given when it is written. -/
def Point.record (p : Point) (cause : Nat) : PointRec :=
  { cause := cause
    bindSeq := match p.bind with
      | some b => b.seq
      | none => 0
    sample := p.sEnd, reg := p.reg, residue := p.residue, demandAcc := p.demandAcc, history := p.history
    subClosed := p.subClosed, maxDem := p.maxDem, e1 := p.e1, pseq := p.pseq, pend := p.pend, estCycles := p.estCycles
    cycle := p.cycle, pmark := p.pmark, sseq := p.sseq, ledger := p.ledger }

/-- The point's record handed to Q12, with a cause of R380. -/
def State.writePoint (s : State) (m cause : Nat) : State := s.q12 [.point m ((s.point m).record cause)]

/-- The relay state of a reference or unbound point handed to Q12 (R357). -/
def State.writeRelayRec (s : State) (m : Nat) : State := s.q12 [.relay m (s.point m).ledger]

/-- The seal state handed to Q12 (R464). -/
def State.writeSeal (s : State) : State := s.q12 [.sealState s.security.sealSt]

/-- The evidence mirror handed to Q12 (R438). -/
def State.writeEvidence (s : State) : State :=
  s.q12 [.evidence ((List.range 16).map s.evidCount) s.tamper.overflow]

/-- The sequencer record handed to Q12 (R322, R329). -/
def State.writeSequencer (s : State) : State :=
  s.q12 [.sequencer { lastExec := s.tariff.lastExec, closes := s.tariff.table.filter fun e => e.command }]

/-- The device record (R379). -/
def State.deviceRecord (s : State) : DeviceRec :=
  { anchor := s.clock.anchors.headD {}, ckptS := s.ckptInterval, scrubPos := s.store.scrub.pos }

/-! ## What a confirmed record changes -/

/-- The sequence of the next write of a point's record (R377). -/
def State.nextPointSeq (s : State) (m : Nat) : Nat :=
  match (s.store.points.getD m {}).newest with
  | some r => (r.seq + 1) % 2 ^ 32
  | none => 1

/-- One copy of a log's entry written (R378, R379): the entry of a number takes the place that the number gives. -/
def logPut {α : Type} (n key : Nat) (second : Bool) (x : Slot α) (l : List (Nat × Dual α)) : List (Nat × Dual α) :=
  let old := match l.find? fun e => e.1 == key with
    | some e => e.2
    | none => {}
  (key, if second then { old with b := x, lastB := true } else { old with a := x, lastB := false })
    :: l.filter fun e => e.1 % n != key % n

/-- The newest valid entry of a log: valid when either copy is (R378, R382). -/
def logNewest {α : Type} (l : List (Nat × Dual α)) : Option α := l.findSome? fun e => e.2.newest

/-- The copies of a log that a start scan finds invalid and not blank (R375). -/
def logTorn {α : Type} (l : List (Nat × Dual α)) : Nat := (l.map fun e => e.2.tornCount).sum

/-- A ring's slot written: the record of a sequence takes the slot that its number gives, and what the slot held before is
gone (R376). -/
def pushRing {α : Type} (n q : Nat) (x : Slot α) (l : List (Nat × Slot α)) : List (Nat × Slot α) :=
  (q, x) :: l.filter fun e => e.1 % n != q % n

/-- The record of a sequence in a ring (R376). -/
def ringAt {α : Type} (l : List (Nat × Slot α)) (q : Nat) : Option α :=
  match l.find? fun e => e.1 == q with
  | some (_, x) => x.get?
  | none => none

/-- The invalid, not blank slots of a ring among some sequences (R375). -/
def ringTorn {α : Type} (l : List (Nat × Slot α)) (from_ n : Nat) : Nat :=
  (l.filter fun e => decide (from_ ≤ e.1) && decide (e.1 < from_ + n) && e.2.isTorn).length

/-- The seq field of a dual record's next write. -/
def nextSeq {α : Type} (seq : α → Nat) (d : Dual α) : Nat :=
  match d.newest with
  | some r => (seq r + 1) % 2 ^ 32
  | none => 1

/-- R84: the base of the deltas moves to the sequence of the confirmed copy, and the written amounts leave the deltas. -/
def Point.rebase (p : Point) (r : PointRec) : Point :=
  { p with seqBase := r.seq
           delta := (List.range 29).map fun i => (p.reg.getD i 0 + 2 ^ 64 - r.reg.getD i 0) % 2 ^ 64 % 2 ^ 32
           ledger := { p.ledger with delta := p.ledger.credit - r.ledger.credit } }

/-- Bytes of the host-reserved region written: a byte equal to 0x00 is not listed (R397), so equal regions are equal data. -/
def putCell (a : Nat) (b : Byte) : List Host.Cell → List Host.Cell
  | [] => if b = 0 then [] else [(a, b)]
  | c :: r =>
    if a < c.1 then (if b = 0 then c :: r else (a, b) :: c :: r)
    else if c.1 = a then (if b = 0 then r else (a, b) :: r)
    else c :: putCell a b r

/-- Consecutive bytes written from an offset. -/
def putBytes (a : Nat) : List Byte → List Host.Cell → List Host.Cell
  | [], l => l
  | b :: r, l => putBytes (a + 1) r (putCell a b l)

/-- What a byte of the host-reserved region reads. -/
def readCell (l : List Host.Cell) (a : Nat) : Byte :=
  match l.find? fun c => c.1 == a with
  | some c => c.2
  | none => 0

/-- The canonical form of the host-reserved region: addresses strictly rising, no byte equal to 0x00. -/
def Memory.wf : List Host.Cell → Bool
  | [] => true
  | [c] => c.2 != 0
  | c :: d :: r => c.2 != 0 && decide (c.1 < d.1) && Memory.wf (d :: r)

/-- Bytes of an image slot written at an offset. -/
def Image.write (i : Image) (off : Nat) (bs : List Byte) : Image :=
  { i with package := padTo off i.package ++ bs ++ i.package.drop (off + bs.length) }

/-- One image slot changed: target 0 control core, 1 microcode; slot 0 A, 1 B. -/
def Images.on (i : Images) (target slot : Nat) (f : Image → Image) : Images :=
  if target = 0 then (if slot = 0 then { i with ccA := f i.ccA } else { i with ccB := f i.ccB })
  else if slot = 0 then { i with ucA := f i.ucA } else { i with ucB := f i.ucB }

/-- One image slot. -/
def Images.slot (i : Images) (target slot : Nat) : Image :=
  if target = 0 then (if slot = 0 then i.ccA else i.ccB) else if slot = 0 then i.ucA else i.ucB

/-- One record written in full. -/
def State.confirmRec (s : State) : StoreRec → State
  | .point m r =>
    let r := { r with seq := s.nextPointSeq m }
    (s.onStore fun t => { t with points := upd t.points m fun d => d.put r }).onPoint m fun p => p.rebase r
  | .relay m l => s.onStore fun t => { t with relayRecs := upd t.relayRecs m fun d => d.put l }
  | .pqCount m c => s.onStore fun t => { t with pqRecs := upd t.pqRecs m fun d => d.put c }
  | .sequencer r => s.onStore fun t => { t with seqRec := t.seqRec.put { r with seq := nextSeq SeqRec.seq t.seqRec } }
  | .sealState r => s.onStore fun t => { t with sealRec := t.sealRec.put { r with seq := nextSeq SealState.seq t.sealRec } }
  | .evidence c o => s.onStore fun t => { t with evidRec := t.evidRec.put (c, o) }
  | .device r => s.onStore fun t => { t with deviceRec := t.deviceRec.put { r with seq := nextSeq DeviceRec.seq t.deviceRec } }
  | .marker r k => s.onStore fun t => { t with markers := logPut 256 r.run k (.valid r) t.markers }
  | .run r k => s.onStore fun t => { t with runs := logPut 256 r.run k (.valid r) t.runs }
  | .boundary r k => s.onStore fun t => { t with bcs := logPut 8192 r.seq k (.valid r) t.bcs }
  | .profile m q r =>
    s.onStore fun t => { t with profiles := upd t.profiles m fun l => pushRing s.ringLen q (.valid r) l }
  | .snapshot r => s.onStore fun t => { t with snaps := upd t.snaps r.mp fun l => pushRing 25 r.sseq (.valid r) l }
  | .event r => s.onStore fun t => { t with ring := pushRing 524288 r.seq (.valid r) t.ring, ringNext := (r.seq + 1) % 2 ^ 32 }
  | .signature m q bs =>
    s.onStore fun t =>
      let same := (t.sigs.filter fun e => e.1 == m && e.2.1 != q).take 1
      { t with sigs := (m, q, bs) :: same ++ t.sigs.filter fun e => e.1 != m }
  | .image g k off bs => s.onImages fun i => i.on g k fun x => x.write off bs
  | .host off bs => s.onStore fun t => { t with host := putBytes off bs t.host }
  | .handles l => s.onStore fun t => { t with handleList := l }

/-- The void mark of one record, or a record cut inside its job: the location that it is to take is invalid (R369, R373). An image slot
and the host-reserved region have no mark words. -/
def State.voidRec (s : State) : StoreRec → State
  | .point m _ => s.onStore fun t => { t with points := upd t.points m Dual.void }
  | .relay m _ => s.onStore fun t => { t with relayRecs := upd t.relayRecs m Dual.void }
  | .pqCount m _ => s.onStore fun t => { t with pqRecs := upd t.pqRecs m Dual.void }
  | .sequencer _ => s.onStore fun t => { t with seqRec := t.seqRec.void }
  | .sealState _ => s.onStore fun t => { t with sealRec := t.sealRec.void }
  | .evidence _ _ => s.onStore fun t => { t with evidRec := t.evidRec.void }
  | .device _ => s.onStore fun t => { t with deviceRec := t.deviceRec.void }
  | .marker r k => s.onStore fun t => { t with markers := logPut 256 r.run k .torn t.markers }
  | .run r k => s.onStore fun t => { t with runs := logPut 256 r.run k .torn t.runs }
  | .boundary r k => s.onStore fun t => { t with bcs := logPut 8192 r.seq k .torn t.bcs }
  | .profile m q _ => s.onStore fun t => { t with profiles := upd t.profiles m fun l => pushRing s.ringLen q .torn l }
  | .snapshot r => s.onStore fun t => { t with snaps := upd t.snaps r.mp fun l => pushRing 25 r.sseq .torn l }
  | .event r => s.onStore fun t => { t with ring := pushRing 524288 r.seq .torn t.ring, ringNext := (r.seq + 1) % 2 ^ 32 }
  | .signature m q _ => s.onStore fun t => { t with sigs := t.sigs.filter fun e => !(e.1 == m && e.2.1 % 2 == q % 2) }
  | .handles _ => s.onStore fun t => { t with handleList := [] }
  | .image _ _ _ _ | .host _ _ => s

/-- What the supply's failure leaves of one record in the data phase: an invalid location, or the words written so far (R373). -/
def State.cutData (s : State) (words : Nat) : StoreRec → State
  | .image g k off bs => s.onImages fun i => i.on g k fun x => x.write off (bs.take (8 * words))
  | .host off bs => s.onStore fun t => { t with host := putBytes off (bs.take (8 * words)) t.host }
  | r => s.voidRec r

/-- The records of a job after the supply failed in a phase of it (R373), in ascending order of their mark words: of the void phase
those reached, of the data phase all, of the mark phase those not reached are invalid. The word in flight holds its old value or the
one written, or an error, which leaves its record invalid too. -/
def State.cutJob (s : State) (j : StoreJob) (c : JobCut) : State :=
  match c.phase with
  | .void => if j.voided then j.recs.foldl State.voidRec s else (j.recs.take (if c.kept then c.words else c.words + 1)).foldl State.voidRec s
  | .data => j.recs.foldl (fun s r => s.cutData (if c.kept then c.words else c.words + 1) r) s
  | .mark =>
    let n := if c.kept then c.words + 1 else c.words
    (j.recs.drop n).foldl State.voidRec ((j.recs.take n).foldl State.confirmRec s)

/-- Every record of a job written, its pages counted. -/
def State.writeJob (s : State) (j : StoreJob) : State :=
  let n := s.jobPages j
  j.recs.foldl State.confirmRec (s.onStore fun t => { t with pages := (t.pages + n) % 2 ^ 32 })

/-! ## The energy check (R371) -/

/-- E_avail is at least E_res + 2 E_req, in units of 10^-12 J: E_res in uJ, E_req in nJ. -/
def energyOk (resUj reqNj cUf vholdMv : Nat) : Bool :=
  decide (2 * (resUj * 1000000 + 2 * reqNj * 1000) + cUf * 20250000 ≤ cUf * vholdMv * vholdMv)

/-- The writer may start a write of an energy outside ADJOURN at a VHOLD (R371). -/
def State.energyAllows (s : State) (reqNj vhold : Nat) : Bool :=
  if s.power.noRide then !s.power.pfail && decide (10000 ≤ vhold) else energyOk 12000 reqNj s.power.cInForce vhold

/-- The writer may start a page at a VHOLD (R371): 3.5 uJ. -/
def State.mayWrite (s : State) (vhold : Nat) : Bool := s.energyAllows 3500 vhold

/-- The writer may start a word of a void or mark phase at a VHOLD (R371): 0.15 uJ. -/
def State.mayWord (s : State) (vhold : Nat) : Bool := s.energyAllows 150 vhold

end Sys2Proof.Machine
end

