-- ==== Sys2Proof/Machine/Recorder.lean ====
section
/-! DEFINITION. The event recorder (R399 to R412): numbering, latches, notifications, the frozen log, and the commands that
read and freeze it. -/
namespace Sys2Proof.Machine

/-- The largest NOTIFY among the response words of the given alarm types (R406). -/
def State.notifyMax (s : State) (types : List Nat) : Nat :=
  types.foldl (fun m t => max m (bits (s.parN (0x520 + t)) 4 2)) 0

/-- The alarm types that R413 maps to an event bit. -/
def typesOfBit (b : Nat) : List Nat :=
  match b with
  | 48 => [0, 1, 2, 3, 4, 5, 6, 7]
  | 49 => [16]
  | 50 => [10, 11, 13, 14, 15]
  | 51 => [8]
  | 52 => [9, 18]
  | 62 => [12]
  | 31 => [17]
  | _ => []

/-! ## Records of a group (R399, R400, R403, R404) -/

/-- The 16-byte pieces of the fields that do not fit the head record. -/
def extPieces : Nat → List Byte → List (List Byte)
  | 0, _ => []
  | k + 1, bs => if bs.isEmpty then [] else padTo 16 (bs.take 16) :: extPieces k (bs.drop 16)

/-- The head record of a group (R400). -/
def State.headOf (s : State) (g : EvGroup) (seq : Nat) : EvHead :=
  { seq := seq
    time := match g.time with
      | some t => t
      | none => s.timeOf g.at_
    code := g.code, srcKind := g.srcKind, srcIdx := g.srcIdx
    ext := (extPieces 15 (g.fields.drop 4)).length
    flags := g.flags ||| (4 * b2n s.clock.timeUnset)
    data := fld g.fields 0 4 }

/-- A numbered list of extension records. -/
def extRecords (seq : Nat) : List (List Byte) → List EvRecord
  | [] => []
  | p :: r => { seq := seq % 2 ^ 32, ext := p } :: extRecords (seq + 1) r

/-- The records of a group with consecutive sequences (R399). -/
def State.groupRecords (s : State) (g : EvGroup) : List EvRecord :=
  let n := s.events.seq
  { seq := n, head := some (s.headOf g n) } :: extRecords (n + 1) (extPieces 15 (g.fields.drop 4))

/-! ## Latches and notifications (R149 to R152, R407) -/

/-- The capacity of a port's notification queue (R152). -/
def notifyDepth : Nat → Nat
  | 0 => 256
  | 1 => 128
  | _ => 32

/-- The entries that a priority leaves free (R407). -/
def notifyReserve (q prio : Nat) : Nat :=
  match prio with
  | 1 => q / 8
  | 2 => q / 16
  | _ => 0

/-- The latch bits of a group set on a port, with the sequence of its record (R149). -/
def Port.latchRecord (p : Port) (b : BitVec 64) (seq : Option Nat) : Port :=
  match seq with
  | none => p.setLatch b
  | some n =>
    { p.setLatch b with latchSeq := (List.range 64).map fun i => if b.getLsbD i then n else p.latchSeq.getD i 0 }

/-- The ports that a group concerns (R149, R150). -/
def EvGroup.ports (g : EvGroup) : List Nat :=
  match g.port with
  | some p => [p]
  | none => [0, 1, 2]

/-- A head record queued on one port, or counted as overflow (R152, R407). -/
def State.notifyPort (s : State) (g : EvGroup) (h : EvHead) (p : Nat) : State :=
  let q := s.port p
  if (q.mask &&& g.bits) = 0 ∨ g.prio = 0 then s
  else
    let d := notifyDepth p
    if d - q.notify.length ≤ notifyReserve d g.prio then
      if g.code = 11 then s
      else (s.onPort p fun q => { q with overflow := incSat 16 q.overflow }).raisePort p 11 []
    else s.onPort p fun q => { q with notify := q.notify ++ [h] }

/-- The latches of a group. -/
def State.latchGroup (s : State) (g : EvGroup) (seq : Option Nat) : State :=
  g.ports.foldl (fun s p => s.onPort p fun q => q.latchRecord g.bits seq) s

/-- The records in the staging queue (R409). -/
def Freeze.count (f : Freeze) : Nat := (f.staged.map fun g => g.recs.length).sum

/-- A group numbered, recorded, latched and notified, with the port whose reply its job releases. -/
def State.recordGroup (s : State) (g : EvGroup) (reply : Option Nat) : State :=
  let rs := s.groupRecords g
  let h := s.headOf g s.events.seq
  let n := s.events.seq
  let s := s.onEvents fun e => { e with seq := (n + rs.length) % 2 ^ 32 }
  let s := match s.events.freeze with
    | some f =>
      let g' : Staged := { recs := rs }
      let f' : Freeze := { f with staged := f.staged ++ [g'] }
      s.onEvents fun e => { e with freeze := some f' }
    | none => s.enqueue { recs := rs.map StoreRec.event, reply := reply }
  let s := s.latchGroup g (some n)
  g.ports.foldl (fun s p => s.notifyPort g h p) s

/-- A group as it leaves Q13 (R399, R408, R409). -/
def State.record (s : State) (g : EvGroup) (reply : Option Nat := none) : State :=
  match s.events.freeze with
  | none => s.recordGroup g reply
  | some f =>
    if f.count - b2n f.full + 1 + (extPieces 15 (g.fields.drop 4)).length ≤ 4095 then s.recordGroup g reply
    else
      let f' : Freeze := { f with lost := f.lost + 1, full := true }
      let s := (s.latchGroup g none).onEvents fun e => { e with freeze := some f' }
      if f.full then s
      else s.recordGroup { code := 55, at_ := s.now, fields := le 4 f.seq, bits := BitVec.ofNat 64 (2 ^ 55), prio := 1 } none

/-- The end of a freeze (R409): the staged groups go to the region with FLAGS[4], then LOG_RELEASED. -/
def State.releaseLog (s : State) (cause : Nat) (reply : Option Nat) : State :=
  match s.events.freeze with
  | none => s
  | some f =>
    let mark : EvRecord → EvRecord := fun r => { r with head := r.head.map fun h => { h with flags := h.flags ||| 16 } }
    let s := f.staged.foldl (fun s g => s.q12 (g.recs.map fun r => .event (mark r))) s
    (s.onEvents fun e => { e with freeze := none }).record
      { code := 0x44, at_ := s.now, flags := 8, bits := 0, prio := 0
        fields := le 4 f.seq ++ le 4 f.count ++ le 4 f.lost ++ le 4 cause } reply

/-! ## The consumer of Q13 (R22 to R28) -/

/-- The unit that raises an event, as the arbiter of Q13 tells its producers apart: by the kind of its SOURCE. The spec does not
number the producers: DESIGN CHOICE, log entry 161. -/
def EvGroup.unit (g : EvGroup) : Nat := g.srcKind

/-- Q13 without the event at its head, and with those that the returned credits let in. -/
def State.eventTaken (s : State) : State :=
  let y := refill EvGroup.words EvGroup.unit (s.creditsMax 13) (s.queue 13).turn s.events.q13
  (s.onEvents fun e => { e with q13 := y.1 }).onQueue 13 fun x => { x with turn := y.2 }

/-- EVENT_GROUP (R399): the recorder takes one event from Q13. A group with a poisoned word is not used as good data (R24):
it is discarded and counted (log entry 27). -/
def execEventGroup (upset : Bool) (s : State) : Host.Outcome State Fault Refusal :=
  .next (match takeable EvGroup.words (s.creditsMax 13) s.events.q13 with
    | none => s
    | some g =>
      let s := s.eventTaken
      if g.poison || upset then s.poisoned 13 else s.record g)

/-- LOG_FREEZE_TIMEOUT (R409): 76 800 000 slots after the freeze began. -/
def execLogFreezeTimeout (s : State) : Host.Outcome State Fault Refusal :=
  .next (match s.events.freeze with
    | none => s
    | some f => if f.start + 76800000 ≤ s.now then s.releaseLog 1 none else s)

/-! ## Commands (R410 to R412) -/

/-- The head of the extension record at a sequence: the nearest head record before it, at a distance of at most k (R404). -/
def headBefore (l : List (Nat × Slot EvRecord)) (q : Nat) : Nat → Option EvHead
  | 0 => none
  | k + 1 =>
    match headBefore l q k with
    | some h => some h
    | none => (ringAt l ((q + 2 ^ 32 - (k + 1)) % 2 ^ 32)).bind fun r => r.head

/-- Whether the record at a sequence is valid where it is an extension record: its head is valid and counts it in EXT (R404). -/
def countedExt (l : List (Nat × Slot EvRecord)) (q : Nat) (r : EvRecord) : Bool :=
  r.head.isSome || match headBefore l q 15 with
    | some h => decide ((q + 2 ^ 32 - h.seq) % 2 ^ 32 ≤ h.ext)
    | none => false

/-- The bytes that READ_EVENTS returns for a sequence: an invalid slot gives zeros. -/
def State.eventBytes (s : State) (q : Nat) : List Byte :=
  match ringAt s.store.ring q with
  | some r => if countedExt s.store.ring q r then r.bytes else zeros 32
  | none => zeros 32

/-- Invalid records found by a read on behalf of a command, or by a start scan, count in TORN (R375, R393). -/
def State.countTorn (s : State) (n : Nat) : State := s.onStore fun t => { t with torn := min (2 ^ 32 - 1) (t.torn + n) }

/-- READ_EVENTS (R410). -/
def cmdReadEvents (s : State) (r : Request) : Except Deny State := do
  len r 8
  reserved r 5 3
  need (decide (byteAt r 4 ≤ 126)) .badParameter
  needPriv s r 0x0503
  modeResp s true
  let next := match s.events.freeze with
    | some f => f.seq
    | none => s.store.ringNext
  let oldest := next - 524288
  let from_ := fieldAt r 0 4
  let first := if serialLe 32 oldest from_ then from_ else oldest
  let ahead := if serialLe 32 first next then (next + 2 ^ 32 - first) % 2 ^ 32 else 0
  let n := min (byteAt r 4) ahead
  let s := s.countTorn (ringTorn s.store.ring first n)
  .ok (s.replyOk r (le 4 oldest ++ le 4 next ++ le 4 first ++ le 2 n ++ le 1 (b2n s.events.freeze.isSome) ++ zeros 1
    ++ ((List.range n).map fun i => s.eventBytes ((first + i) % 2 ^ 32)).flatten))

/-- FREEZE_LOG (R411). -/
def cmdFreezeLog (s : State) (r : Request) : Except Deny State := do
  len r 0
  needPriv s r 0x0504
  modeResp s false
  need s.events.freeze.isNone .logFrozen
  let s := s.onEvents fun e => { e with freeze := some { seq := e.seq, start := s.now } }
  .ok (s.replyOk r (le 4 s.events.seq ++ sample8 (s.now + 76800000)))

/-- UNFREEZE_LOG (R412). -/
def cmdUnfreezeLog (s : State) (r : Request) : Except Deny State := do
  len r 0
  needPriv s r 0x0505
  modeResp s false
  match s.events.freeze with
  | none => .ok (s.replyOk r (le 1 1 ++ zeros 11))
  | some f =>
    .ok ((s.replyOk r (le 1 0 ++ zeros 3 ++ le 4 f.count ++ le 4 f.lost) .store).releaseLog 0 (some r.port))

end Sys2Proof.Machine
end

