-- ==== Sys2Proof/Machine/Coalesce.lean ====
section
/-! DEFINITION. Coalescing of reports (R293 to R296) and the triggers of waveform capture (R290, R291). -/
namespace Sys2Proof.Machine

/-! ## Capture triggers -/

/-- The channels in the capture list. -/
def Capture.chans (c : Capture) : List Nat := c.tracks.map fun t => t.ch

/-- A trigger of R290 reaches the capture: `at_` is its slot, `cause` its bit, `source` the channel or alarm type, and `ch`
the channel it must concern unless ANY is set. -/
def State.captureTrigger (s : State) (at_ cause source : Nat) (ch : Option Nat) : State :=
  let c := s.pq.capture
  let mine := match ch with
    | some x => c.any || c.chans.contains x
    | none => true
  if !s.hasCapt || !(bit c.triggers cause) || !mine then s
  else match c.state with
    | .armed =>
      let t := nextMul at_ 256
      s.onPq fun p => { p with capture := { c with
        state := .post, cause := cause, source := source, trig := t, trigTime := s.timeOf t
        flags := c.flags ||| (2 * b2n (decide (t < c.from_ + 128000))) } }
    | .post | .held | .suspended => s.onPq fun p => { p with capture := { c with ignored := incSat 16 c.ignored } }
    | .idle => s

/-! ## Coalescing windows -/

/-- Nominal frequency in Hz (R301). -/
def State.nominalHz (s : State) : Nat := if bit (s.parN 0x200) 0 then 60 else 50

/-- The length of a coalescing window in slots (R294). -/
def State.coalesceLen (s : State) : Nat := bits (s.parN 0x200) 8 5 * 128000 / s.nominalHz

/-- PQ_COALESCE_MIN (R301). -/
def State.coalesceMin (s : State) : Nat := bits (s.parN 0x200) 13 3 + 1

/-- The voltage source of a channel (R301). -/
def State.vsrc (s : State) (c : Nat) : Nat := bits (s.parN (0x240 + c / 8)) (4 * (c % 8)) 4

/-- Whether a value is worse than another for a class of reports, by its CODE (R295). -/
def worse (code : Nat) (a b : Int) : Bool :=
  match code with
  | 24 | 26 => decide (a < b)
  | 27 => decide (b.natAbs < a.natAbs)
  | _ => decide (b < a)

/-- A report joined to a window. -/
def CoalWin.join (w : CoalWin) (g : EvGroup) (points chans : List Nat) (value : Int) (ch : Nat) : CoalWin :=
  let take := ch != 0xFFFF && (w.worstCh == 0xFFFF || worse w.class_ value w.worst)
  { w with reports := w.reports ++ [g], points := union w.points points, chans := union w.chans chans
           worst := if take then value else w.worst, worstCh := if take then ch else w.worstCh }

/-- A report of a class and domain (R293, R294): it joins the open window whose span holds its slot, or opens one; when 32
are open it is recorded by itself and counted. -/
def State.report (s : State) (g : EvGroup) (domKind domIdx : Nat) (points chans : List Nat) (value : Int) (ch : Nat) :
    State :=
  let fin := bit g.flags 5
  let fits := fun (w : CoalWin) => w.class_ == g.code && w.end_ == fin && w.domKind == domKind && w.domIdx == domIdx
    && decide (w.first ≤ g.at_) && decide (g.at_ < w.close)
  if s.pq.windows.any fits then
    s.onPq fun p => { p with windows := p.windows.map fun w => if fits w then w.join g points chans value ch else w }
  else if 32 ≤ s.pq.windows.length then (s.send g).onPq fun p => { p with overflow := incSat 16 p.overflow }
  else
    let w : CoalWin := { class_ := g.code, end_ := fin, domKind := domKind, domIdx := domIdx, first := g.at_
                         close := g.at_ + s.coalesceLen }
    s.onPq fun p => { p with windows := p.windows ++ [w.join g points chans value ch] }

/-- The fields of a root event (R405). -/
def CoalWin.rootFields (w : CoalWin) (prio overflow : Nat) : List Byte :=
  le 4 w.reports.length
    ++ (le 2 w.class_ ++ le 1 (b2n w.end_) ++ le 1 prio ++ sample7 w.first ++ zeros 1 ++ le 4 w.reports.length)
    ++ (le 2 w.points.length ++ le 2 overflow ++ leI 4 w.worst ++ le 2 w.worstCh ++ zeros 6)
    ++ le 32 (maskOf w.points) ++ le 64 (maskOf w.chans)

/-- A window closed (R294): the reports one by one, or one root event. -/
def State.closeWindow (s : State) (w : CoalWin) : State :=
  if w.reports.length < s.coalesceMin then w.reports.foldl State.send s
  else
    let prio := w.reports.foldl (fun m g => max m g.prio) 0
    (s.send { code := 29, srcKind := w.domKind, srcIdx := w.domIdx, at_ := s.now, flags := 1
              fields := w.rootFields prio s.pq.overflow, bits := BitVec.ofNat 64 (2 ^ 29), prio := prio }).onPq
      fun p => { p with overflow := 0 }

/-- Every window for which a test holds closed, in the order in which they opened. -/
def State.closeWindows (s : State) (f : CoalWin → Bool) : State :=
  let due := s.pq.windows.filter f
  due.foldl State.closeWindow (s.onPq fun p => { p with windows := p.windows.filter fun w => !f w })

/-- COALESCE_WINDOW_CLOSE (R294): every window that ended at least 512 slots ago. -/
def execCoalesceWindowClose (s : State) : Host.Outcome State Fault Refusal :=
  .next (s.closeWindows fun w => decide (w.close + 512 ≤ s.now))

/-- A group for an event of one channel or point that may coalesce. -/
def State.group (_s : State) (t code kind idx : Nat) (fields : List Byte) (fin : Bool := false) : EvGroup :=
  { code := code, srcKind := kind, srcIdx := idx, at_ := t, flags := 32 * b2n fin, fields := fields
    bits := BitVec.ofNat 64 (2 ^ code), prio := prioOf code }

/-- EV_ESTIMATE_ACTIVE of a point (R239, R293): its domain is the island for causes [0] and [1], and the device for the
others. -/
def State.estimateActive (s : State) (m cause : Nat) (isl : Nat) (chans : List Nat) : State :=
  let g := s.group s.now 23 2 m []
  if cause ≤ 1 then s.report g 3 isl [m] chans 0 0xFFFF else s.report g 0 0 [m] [] 0 0xFFFF

/-- An estimate cause set on a bound point (R239): the cycle open at that time carries ESTIMATED (R232). EV_ESTIMATE_ACTIVE follows when the cause set was empty. -/
def State.setCause (s : State) (m cause : Nat) (isl : Nat := 0) (chans : List Nat := []) : State :=
  let p := s.point m
  if p.bind.isNone || bit p.causes cause then s.onPoint m fun p => { p with estEnd := p.estEnd &&& (31 - 2 ^ cause) }
  else
    let mark := fun (x : PendSlot) => if x.close.isNone then { x with est := true } else x
    let s := s.onPoint m fun p => { p with
      causes := p.causes ||| 2 ^ cause, estEnd := p.estEnd &&& (31 - 2 ^ cause), slots := p.slots.map mark }
    if p.causes = 0 then s.estimateActive m cause isl chans else s

/-- A cause that ends at the point's next cycle boundary (R239). -/
def State.endCause (s : State) (m cause : Nat) : State :=
  let p := s.point m
  if bit p.causes cause && !bit p.estEnd cause then
    s.onPoint m fun p => { p with estEnd := p.estEnd ||| 2 ^ cause, estEndAt := s.now }
  else s

/-- A cause that ends at once (R239: reference restoration). -/
def State.dropCause (s : State) (m cause : Nat) : State :=
  s.onPoint m fun p => { p with causes := p.causes &&& (31 - 2 ^ cause), estEnd := p.estEnd &&& (31 - 2 ^ cause) }

end Sys2Proof.Machine
end

