-- ==== Sys2Proof/Machine/Relay.lean ====
section
/-! DEFINITION. Alarm scopes, the relay causes and reconnect state of a point (R344 to R347), credit and emergency credit
(R339 to R343), and the relay chain (R361 to R364). -/
namespace Sys2Proof.Machine

/-! ## Scope and combined words (R413, R415, R417) -/

/-- RELAY, METERING and NOTIFY of a response word. -/
def wordRelay (w : Nat) : Nat := w % 4
/-- METERING of a response word. -/
def wordMetering (w : Nat) : Nat := bits w 2 2
/-- NOTIFY of a response word. -/
def wordNotify (w : Nat) : Nat := bits w 4 2

/-- Two response words combined (R417): RELAY and NOTIFY are maxima, every other field the OR. -/
def combineWord (a b : Nat) : Nat :=
  max (wordRelay a) (wordRelay b) + 4 * (wordMetering a ||| wordMetering b) + 16 * max (wordNotify a) (wordNotify b)
    + 64 * ((a / 64) ||| (b / 64))

/-- Whether point m is a bound billing point. -/
def State.isBilling (s : State) (m : Nat) : Bool :=
  match (s.point m).bind with
  | some b => !b.isRef
  | none => false

/-- Whether an alarm's relay and metering fields apply to point m (R413). -/
def State.inScope (s : State) (a : Alarm) (m : Nat) : Bool :=
  if a.type ≤ 12 then s.isBilling m
  else if a.type = 17 then ((s.groups.getD a.target {}).set.members).getLsbD m && (s.point m).bind.isSome
  else a.target == m

/-- The combined word of the alarms active for point m (R417). -/
def State.combinedFor (s : State) (m : Nat) : Nat :=
  (s.tamper.alarms.filter fun a => decide (a.from_ ≤ s.now) && s.inScope a m).foldl (fun w a => combineWord w a.word) 0

/-! ## Credit (R339 to R343) -/

/-- Credit is exhausted (R343). -/
def Ledger.exhausted (l : Ledger) : Bool := decide (l.credit ≤ 0) && l.ec != .inUse

/-- The thresholds LOW1 to LOW3. -/
def Ledger.lows (l : Ledger) : List Nat := [l.low1, l.low2, l.low3]

/-- The enabled thresholds below which a credit lies, as bits. -/
def Ledger.lowBits (l : Ledger) (c : Int) : Nat :=
  maskOf ((List.range 3).filter fun i => decide (0 < l.lows.getD i 0) && decide (c < (l.lows.getD i 0 : Int)))

/-- C saturates at 64 bits (R339). -/
def satCredit (c : Int) : Int := satI 64 c

/-- One pass of the emergency-credit table (R343) on the credit: the new ledger and whether IN_USE or SPENT was entered. -/
def Ledger.ecStep (l : Ledger) : Ledger × Bool :=
  match l.ec with
  | .idle =>
    if l.credit ≤ 0 ∧ l.policy.getLsbD 3 = true ∧ 0 < l.ecLimit then ({ l with ec := .inUse, ecL := l.ecLimit }, true)
    else (l, false)
  | .inUse =>
    if 0 < l.credit then ({ l with ec := .idle, ecL := 0 }, false)
    else if l.credit ≤ -(l.ecL : Int) then ({ l with ec := .spent }, true)
    else (l, false)
  | .spent => if 0 < l.credit then ({ l with ec := .idle, ecL := 0 }, false) else (l, false)

/-- EV_EMERGENCY_CREDIT when its flag is set. -/
def State.ecEvent (s : State) (m : Nat) (b : Bool) : State := if b then s.raise 45 2 m [] else s

/-- The emergency-credit table run until nothing changes: at most IDLE to IN_USE to SPENT. -/
def State.ecRun (s : State) (m : Nat) : State :=
  let a := (s.point m).ledger.ecStep
  let b := a.1.ecStep
  ((s.onLedger m fun _ => b.1).ecEvent m a.2).ecEvent m b.2

/-- A change of C (R339, R342, R343) with its events. `delta` tells whether it passes through CREDIT_DELTA. -/
def State.setCredit (s : State) (m : Nat) (c : Int) (delta : Bool) : State :=
  let l := (s.point m).ledger
  let c := satCredit c
  let s := s.onLedger m fun l => { l with
    credit := c, delta := if delta then l.delta + (c - l.credit) else l.delta }
  let s := (List.range 3).foldl (fun s i =>
    let t := l.lows.getD i 0
    if 0 < t ∧ (t : Int) ≤ l.credit ∧ c < (t : Int) then
      s.raise 43 2 m (le 1 m ++ le 4 (i + 1) ++ leI 8 c) else s) s
  let s := if 0 < l.credit ∧ c ≤ 0 then s.raise 44 2 m [] else s
  s.ecRun m

/-- The price of a rate at a sample in a plan's calendar (R312, R340): segments before an activation use the former one. -/
def State.priceAt (s : State) (plan rate sFirst : Nat) : Nat :=
  let p := s.plan plan
  let c := match p.old with
    | some o => if sFirst < o.1 then o.2 else p.active
    | none => p.active
  match c with
  | some c => c.prices.getD (rate - 1) 0
  | none => 0

/-- Whether an alarm response holds freeze credit for a point at a slot (R416). -/
def Point.frozenAt (p : Point) (t : Nat) : Bool :=
  p.freeze.any fun f => decide (f.1 ≤ t) && match f.2 with
    | some e => decide (t < e)
    | none => true

/-- The deduction of a segment (R340): q quanta of register 0 at a price. -/
def State.deduct (s : State) (m q price : Nat) : State :=
  let l := (s.point m).ledger
  if l.policy.getLsbD 0 then s.setCredit m (l.credit - q) true
  else
    let r := l.deductRem + q * price
    (s.onLedger m fun l => { l with deductRem := r % 1000000000 }).setCredit m
      (l.credit - (r / 1000000000 : Nat)) true

/-- The ledger of a billing point, or the relay record of any other, handed to the store writer (R357). -/
def State.writeLedger (s : State) (m : Nat) : State := if s.isBilling m then s.writePoint m 3 else s.writeRelayRec m

/-! ## Causes and directives (R344 to R347) -/

/-- The active causes of a point before suppression (R344). -/
def State.relayCauses (s : State) (m : Nat) : Nat :=
  let p := s.point m
  let l := p.ledger
  b2n (s.isBilling m && s.billing && l.exhausted && !p.friendly)
    + 2 * b2n (decide (s.now < l.limEnd))
    + 4 * b2n (s.tamper.alarms.any fun a => wordRelay a.word == 1 && decide (a.from_ ≤ s.now) && s.inScope a m)
    + 8 * b2n l.openLocked
    + 16 * b2n (l.override == .forceOpen)
    + 32 * b2n (decide (s.now < l.testEnd))

/-- The causes that PROTECTED and FORCE_CLOSE leave (R344). -/
def Ledger.acting (l : Ledger) (causes : Nat) : Nat :=
  let c := if l.policy.getLsbD 2 then causes &&& 0x38 else causes
  if l.override = .forceClose then c &&& 0x18 else c

/-- The reconnect table of R346: causes acting now, the raw causes that ended, and whether RELAY_COMMAND ended one. -/
def Ledger.reconnect (l : Ledger) (acting ended : Nat) (byCommand : Bool) : Ledger :=
  let free := byCommand || ended == 32
  match l.recon with
  | .closed => if acting = 0 then { l with open_ := false } else { l with recon := .opened, open_ := true }
  | .opened =>
    if acting ≠ 0 then l
    else if l.policy.getLsbD 1 = false ∨ free = true then
      { l with recon := .closed, open_ := false }
    else { l with recon := .awaitArm }
  | .awaitArm => if acting = 0 then l else { l with recon := .opened }

/-- Whether a changed directive is held (R73, R77, R96): any in lean metering and outside the metering modes, and an OPEN
caused by [0], [2] and [3] alone in CALIBRATE. -/
def State.directiveHeld (s : State) (open_ : Bool) (acting : Nat) : Bool :=
  s.power.lean || !s.storeOn
    || (s.mode.mode == .calibrate && open_ && (acting &&& 0x32) == 0)

/-- The directive of relay m sent into Q15, or held (R347). -/
def State.sendDirective (s : State) (m : Nat) (open_ : Bool) (acting : Nat) : State :=
  if s.directiveHeld open_ acting then s.onRelays fun r => { r with held := union r.held [m] }
  else s.onRelays fun r => { r with held := r.held.filter fun k => k != m, q15 := r.q15 ++ [(m, open_)] }

/-- R344 and R346 evaluated for one point, and a changed or released directive sent (R347). `byCommand` tells that a
RELAY_COMMAND for the point has acted since the last evaluation. -/
def State.evalRelay (s : State) (m : Nat) (byCommand : Bool := false) : State :=
  let l := (s.point m).ledger
  let raw := s.relayCauses m
  let l' := l.reconnect (l.acting raw) (l.causes &&& (63 - raw)) byCommand
  let s := s.onLedger m fun _ => { l' with causes := raw }
  if l'.open_ ≠ l.open_ then s.sendDirective m l'.open_ (l'.acting raw)
  else if s.relays.held.contains m && !s.directiveHeld l'.open_ (l'.acting raw) then
    s.sendDirective m l'.open_ (l'.acting raw)
  else s

/-- Every relay evaluated, with those on which a command has acted. -/
def State.evalRelays (s : State) (cmd : List Nat) : State :=
  (List.range s.nMp).foldl (fun s m => s.evalRelay m (cmd.contains m)) s

/-- The directives of a point whose relay the chain reaches. -/
def State.hasRelay (s : State) (m : Nat) : Bool := decide (m / 8 < s.parN 0x400 % 64)

/-- The RELAY byte of R356. -/
def State.relayByte (s : State) (m : Nat) : Nat :=
  let l := (s.point m).ledger
  let b := s.relays.boards.getD (m / 8) {}
  b2n l.open_ + 2 * b2n (s.hasRelay m && !bit b.pos (m % 8))
    + 4 * (match l.recon with
      | .closed => 0
      | .opened => 1
      | .awaitArm => 2)
    + 16 * b2n (!s.hasRelay m) + 32 * b2n (s.relays.held.contains m)

/-! ## The relay chain (R361 to R364) -/

/-- One byte into CRC-8 with polynomial 0x07 (R362). -/
def crc8Byte (c b : Nat) : Nat :=
  (List.range 8).foldl (fun c _ => if bit c 7 then ((c * 2) % 256) ^^^ 7 else (c * 2) % 256) (c ^^^ b)

/-- CRC-8 of two bytes (R362). -/
def crc8 (a b : Nat) : Nat := crc8Byte (crc8Byte 0 a) b

/-- The directive frame of a board (R362). -/
def relayFrame (b dir : Nat) : Nat := dir * 256 + crc8 b dir

/-- Frames as bits on the wire, most significant first (R361). -/
def wireBits (fs : List Nat) : List Bool := (fs.map fun f => (List.range 16).map fun i => f.testBit (15 - i)).flatten

/-- The bits of RLY_DO in the last refresh: the frame of the last board goes first (R361). -/
def Relays.doBits (r : Relays) : List Bool := wireBits r.frames.reverse

/-- The j-th frame sampled on RLY_DI; the last board's comes first, as it stands at the end of the chain (R361). -/
def wireFrame (bits : List Bool) (j : Nat) : Nat := ((List.range 16).map fun i => 2 ^ (15 - i) * b2n (bits.getD (16 * j + i) false)).sum

/-- Directives taken from Q15: bit k of board b set closes relay 8b + k. -/
def takeDirectives (dirs : List Nat) : List (Nat × Bool) → List Nat
  | [] => dirs
  | (m, o) :: r =>
    takeDirectives (upd dirs (m / 8) fun d => if o then d &&& (255 - 2 ^ (m % 8)) else d ||| 2 ^ (m % 8)) r

/-- What one board's readback changes (R364): it is compared with the directives latched two refreshes before. -/
def Board.compare (b : Board) (idx frame : Nat) (lean : Bool) : Board × List (Nat × Bool × Bool) × Bool :=
  let pos := frame / 256 % 256
  let good := frame % 256 == crc8 (0x80 + idx) pos
  if !good then
    ({ b with bad := min 3 (b.bad + 1) }, [], b.bad == 2)
  else
    let b := { b with bad := 0, pos := pos }
    if lean || decide (b.depth < 2) then (b, [], false)
    else
      let counts := (List.range 8).map fun k => if bit pos k = bit b.latched1 k then 0 else min 3 (b.mism.getD k 0 + 1)
      let hits := (List.range 8).filter fun k => counts.getD k 0 == 3 && b.mism.getD k 0 == 2
      ({ b with mism := counts }, hits.map fun k => (8 * idx + k, !bit b.latched1 k, !bit pos k), false)

/-- RELAY_REFRESH (R363): frames out, readback in, latch, compare. Refreshes start at round boundaries that are multiples of
50 rounds. A changed RLY_CONFIG takes effect here and restarts the counts (R365). -/
def execRelayRefresh (di : List Bool) (s : State) : Host.Outcome State Fault Refusal :=
  .next (
    let n := s.parN 0x400 % 64
    if s.now % 12800 ≠ 0 ∨ s.storeOn = false then s
    else if n = 0 then s.onRelays fun r => { r with dirs := takeDirectives r.dirs r.q15, q15 := [], config := s.parN 0x400 }
    else
      let fresh := s.relays.config != s.parN 0x400
      let boards := if fresh then s.relays.boards.map fun b => { b with bad := 0, mism := List.replicate 8 0, depth := 0 }
        else s.relays.boards
      let dirs := takeDirectives s.relays.dirs s.relays.q15
      let frames := (List.range n).map fun b => relayFrame b (dirs.getD b 0)
      let rb := (List.range n).map fun b => wireFrame di (n - 1 - b)
      let cmp := (List.range n).map fun b => (boards.getD b {}).compare b (rb.getD b 0) s.power.lean
      let boards := (List.range boards.length).map fun i =>
        let b := boards.getD i {}
        if i < n then
          let c := ((cmp.getD i (b, [], false)).1)
          { c with latched1 := b.latched, latched := dirs.getD i 0, depth := min 2 (b.depth + 1) }
        else b
      let s := s.onRelays fun r => { r with
        dirs := dirs, q15 := [], boards := boards, frames := frames, readback := rb, config := s.parN 0x400
        refreshes := r.refreshes + 1 }
      let s := (List.range n).foldl (fun s b => if (cmp.getD b ({}, [], false)).2.2 then s.raise 14 0 0 (le 1 b) else s) s
      let s := ((cmp.map fun c => c.2.1).flatten).foldl (fun s h =>
        s.raise 47 9 h.1 (le 4 h.1 ++ le 4 (b2n h.2.1) ++ le 4 (b2n h.2.2))) s
      let old := (List.range n).map fun b => (boards.getD b {}).latched1
      let changed := ((List.range n).map fun b =>
        (List.range 8).filterMap fun k => if bit (old.getD b 0) k = bit (dirs.getD b 0) k then none else some (8 * b + k)).flatten
      if changed.isEmpty then s else s.raise 46 0 0 (le 32 (maskOf changed)))

end Sys2Proof.Machine
end

