-- ==== Sys2Proof/Machine/Alarms.lean ====
section
/-! DEFINITION. Alarms (R413 to R421), evidence counters (R435 to R439), the backup alarm buffer (R440 to R444), the wired
inputs and the sensors on the die (R422 to R427), and the thermal watch (R434). -/
namespace Sys2Proof.Machine

/-! ## The cell alone (R421, R440) -/

/-- From step 0 of an adjournment until step 5 of resumption the combiner does not act (R421). -/
def State.onCell (s : State) : Bool :=
  match s.mode.mode with
  | .adjourn | .watch | .dormant => true
  | .boot => decide (s.mode.bootStep < 5)
  | _ => false

/-- Whether only the always-on domain runs: in WATCH and DORMANT, and after an adjournment until the next start (R80). -/
def State.asleep (s : State) : Bool :=
  match s.mode.mode with
  | .watch | .dormant => true
  | .boot => s.mode.bootStep == 0
  | _ => false

/-- The slot that stands for now where time differences are taken: while the device is off it follows the 32.768 kHz period
count. -/
def State.slotNow (s : State) : Nat :=
  if s.asleep then s.mode.sStop + (s.clock.periods - s.clock.periodsAt) * 125 / 32 else s.now

/-- The device time of a raise: while the device is off that of the RTC. -/
def State.timeNow (s : State) : Int := if s.asleep then s.clock.rtc else s.time

/-- The from_ of an alarm raised on the cell: its response waits for the first counted sample (R421). -/
def cellMark : Nat := 2 ^ 56

/-! ## Evidence counters -/

/-- The evidence counter of an alarm type (R413, R435). -/
def evidenceOf (type : Nat) : Option Nat :=
  match type with
  | 0 | 1 | 2 | 3 => some 2
  | 4 | 5 | 6 | 7 => some 3
  | 8 => some 4
  | 16 => some 5
  | 13 | 14 | 15 => some 6
  | 10 | 11 => some 7
  | _ => none

/-- The pair that the next increment uses: above the highest pair with a programmed bit (R436). -/
def nextPair : List OtpPair → Nat
  | [] => 0
  | p :: r =>
    match nextPair r with
    | 0 => if p.a || p.b then 1 else 0
    | n + 1 => n + 2

/-- A pair of a counter programmed. -/
def programPair (l : List OtpPair) (p : Nat) : List OtpPair :=
  (l ++ List.replicate (p + 1 - l.length) ({} : OtpPair)).modify p fun x => { x with a := true, b := true }

/-- EV_EVIDENCE_COUNT with the counter, its count and a flag set (R438). -/
def State.evidenceEvent (s : State) (c flags : Nat) : State :=
  s.raise 54 0 0 (le 4 c ++ le 4 (s.evidCount c) ++ le 1 flags)

/-- The programming of one increment (R436). True when the counter is full, so that nothing is programmed. -/
def State.programEvidence (s : State) (c : Nat) : State × Bool :=
  let p := nextPair (s.otp.evidence.getD c [])
  if 512 ≤ p then
    (s.onTamper fun t => { t with overflow := upd t.overflow c (incSat 32) }, true)
  else (s.onOtp fun o => { o with evidence := upd o.evidence c fun l => programPair l p }, false)

/-- An increment while the store and the recorder are in service (R436, R438). -/
def State.evidenceIncrement (s : State) (c : Nat) : State :=
  let (s, full) := s.programEvidence c
  s.writeEvidence.evidenceEvent c (b2n full)

/-- Whether the 24 h rule of R416 lets a raise of a type count. -/
def State.evidenceDue (s : State) (type : Nat) : Bool :=
  match s.tamper.evidAt.getD type none with
  | none => true
  | some t => decide (t + 11059200000 ≤ s.slotNow)

/-! ## Raising -/

/-- The event-word bit of an alarm type (R413). -/
def alarmBit (type : Nat) : Nat :=
  match type with
  | 8 => 51
  | 9 | 18 => 52
  | 10 | 11 | 13 | 14 | 15 => 50
  | 12 => 62
  | 16 => 49
  | 17 => 31
  | _ => 48

/-- The evidence part of a raise on the cell (R440, R444): the outcome code of R441 and the state. -/
def State.cellEvidence (s : State) (type : Nat) : State × Nat :=
  match evidenceOf type with
  | none => (s, 3)
  | some c =>
    if !bit (s.parN (0x520 + type)) 6 then (s, 3)
    else if !s.evidenceDue type then (s, 2)
    else
      let dormant := s.mode.mode == .dormant
      let program := (dormant || s.mode.mode == .watch) && decide (3000 ≤ s.power.vbatMv)
      let s := if program || !dormant then
          s.onTamper fun t => { t with evidAt := upd t.evidAt type fun _ => some s.slotNow } else s
      if program then ((s.programEvidence c).1, 0)
      else if dormant then (s, 1)
      else (s.onTamper fun t => { t with pendInc := upd t.pendInc c (incSat 8) }, 1)

/-- The buffer entry of the k-th raise (R441). -/
def bufferSlot (k : Nat) : Nat := if k < 48 then k else 48 + (k - 48) % 16

/-- A raise on the cell (R440, R441, R444). -/
def State.raiseOnCell (s : State) (type target data : Nat) : State :=
  let w := s.parN (0x520 + type)
  let (s, evid) := s.cellEvidence type
  let s := s.onTamper fun t => { t with
    alarms := t.alarms ++ [{ type := type, target := target, word := w, raised := s.slotNow, from_ := cellMark }]
    recCount := upd t.recCount type (incSat 32)
    wakePulses := t.wakePulses + b2n (bit (s.parN 0x600) 12) }
  if s.mode.mode = .dormant then s.onTamper fun t => { t with dormantMask := t.dormantMask ||| BitVec.ofNat 32 (2 ^ type) }
  else
    let e : BufEntry := { type := type, evid := evid, time := s.timeNow, periods := s.clock.periods, data := data }
    s.onTamper fun t => { t with
      buffer := (t.buffer ++ List.replicate (64 - t.buffer.length) ({} : BufEntry)).modify (bufferSlot t.total) fun _ => e
      total := incSat 32 t.total
      pendMask := t.pendMask ||| BitVec.ofNat 32 (2 ^ type)
      pendWord := combineWord t.pendWord w }

/-- A raise (R414): nothing when the type is already active for the target. `data` is what a buffer entry carries, `extra`
what the owning chapter adds to the record. -/
def State.raiseAlarm (s : State) (type target : Nat) (data : Nat := 0) (extra : List Byte := []) : State :=
  if s.alarmOn type target then s
  else if s.onCell then s.raiseOnCell type target data
  else
    s.onTamper fun t => { t with
      alarms := t.alarms ++ [{ type := type, target := target, word := s.parN (0x520 + type), raised := s.now
                               from_ := s.nextRound, extra := extra }]
      recCount := upd t.recCount type (incSat 32) }

/-! ## Clearing (R414) -/

/-- The kind of SOURCE of an alarm type (R401, R413). -/
def alarmKind (type : Nat) : Nat := if type ≤ 12 then 0 else if type = 17 then 8 else 2

/-- A clear: ALARM_CLEAR with the type, the target and the duration in slots; on the cell the record waits for the start,
except in DORMANT, which keeps none (log entry 28). -/
def State.clearAlarm (s : State) (type target : Nat) (dur : Option Nat := none) : State :=
  match s.tamper.alarms.find? fun a => a.type == type && a.target == target with
  | none => s
  | some a =>
    let d := match dur with
      | some d => d
      | none => s.slotNow - a.raised
    let g : EvGroup := { code := 0x45, srcKind := alarmKind type, srcIdx := target, at_ := s.now, flags := 8, bits := 0
                         prio := 0, fields := le 1 type ++ le 1 target ++ le 4 d }
    let s := s.onTamper fun t => { t with
      alarms := t.alarms.filter fun x => !(x.type == type && x.target == target)
      locks := if bit a.word 7 then t.locks ++ [s.slotNow + 460800000] else t.locks }
    let s := (List.range s.nMp).foldl (fun s m =>
      if s.inScope a m && bit a.word 2 && !bit (s.combinedFor m) 2 then s.endCause m 4 else s) s
    if s.mode.mode = .dormant then s
    else if s.onCell then
      let g := { g with time := some s.timeNow, flags := 10 }
      s.onMode fun m => { m with bootEvents := m.bootEvents ++ [g] }
    else s.send g

/-! ## Responses at a round boundary (R416 to R420) -/

/-- The points that an alarm's relay and metering fields concern. -/
def State.scopePoints (s : State) (a : Alarm) : List Nat := (List.range s.nMp).filter fun m => s.inScope a m

/-- The evidence field of a response (R416). -/
def State.responseEvidence (s : State) (a : Alarm) : State :=
  match evidenceOf a.type with
  | some c =>
    if bit a.word 6 && s.evidenceDue a.type then
      (s.onTamper fun t => { t with evidAt := upd t.evidAt a.type fun _ => some s.slotNow }).evidenceIncrement c
    else s
  | none => s

/-- One alarm's fields that act once, at R: EVIDENCE, ERASE, RELAY 2 and CAPTURE. -/
def State.applyAlarm (s : State) (a : Alarm) : State :=
  let s := s.responseEvidence a
  let s := if bit a.word 8 then s.onSec fun x => { x with opsSession := none, metSession := none } else s
  let s := if wordRelay a.word = 2 then
      (s.scopePoints a).foldl (fun s m => s.onLedger m fun l => { l with openLocked := true }) s else s
  if bit a.word 9 then s.captureTrigger s.now 4 a.type none else s

/-- The metering fields of the combined word of one point, formed at every round boundary (R417): estimate cause [4] and
the spans that hold freeze credit. -/
def State.combineMetering (s : State) (m : Nat) : State :=
  let w := s.combinedFor m
  let s := if bit w 2 then s.setCause m 4 else s.endCause m 4
  let p := s.point m
  let open_ := p.freeze.any fun f => f.2.isNone
  if bit w 3 && s.isBilling m then
    if open_ then s else s.onPoint m fun p => { p with freeze := p.freeze ++ [(s.now, none)] }
  else if p.freeze.isEmpty then s
  else s.onPoint m fun p => { p with
    freeze := (p.freeze.map fun f => (f.1, some (f.2.getD s.now))).filter fun f => decide (p.sEnd < f.2.getD 0) }

/-- The alarms whose response takes effect now. -/
def State.dueAlarms (s : State) : List Alarm := s.tamper.alarms.filter fun a => !a.applied && decide (a.from_ ≤ s.now)

/-- The responses of a round boundary (R416, R417). The relays are evaluated after it. -/
def State.applyAlarms (s : State) (due : List Alarm) : State :=
  let s := due.foldl State.applyAlarm s
  let s := s.onTamper fun t => { t with
    alarms := t.alarms.map fun a => if !a.applied && decide (a.from_ ≤ s.now) then { a with applied := true } else a }
  (List.range s.nMp).foldl State.combineMetering s

/-- The word IN_FORCE of R420: for a point its combined word, for another scope that of the types active for the scope. -/
def State.inForce (s : State) (kind target : Nat) : Nat :=
  if kind = 2 then s.combinedFor target
  else (s.tamper.alarms.filter fun a => decide (a.from_ ≤ s.now) && alarmKind a.type == kind && a.target == target).foldl
    (fun w a => combineWord w a.word) 0

/-- The lowest-numbered balance group that has a point as a member. -/
def State.groupOf (s : State) (m : Nat) : Option Nat :=
  (List.range 16).find? fun g => (s.groups.getD g {}).set.members.getLsbD m

/-- The record of the alarms raised for one target in one round (R420), sent to the recorder; a record of
electrical types is a report (R293). One that raises type 18 as well is sent by itself: DESIGN CHOICE, log entry 180. -/
def State.alarmRecord (s : State) (as : List Alarm) : State :=
  match as with
  | [] => s
  | a :: _ =>
    let kind := alarmKind a.type
    let bitsOf := as.map fun x => alarmBit x.type
    let w := as.foldl (fun w x => combineWord w x.word) 0
    let f := s.inForce kind a.target
    let causes := if kind = 2 then (s.point a.target).ledger.causes else 0
    let at_ := as.foldl (fun t x => min t x.raised) a.raised
    let g : EvGroup := {
      code := bitsOf.foldl min 63, srcKind := kind, srcIdx := a.target, at_ := at_
      fields := le 4 (maskOf (as.map fun x => x.type)) ++ le 2 w ++ le 2 f ++ le 1 causes ++ sample7 at_ ++ zeros 4
        ++ (as.map fun x => x.extra).flatten
      bits := BitVec.ofNat 64 (maskOf bitsOf), prio := wordNotify f }
    if as.all fun x => decide (13 ≤ x.type) && decide (x.type ≤ 16) then
      let cs := match (s.point a.target).bind with
        | some b => b.chans
        | none => []
      match s.groupOf a.target with
      | some n => s.report g 8 n [a.target] cs 0 0xFFFF
      | none => s.report g 0 0 [a.target] cs 0 0xFFFF
    else s.send g

/-- Alarms put together by target, in order of raise. -/
def byTarget : Nat → List Alarm → List (List Alarm)
  | 0, _ => []
  | _ + 1, [] => []
  | k + 1, a :: r =>
    let same := fun (x : Alarm) => alarmKind x.type == alarmKind a.type && x.target == a.target
    (a :: r.filter same) :: byTarget k (r.filter fun x => !same x)

/-- The records of a round boundary (R420). -/
def State.alarmRecords (s : State) (due : List Alarm) : State :=
  (byTarget due.length due).foldl State.alarmRecord s

/-! ## The start (R421, R443, R444) -/

/-- The entries of the buffer in order of raise (R443). -/
def Tamper.bufferOrder (t : Tamper) : List BufEntry :=
  let first := t.buffer.take (min 48 t.total)
  let rolling := if t.total ≤ 64 then (t.buffer.drop 48).take (t.total - 48)
    else (List.range 16).map fun i => t.buffer.getD (bufferSlot (t.total - 16 + i)) {}
  first ++ rolling

/-- The record of one buffer entry (log entry 29). -/
def State.bufferRecord (s : State) (e : BufEntry) : EvGroup :=
  { code := alarmBit e.type, at_ := s.now, time := some e.time, flags := 2, fields := le 4 (2 ^ e.type) ++ le 4 e.data
    bits := BitVec.ofNat 64 (2 ^ alarmBit e.type), prio := s.notifyMax (typesOfBit (alarmBit e.type)) }

/-- EV_WATCH_ALARMS (R421, R439, R444): PEND_MASK, the total, the overflow count and a flag set. -/
def watchAlarms (t : Nat) (mask total ovl flags prio : Nat) : EvGroup :=
  { code := 53, at_ := t, fields := le 4 mask ++ le 4 total ++ le 4 ovl ++ le 1 flags
    bits := BitVec.ofNat 64 (2 ^ 53), prio := prio }

/-- The response words of a mask of types combined. -/
def State.wordOfMask (s : State) (mask : Nat) : Nat :=
  (bitsSet mask 19).foldl (fun w t => combineWord w (s.parN (0x520 + t))) 0

/-- The increments that waited for the resumption, programmed (R441). -/
def State.resumeIncrements (s : State) : State :=
  (List.range 16).foldl (fun s c => (List.range (s.tamper.pendInc.getD c 0)).foldl (fun s _ => s.evidenceIncrement c) s) s

/-- The alarms raised on the cell taken over: their locks and their contact openings start (R421). PEND_MASK names no target: a type of
device scope concerns all billing points, and a balance alarm the members of the groups whose alarm still stands. -/
def State.resumeRaised (s : State) (mask word : Nat) : State :=
  let own := fun (m : Nat) => s.tamper.alarms.any fun a => a.from_ == cellMark && wordRelay a.word == 2 && s.inScope a m
  let ms := if mask % 2 ^ 13 = 0 then (List.range s.nMp).filter own else s.billPoints
  let s := if wordRelay word = 2 then ms.foldl (fun s m => s.onLedger m fun l => { l with openLocked := true }) s else s
  let lockGone := bit word 7 && !(s.tamper.alarms.any fun a => bit a.word 7)
  s.onTamper fun t => { t with
    alarms := t.alarms.map fun a => if a.from_ = cellMark then { a with from_ := s.mode.firstSample, applied := true } else a
    locks := if lockGone then t.locks ++ [s.mode.firstSample + 460800000] else t.locks }

/-- Step 5 of R90 for what was raised on the cell (R421, R443, R444): `kept` when the retention SRAM is valid, `dormant`
when the start is from DORMANT. -/
def State.resumeAlarms (s : State) (kept dormant : Bool) : State :=
  let mask := if dormant then s.tamper.dormantMask.toNat else if kept then s.tamper.pendMask.toNat else 0
  let word := if dormant then s.wordOfMask mask else if kept then s.tamper.pendWord else 0
  let s := if kept then s.resumeIncrements else s
  let s := s.resumeRaised mask word
  let s := (List.range s.nMp).foldl State.combineMetering s
  let total := if dormant then (bitsSet mask 32).length else s.tamper.total
  let gs := if kept then (s.tamper.bufferOrder.filter fun e => e.valid).map s.bufferRecord else []
  let s := gs.foldl State.send s
  let s := if mask = 0 then s
    else s.send (watchAlarms s.now mask total (if dormant then 0 else total - 64) (2 * b2n dormant) (wordNotify word))
  s.onTamper fun t => { t with buffer := [], total := 0, pendInc := List.replicate 16 0, pendMask := 0, pendWord := 0
                               dormantMask := 0 }

/-! ## Wired inputs and light (R422 to R426) -/

/-- Whether an input is enabled: 0 to 3 loops, 4 to 7 switches, 8 light (R445). -/
def State.inputOn (s : State) (i : Nat) : Bool := if i = 8 then bit (s.parN 0x600) 13 else bit (s.parN 0x600) i

/-- One step of a loop generator: polynomial x^31 + x^28 + 1 (R423). -/
def lfsrStep (r : BitVec 31) : BitVec 31 := (r <<< 1) ||| (if r.getLsbD 30 != r.getLsbD 27 then 1 else 0)

/-- Whether input i agrees in a sample whose generators have stepped. -/
def State.agrees (s : State) (a : TamperLevels) (i : Nat) : Bool :=
  if i = 8 then !a.light
  else if i < 4 then (s.tamper.lfsr.getD i 1).getLsbD 30 == a.loops.getD i false
  else a.switches.getD (i - 4) false == bit (s.parN 0x600) (i + 4)

/-- The consecutive disagreeing samples that raise (R425, R426). -/
def State.raiseAfter (s : State) (i : Nat) : Nat :=
  if i = 8 ∧ s.mode.mode ≠ .watch ∧ s.mode.mode ≠ .dormant then 2 else 3

/-- The sample of one enabled input (R425). -/
def State.sampleInput (s : State) (a : TamperLevels) (i : Nat) : State :=
  if !s.inputOn i then s
  else
    let x := s.tamper.inputs.getD i {}
    if s.agrees a i then
      let n := min 64 (x.agree + 1)
      let s := s.onTamper fun t => { t with inputs := upd t.inputs i fun _ => { agree := n } }
      if n = 64 then s.clearAlarm i 0 else s
    else
      let n := min 3 (x.disagree + 1)
      let s := s.onTamper fun t => { t with inputs := upd t.inputs i fun _ => { disagree := n } }
      if s.raiseAfter i ≤ n then s.raiseAlarm i 0 (if i < 8 then i else 0) else s

/-- TAMPER_SAMPLE (R422 to R426). -/
def execTamperSample (a : TamperLevels) (s : State) : Host.Outcome State Fault Refusal :=
  .next (if s.power.src = .none then s
    else
      let s := s.onTamper fun t => { t with lfsr := t.lfsr.map lfsrStep }
      (List.range 9).foldl (fun s i => s.sampleInput a i) s)

/-- A changed TMP_INPUTS: an active alarm of a disabled input clears (R425). -/
def State.inputsChanged (s : State) : State :=
  (List.range 9).foldl (fun s i =>
    if s.inputOn i then s
    else (s.onTamper fun t => { t with inputs := upd t.inputs i fun _ => {} }).clearAlarm i 0) s

/-! ## Supply glitches and the oscillator (R426, R427) -/

/-- SUPPLY_GLITCH (R426). -/
def execSupplyGlitch (s : State) : Host.Outcome State Fault Refusal :=
  .next (if s.power.src = .none then s
    else (s.raiseAlarm 11 0).onTamper fun t => { t with glitchAt := some s.slotNow })

/-- SUPPLY_GLITCH_CLEAR (R426): 1 s after the last excursion. -/
def execSupplyGlitchClear (s : State) : Host.Outcome State Fault Refusal :=
  .next (match s.tamper.glitchAt with
    | some t => if t + slotsPerS ≤ s.slotNow then (s.clearAlarm 11 0).onTamper fun x => { x with glitchAt := none } else s
    | none => s)

/-- Whether the always-on domain runs alone, in WATCH or DORMANT, and watches the 32.768 kHz oscillator (R426). -/
def State.cellAlone (s : State) : Bool := (s.mode.mode == .watch || s.mode.mode == .dormant) && s.power.src != .none

/-- RTC_OSCILLATOR_STOP (R426). -/
def execRtcOscillatorStop (s : State) : Host.Outcome State Fault Refusal :=
  .next (if s.cellAlone && !s.clock.oscStopped then
      (s.raiseAlarm 10 0).onClock fun c => { c with oscStopped := true, oscStopAt := s.clock.rtc }
    else s)

/-- RTC_OSCILLATOR_RESUMED (R426, R427): the duration recorded is the time on the internal oscillator. -/
def execRtcOscillatorResumed (s : State) : Host.Outcome State Fault Refusal :=
  .next (if s.clock.oscStopped then
      let d := ((s.timeNow - s.clock.oscStopAt) * 128000 / 65536).toNat
      (s.clearAlarm 10 0 (some d)).onClock fun c => { c with oscStopped := false }
    else s)

/-- LOCK_EXPIRY (R416): locks that have ended leave. -/
def execLockExpiry (s : State) : Host.Outcome State Fault Refusal :=
  .next (s.onTamper fun t => { t with locks := t.locks.filter fun e => decide (s.now < e) })

/-! ## Thermal watch (R434) -/

/-- Whether thermal watch entry j is enabled and active. -/
def State.thermActive (s : State) (j : Nat) : Bool :=
  let w := s.parN (0x680 + 2 * j)
  bit w 18 && (s.chan (w % 1024)).set.role == 4 && (s.point (bits w 10 8)).bind.isSome

/-- Entry j no longer asks for the alarm of its point, which clears unless another active entry asks for it: DEDUCED, log entry 183. -/
def State.thermClear (s : State) (j m : Nat) : State :=
  let s := s.onTamper fun t => { t with therm := upd t.therm j fun x => { x with on := false } }
  let others := (List.range 16).any fun k =>
    s.thermActive k && (s.tamper.therm.getD k {}).on && bits (s.parN (0x680 + 2 * k)) 10 8 == m
  if others then s else s.clearAlarm 18 m

/-- One mean reaches entry j. -/
def State.thermMean (s : State) (j : Nat) (mean : Int) : State :=
  let w := s.parN (0x680 + 2 * j)
  let th := ofTwos 32 (s.parN (0x681 + 2 * j))
  let m := bits w 10 8
  let x := s.tamper.therm.getD j {}
  let x : Therm := if th < mean then { x with above := min 10 (x.above + 1), below := 0 }
    else if mean ≤ th - (w / 2 ^ 19 : Nat) then { x with above := 0, below := min 60 (x.below + 1) }
    else { x with above := 0, below := 0 }
  let x := if x.above = 10 then { x with on := true } else x
  let s := s.onTamper fun t => { t with therm := upd t.therm j fun _ => x }
  if x.above = 10 then s.raiseAlarm 18 m else if x.below = 60 then s.thermClear j m else s

/-- A one-second mean of an AUX_DC channel without VOID reaches the entries that watch it; none on the cell (R440). -/
def State.thermWatch (s : State) (c : Nat) (mean : Int) : State :=
  if s.onCell then s
  else (List.range 16).foldl (fun s j =>
    if s.thermActive j && s.parN (0x680 + 2 * j) % 1024 == c then s.thermMean j mean else s) s

/-- Entries that have become inactive clear their alarm. -/
def State.thermIdle (s : State) : State :=
  (List.range 16).foldl (fun s j =>
    if s.thermActive j then s
    else
      let m := bits (s.parN (0x680 + 2 * j)) 10 8
      let x := s.tamper.therm.getD j {}
      let s := s.onTamper fun t => { t with therm := upd t.therm j fun _ => {} }
      if x.on then s.thermClear j m else s) s

end Sys2Proof.Machine
end

