-- ==== Sys2Proof/Machine/Prepay.lean ====
section
/-! DEFINITION. Tokens (R348 to R355), credit and relay commands (R356 to R360), and the ends of holds and lockouts. -/
namespace Sys2Proof.Machine

/-- The modes of SUBMIT_TOKEN (R355): METER, DEGRADED with base mode METER, CALIBRATE with return mode METER. -/
def modeMeter (s : State) : Except Deny Unit :=
  need67 (s.mode.mode == .meter || (s.mode.mode == .degraded && s.mode.base == .meter)
    || (s.mode.mode == .calibrate && s.mode.ret == .meter)) .notInMode

/-- The waiting reply of a port changed in place. -/
def State.onWaiting (s : State) (p : Nat) (w : Wait) (f : Reply → Reply) : State :=
  s.onPort p fun q => { q with replies := q.replies.map fun r => if r.wait = w then f r else r }

/-! ## The token window and keys (R349, R350, R352) -/

/-- The value of 20 decimal digits; none when a byte is no digit (R355). -/
def digitsValue : List Byte → Nat → Option Nat
  | [], v => some v
  | b :: r, v => if within 48 57 b.toNat then digitsValue r (10 * v + (b.toNat - 48)) else none

/-- AMOUNT (R349). -/
def tokenAmount (v : Nat) : Nat := bits v 24 14 * 10 ^ bits v 38 4

/-- The MAC of a token under a vending key (R350). -/
def tokenMac (vend mpId : List Byte) (v : Nat) : Nat :=
  rd ((kmac256 (kmac256 vend mpId 32 "SYINAEX-KDF") (le 6 (v / 2 ^ 24)) 32 "SYINAEX-TOKEN").take 3)

/-- The vending keys in force of a plan (R350, R462, R492). -/
def State.vendKeys (s : State) (plan : Nat) : List (List Byte) :=
  let v := s.security.vending.getD plan {}
  (match v.key with
    | some k => [k]
    | none => [])
  ++ match v.prev with
    | some k => if s.now < v.prevEnd then [k] else []
    | none => []

/-- A serial accepted: the window moves to it or its bit is set (R353). -/
def Ledger.takeSerial (l : Ledger) (q : Nat) : Ledger :=
  if l.h < q then { l with h := q, bitmap := (l.bitmap <<< (q - l.h)) ||| 1 }
  else { l with bitmap := l.bitmap ||| BitVec.ofNat 1024 (2 ^ (l.h - q)) }

/-- The credit that a token adds (R351). -/
def creditOf (cls amount : Nat) : Nat := if cls = 0 then amount * 10 else if cls = 1 then amount * 10000 else 0

/-- The grant of a class 2 token in the unit of C (R343, R351). -/
def grantOf (l : Ledger) (amount : Nat) : Nat := if amount = 0 then l.ecLimit else amount / 100

/-- The ledger after a token without its events: what later checks of the same round see (log entry 30). -/
def Ledger.ahead (l : Ledger) (t : TokenReq) : Ledger :=
  let l := l.takeSerial t.serial
  if t.class_ = 2 then
    let g := grantOf l t.amount
    ({ l with ecL := g, ec := if -(g : Int) < l.credit then .inUse else .spent } : Ledger).ecStep.1
  else
    ({ l with credit := satCredit (l.credit + creditOf t.class_ t.amount) } : Ledger).ecStep.1.ecStep.1

/-- The ledger of a point with the tokens that wait for the round boundary. -/
def State.ledgerAhead (s : State) (m : Nat) : Ledger :=
  (s.relays.tokens.filter fun t => t.mp == m).foldl Ledger.ahead (s.point m).ledger

/-- Seconds of lockout remaining. -/
def State.lockS (s : State) (l : Ledger) : Nat := ceilDiv (l.lockEnd - s.now) slotsPerS

/-- Steps 3 to 6 of R352, and the status of the first that fails. -/
def Ledger.tokenFails (l : Ledger) (cls serial amount : Nat) : Option Status :=
  if serial + 1023 < l.h then some .tokenOld
  else if serial ≤ l.h && l.bitmap.getLsbD (l.h - serial) then some .tokenUsed
  else
    let energy := l.policy.getLsbD 0
    let bad : Bool := match cls with
      | 0 => energy
      | 1 => !energy
      | 2 => l.ec == .inUse
      | 3 => false
      | 4 => decide (amount ≠ 0)
      | 5 => decide (amount ≠ 0) || l.policy.getLsbD 2
      | _ => true
    let ovl : Bool := match cls with
      | 0 | 1 => decide ((l.creditMax : Int) < l.credit + creditOf cls amount)
      | 2 => decide (100 * l.ecLimit < amount)
      | 3 => decide (0 < amount) && decide (amount * 10 < 100)
      | _ => false
    if bad then some .tokenClass else if ovl then some .tokenLimit else none

/-! ## Lockout (R354) -/

/-- The length of a lockout in seconds. -/
def lockoutS (j : Nat) : Nat := min (3600 * 2 ^ j) 86400

/-- A TOKEN_MAC recorded; the fifth within an hour starts a lockout. -/
def State.macFailure (s : State) (m : Nat) : State :=
  let l := (s.point m).ledger
  let fails := s.now :: (l.macFails.filter fun t => decide (s.now < t + 460800000))
  if fails.length < 5 then s.onLedger m fun l => { l with macFails := fails }
  else
    let prev := if l.lockEnd = 0 then l.lockPrev else l.lockEnd
    let j := if prev ≠ 0 ∧ s.now < prev + 11059200000 then l.lockJ + 1 else 0
    let d := lockoutS j
    ((s.onLedger m fun l => { l with
      macFails := [], lockEnd := s.now + d * slotsPerS, lockJ := min j 5, lockPrev := prev }).writeLedger m).raise 42 2 m
      (le 1 m ++ le 4 d)

/-- TOKEN_LOCKOUT_END (R354). -/
def execTokenLockoutEnd (m : Nat) (s : State) : Host.Outcome State Fault Refusal :=
  .next (
    let l := (s.point m).ledger
    if l.lockEnd ≠ 0 ∧ l.lockEnd ≤ s.now then
      (s.onLedger m fun l => { l with lockPrev := l.lockEnd, lockEnd := 0 }).writeLedger m
    else s)

/-! ## SUBMIT_TOKEN and TOKEN_APPLY (R353, R355) -/

/-- The 24-byte reply of a token. -/
def State.tokenReply (s : State) (m : Nat) (cls serial : Nat) (l : Ledger) : List Byte :=
  le 1 cls ++ zeros 1 ++ le 4 serial ++ zeros 2 ++ leI 8 l.credit ++ le 4 (s.lockS (s.point m).ledger) ++ le 4 l.h

/-- A token refused: EV_TOKEN_REJECTED with the token's own serial, and the reply with its status (R352, R355). -/
def State.tokenRefused (s : State) (r : Request) (m : Nat) (st : Status) (cls serial own : Nat) : State :=
  (s.raise 41 2 m (le 1 m ++ le 2 st.code ++ le 4 own)).reply r.port
    { tag := r.tag, status := st, payload := s.tokenReply m cls serial (s.point m).ledger }

/-- The binding of a point with a ledger; any other point is refused (R339). -/
def needLedger (s : State) (m : Nat) : Except Deny Binding :=
  match (s.point m).bind with
  | some b => if b.isRef then .error { status := .badParameter } else .ok b
  | none => .error { status := .badParameter }

/-- SUBMIT_TOKEN (R355). -/
def cmdSubmitToken (s : State) (r : Request) : Except Deny State := do
  len r 24
  reserved r 1 3
  let m := byteAt r 0
  let v ← match digitsValue (r.params.drop 4) 0 with
    | some v => if v < 2 ^ 66 then .ok v else .error { status := .badParameter }
    | none => .error { status := .badParameter }
  needPoint s m
  needPriv s r 0x0401
  modeMeter s
  let b ← needLedger s m
  let cls := bits v 62 4
  let serial := bits v 42 20
  if s.now < (s.point m).ledger.lockEnd then .ok (s.tokenRefused r m .tokenLockout 0xFF 0 serial)
  else if !((s.vendKeys b.plan).any fun k => tokenMac k b.mpId v == v % 2 ^ 24) then
    .ok ((s.macFailure m).tokenRefused r m .tokenMac 0xFF 0 serial)
  else match (s.ledgerAhead m).tokenFails cls serial (tokenAmount v) with
    | some st => .ok (s.tokenRefused r m st cls serial serial)
    | none =>
      let t : TokenReq := { port := r.port, mp := m, class_ := cls, serial := serial, amount := tokenAmount v }
      .ok ((s.replyOk r [] .token).onRelays fun x => { x with tokens := x.tokens ++ [t] })

/-- The effect of a token's class at a round boundary (R351). A power limit beyond 32 bits reads as a free value. -/
def State.tokenEffect (s : State) (t : TokenReq) (at_ : Nat) : State :=
  let m := t.mp
  match t.class_ with
  | 0 | 1 => s.setCredit m ((s.point m).ledger.credit + creditOf t.class_ t.amount) false
  | 2 =>
    let l := (s.point m).ledger
    let g := grantOf l t.amount
    let st : EcState := if -(g : Int) < l.credit then .inUse else .spent
    ((s.onLedger m fun l => { l with ecL := g, ec := st }).ecEvent m (decide (l.ec ≠ st))).ecRun m
  | 3 =>
    let (v, s') := s.draw
    let (w, s) := if t.amount * 10 < 2 ^ 32 then (t.amount * 10, s) else (v % 2 ^ 32, s')
    s.onLedger m fun l => { l with wLim := w, limEnd := 0 }
  | 4 => s.onLedger m fun l => { l with openLocked := false }
  | _ => s.onLedger m fun l => { l with testEnd := at_ + 10 * slotsPerS }

/-- One token applied (R353): the window, the effect, the last accepted token, and the ledger's write that its reply
waits for. -/
def State.applyToken (s : State) (t : TokenReq) : State :=
  let at_ := s.nextRound
  let m := t.mp
  if !s.isBilling m then s
  else
    let s := s.onLedger m fun l => l.takeSerial t.serial
    let s := s.tokenEffect t at_
    let s := s.onLedger m fun l =>
      { l with lastSerial := t.serial, lastClass := t.class_, lastTime := s.timeOf at_ }
    let payload := s.tokenReply m t.class_ t.serial (s.point m).ledger
    let s := s.enqueue { recs := [.point m ((s.point m).record 3)], reply := some t.port, token := some m }
    s.onWaiting t.port .token fun r => { r with payload := payload, wait := .store }

/-- TOKEN_APPLY (R353): the tokens handed over, at the round boundary. -/
def execTokenApply (s : State) : Host.Outcome State Fault Refusal :=
  .next (if s.metering then
      let ts := s.relays.tokens
      ts.foldl State.applyToken (s.onRelays fun x => { x with tokens := [] })
    else s)

/-! ## READ_CREDIT (R356) -/

/-- The number of an emergency-credit state. -/
def EcState.num : EcState → Nat
  | .idle => 0
  | .inUse => 1
  | .spent => 2

/-- The 64-byte record of a point. -/
def State.creditRecord (s : State) (m : Nat) : List Byte :=
  if !s.isBilling m then le 1 m ++ zeros 63
  else
    let l := (s.point m).ledger
    let seq := match (s.store.points.getD m {}).newest with
      | some r => r.seq
      | none => 0
    le 1 m ++ le 1 l.policy.toNat ++ le 1 l.ec.num ++ le 1 (s.relayByte m) ++ le 1 (s.relayCauses m)
      ++ le 1 (l.lowBits l.credit) ++ le 2 l.trips ++ leI 8 l.credit ++ le 8 l.ecL ++ le 4 l.deductRem ++ le 4 l.wLim
      ++ le 4 l.h ++ le 4 l.lastSerial ++ time6 l.lastTime ++ zeros 2 ++ le 4 (s.lockS l) ++ leI 4 l.lastDay ++ le 4 seq
      ++ zeros 4

/-- READ_CREDIT (R356). -/
def cmdReadCredit (s : State) (r : Request) : Except Deny State := do
  len r 4
  reserved r 2 2
  let first := byteAt r 0
  let n := byteAt r 1
  need (within 1 63 n && decide (first + n ≤ 256)) .badParameter
  need (decide (first + n ≤ s.nMp)) .unitAbsent
  needPriv s r 0x0402
  modeResp s true
  .ok (s.replyOk r (le 2 n ++ zeros 6 ++ ((List.range n).map fun i => s.creditRecord (first + i)).flatten))

/-! ## RELAY_COMMAND and RECONNECT_ARM (R357, R358) -/

/-- RELAY_COMMAND (R357). -/
def cmdRelayCommand (s : State) (r : Request) : Except Deny State := do
  let auth ← authField r 8
  reserved r 2 2
  let a := byteAt r 1
  let d := fieldAt r 4 4
  need (decide (a ≤ 4) && (d == 0 || a == 1 || a == 2)) .badParameter
  needPoint s (byteAt r 0)
  let s' ← order5 s s.time r 0x0403 s.opsWhenSealed 8 auth
  modeAll s
  .ok ((s'.replyOk r [] .round).onRelays fun x =>
    { x with commands := x.commands ++ [{ mp := byteAt r 0, action := a, seconds := d, port := r.port }] })

/-- A relay command at its round boundary (R344, R357). -/
def Ledger.command (l : Ledger) (c : RelayReq) (at_ : Nat) : Ledger :=
  let fin := if c.seconds = 0 then 0 else at_ + c.seconds * slotsPerS
  match c.action with
  | 0 => { l with override := .none, overrideEnd := 0 }
  | 1 => { l with override := .forceOpen, overrideEnd := fin }
  | 2 => { l with override := .forceClose, overrideEnd := fin }
  | 3 => { l with openLocked := false }
  | _ => { l with testEnd := at_ + 10 * slotsPerS }

/-- The relay commands of a round boundary. The relays are evaluated after it. -/
def State.applyRelayCommands (s : State) (cs : List RelayReq) : State :=
  cs.foldl (fun s c => (s.onLedger c.mp fun l => l.command c s.now).writeLedger c.mp) s

/-- The replies of the relay commands of a round boundary. -/
def State.answerRelayCommands (s : State) (cs : List RelayReq) : State :=
  cs.foldl (fun s c => s.onWaiting c.port .round fun r =>
    { r with payload := le 1 (s.relayByte c.mp) ++ zeros 7, wait := .none }) s

/-- RECONNECT_ARM (R358). -/
def cmdReconnectArm (s : State) (r : Request) : Except Deny State := do
  len r 4
  reserved r 1 3
  let m := byteAt r 0
  needPoint s m
  needPriv s r 0x0404
  modeMeter s
  let _ ← needLedger s m
  let l := (s.point m).ledger
  let raw := s.relayCauses m
  let res := if l.recon = .closed then 2 else if l.recon = .awaitArm ∧ l.acting raw = 0 then 0 else 1
  let s := if res = 0 then s.onRelays fun x => { x with arms := union x.arms [m] } else s
  .ok (s.replyOk r (le 1 res ++ le 1 raw ++ zeros 2))

/-- The arms of a round boundary (R346): AWAIT_ARM becomes CLOSED while no cause acts. -/
def State.applyArms (s : State) (ms : List Nat) : State :=
  ms.foldl (fun s m =>
    let l := (s.point m).ledger
    let acting := l.acting (s.relayCauses m)
    if l.recon = .awaitArm ∧ acting = 0 then
      (s.onLedger m fun l => { l with recon := .closed, open_ := false }).sendDirective m false 0
    else s) s

/-- RELAY_OVERRIDE_END (R357). -/
def execRelayOverrideEnd (m : Nat) (s : State) : Host.Outcome State Fault Refusal :=
  .next (
    let l := (s.point m).ledger
    if l.override ≠ .none ∧ l.overrideEnd ≠ 0 ∧ l.overrideEnd ≤ s.now then
      ((s.onLedger m fun l => { l with override := .none, overrideEnd := 0 }).writeLedger m).evalRelay m true
    else s)

/-- RELAY_TEST_END (R344): cause [5] ends. -/
def execRelayTestEnd (m : Nat) (s : State) : Host.Outcome State Fault Refusal :=
  .next (
    let l := (s.point m).ledger
    if l.testEnd ≠ 0 ∧ l.testEnd ≤ s.now then (s.onLedger m fun l => { l with testEnd := 0 }).evalRelay m else s)

/-! ## The power limit (R345) -/

/-- The quanta of a segment reach the power limit of its point. -/
def State.powerLimit (s : State) (m q sFirst : Nat) : State :=
  let l := (s.point m).ledger
  let span := sFirst / 1280000
  let l := if l.limSpan = span then l else { l with limSpan := span, limQuanta := 0, limTripped := false }
  let e := l.limQuanta + q
  let trip := decide (0 < l.wLim) && !l.limTripped && decide (l.wLim * 1000 < e * 360)
  s.onLedger m fun _ => { l with
    limQuanta := e
    limTripped := l.limTripped || trip
    trips := if trip then incSat 16 l.trips else l.trips
    limEnd := if trip then (span + 1) * 1280000 + s.parN 0x401 * slotsPerS else l.limEnd }

/-- POWER_LIMIT_HOLD_END (R345): cause [1] ends. -/
def execPowerLimitHoldEnd (m : Nat) (s : State) : Host.Outcome State Fault Refusal :=
  .next (
    let l := (s.point m).ledger
    if l.limEnd ≠ 0 ∧ l.limEnd ≤ s.now then (s.onLedger m fun l => { l with limEnd := 0 }).evalRelay m else s)

/-! ## SET_CREDIT_POLICY (R359) -/

/-- A mask of points whose bits are all of points that exist. -/
def needMask (s : State) (mask : Nat) : Except Deny Unit := need (decide (mask < 2 ^ s.nMp)) .unitAbsent

/-- SET_CREDIT_POLICY (R359, R360). -/
def cmdSetCreditPolicy (s : State) (r : Request) : Except Deny State := do
  let auth ← authField r 64
  let mask := fieldAt r 0 32
  let flags := fieldAt r 32 4
  flagsWithin flags 4
  let p : PolicyReq := { points := bitsSet mask 256, flags := BitVec.ofNat 32 flags, low1 := fieldAt r 36 4
                         low2 := fieldAt r 40 4, low3 := fieldAt r 44 4, ecLimit := fieldAt r 48 4
                         daily := fieldAt r 52 4, creditMax := fieldAt r 56 8 }
  need (within 1 (2 ^ 62) p.creditMax) .badParameter
  needMask s mask
  let s' ← order5 s s.time r 0x0405 s.opsWhenSealed 64 auth
  notRetired s
  modeNoCal s
  need (p.points.all s.isBilling) .badParameter
  need (decide (p.low2 ≤ p.low1) && decide (p.low3 ≤ p.low2) && !(bit flags 0 && p.daily != 0)) .badParameter
  need (p.points.all fun m =>
    let l := (s.point m).ledger
    l.policy.getLsbD 0 == bit flags 0 || (l.credit == 0 && l.ec == .idle)) .resourceBusy
  .ok ((s'.onRelays fun x => { x with policies := x.policies ++ [p] }).replyOk r
    (le 2 p.points.length ++ zeros 6 ++ sample8 s.nextRound))

/-- A policy at its round boundary. -/
def State.applyPolicy (s : State) (p : PolicyReq) : State :=
  p.points.foldl (fun s m =>
    if !s.isBilling m then s
    else
      ((s.onLedger m fun l =>
        { l with policy := p.flags, low1 := p.low1, low2 := p.low2, low3 := p.low3, ecLimit := p.ecLimit
                 daily := p.daily, creditMax := p.creditMax }).ecRun m).writeLedger m) s

end Sys2Proof.Machine
end

