-- ==== Sys2Proof/Machine/Calendar.lean ====
section
/-! DEFINITION. Local time (R308 to R310), calendars (R311 to R314), and the boundary entries that they give (R317, R318). -/
namespace Sys2Proof.Machine

/-! ## Dates: days are counted from 2000-01-01, which is a Saturday -/

/-- Year, month and day of a day number, by the civil-calendar arithmetic of the Gregorian rules. -/
def civil (days : Int) : Nat × Nat × Nat :=
  let z := (days + 730425).toNat
  let era := z / 146097
  let doe := z % 146097
  let yoe := (doe - doe / 1460 + doe / 36524 - doe / 146096) / 365
  let doy := doe - (365 * yoe + yoe / 4 - yoe / 100)
  let mp := (5 * doy + 2) / 153
  let m := if mp < 10 then mp + 3 else mp - 9
  (yoe + era * 400 + (if m ≤ 2 then 1 else 0), m, doy - (153 * mp + 2) / 5 + 1)

/-- The day number of a date. -/
def dayNumber (y m d : Nat) : Int :=
  let y := if m ≤ 2 then y - 1 else y
  let yoe := y % 400
  let doy := (153 * (if 2 < m then m - 3 else m + 9) + 2) / 5 + d - 1
  (y / 400 * 146097 + yoe * 365 + yoe / 4 - yoe / 100 + doy : Nat) - 730425

/-- The weekday of a day number: 0 for Monday. -/
def weekday (days : Int) : Nat := ((days + 5) % 7).toNat

/-- Whether a year is a leap year. -/
def leapYear (y : Nat) : Bool := (y % 4 == 0 && y % 100 != 0) || y % 400 == 0

/-- The days of a month. -/
def monthDays (y m : Nat) : Nat :=
  match m with
  | 2 => if leapYear y then 29 else 28
  | 4 | 6 | 9 | 11 => 30
  | _ => 31

/-- The day number of the WEEK-th WEEKDAY of a month; WEEK 5 is the last (R308). -/
def weekDay (y m week wd : Nat) : Int :=
  let first := dayNumber y m 1
  let d := (wd + 7 - weekday first) % 7 + 7 * (week - 1)
  first + ((if d < monthDays y m then d else d - 7 : Nat) : Int)

/-! ## Local time (R308, R309) -/

/-- The zone in minutes (R308). -/
def State.zoneMin (s : State) : Int := 15 * ofTwos 8 (s.parN 0x300)

/-- A device time as a minute of local standard time, rounded down. -/
def State.standardMin (s : State) (t : Int) : Int := t / 3932160 + s.zoneMin

/-- The device time of a minute of local standard time. -/
def State.timeOfMin (s : State) (l : Int) : Int := (l - s.zoneMin) * 3932160

/-- The transition of one DST rule in a year: its minute of local standard time and its offset in minutes (R308). -/
def dstTransition (y w : Nat) : Int × Int :=
  (weekDay y (bits w 0 4) (bits w 4 3) (bits w 7 3) * 1440 + (bits w 10 11 : Nat), 15 * (bits w 21 4 : Nat))

/-- The offset that one pattern gives at a minute of local standard time. -/
def dstOffset (y : Nat) (a b : Nat) (l : Int) : Int :=
  let ta := dstTransition y a
  let tb := dstTransition y b
  let p := if ta.1 ≤ tb.1 then (ta, tb) else (tb, ta)
  if l < p.1.1 then p.2.2 else if l < p.2.1 then p.1.2 else p.2.2

/-- The DST offset in force at a minute of local standard time (R308). -/
def State.dst (s : State) (l : Int) : Int :=
  let y := (civil (l / 1440)).1
  let on := fun k => let w := s.parN (0x310 + 3 * k)
    w != 0 && decide (w % 65536 ≤ y) && decide (y ≤ w / 65536)
  if on 0 then dstOffset y (s.parN 0x311) (s.parN 0x312) l
  else if on 1 then dstOffset y (s.parN 0x314) (s.parN 0x315) l
  else 0

/-- Local minute at a minute of local standard time. -/
def State.localMin (s : State) (l : Int) : Int := l + s.dst l

/-- The latest local minute that local time has reached (R309): a repeated hour reaches nothing new. -/
def State.reachedMin (s : State) (l : Int) : Int :=
  (List.range 121).foldl (fun m i => max m (s.localMin (l - (i : Nat)))) (s.localMin l)

/-- The first minute of local standard time at which local time reaches or passes a local minute (R309). -/
def State.reach (s : State) (x : Int) : Int :=
  match (List.range 121).find? fun i => decide (x ≤ s.localMin (x - 120 + (i : Nat))) with
  | some i => x - 120 + (i : Nat)
  | none => x

/-! ## Calendars (R312 to R314) -/

/-- The used switch points of a day profile. -/
def usedPoints (d : List DayPoint) : List DayPoint := d.filter fun p => p.minute != 0xFFFF

/-- The day profile of a local date (R313). -/
def Calendar.profile (c : Calendar) (day : Int) : Nat :=
  let (y, m, d) := civil day
  match c.special.find? fun e => e.2.1 == m && e.2.2.1 == d && (e.1 == 0 || e.1 == y) with
  | some e => e.2.2.2
  | none =>
    let before := c.seasons.filter fun e => decide (e.1 * 32 + e.2.1 ≤ m * 32 + d)
    let week := match before.getLast? with
      | some e => e.2.2
      | none => match c.seasons.getLast? with
        | some e => e.2.2
        | none => 0
    (c.weeks.getD week []).getD (weekday day) 0

/-- The rate and friendly state at a local minute (R313). -/
def Calendar.stateAt (c : Calendar) (x : Int) : Nat × Bool :=
  let ps := usedPoints (c.days.getD (c.profile (x / 1440)) [])
  match (ps.filter fun p => decide ((p.minute : Int) ≤ x % 1440)).getLast? with
  | some p => (p.rate, p.friendly)
  | none => (1, false)

/-- A season, week, day profile, special entry read from a calendar's bytes (R312). -/
def parseCalendar (bs : List Byte) : Calendar :=
  { calId := fld bs 6 2, activate := fld bs 8 6, billDay := fld bs 16 1, billMinute := fld bs 18 2
    seasons := (List.range (fld bs 20 1)).map fun i =>
      (fld bs (32 + 4 * i) 1, fld bs (33 + 4 * i) 1, fld bs (34 + 4 * i) 1)
    weeks := (List.range 8).map fun i => (List.range 7).map fun j => fld bs (48 + 8 * i + j) 1
    days := (List.range 16).map fun i => (List.range 12).map fun j =>
      let o := 112 + 48 * i + 4 * j
      { minute := fld bs o 2, rate := fld bs (o + 2) 1, friendly := bit (fld bs (o + 3) 1) 0 }
    special := (List.range (fld bs 21 1)).map fun i =>
      let o := 880 + 8 * i
      (fld bs o 2, fld bs (o + 2) 1, fld bs (o + 3) 1, fld bs (o + 4) 1)
    prices := (List.range 8).map fun i => fld bs (1392 + 4 * i) 4 }

/-- The first check of a list that fails, by the byte offset it names. -/
def firstBad : List (Nat × Bool) → Option Nat
  | [] => none
  | c :: r => if c.2 then firstBad r else some c.1

/-- A date that exists in some year; the year 0 admits 29 February. -/
def dateOk (y m d : Nat) : Bool := within 1 12 m && within 1 (monthDays (if y = 0 then 2000 else y) m) d

/-- The checks of one day profile that a week or special entry names (R314). -/
def dayChecks (bs : List Byte) (i : Nat) : List (Nat × Bool) :=
  let o := 112 + 48 * i
  let minute := fun j => fld bs (o + 4 * j) 2
  (o, minute 0 == 0) :: ((List.range 12).map fun j =>
    let used := minute j != 0xFFFF
    [(o + 4 * j, !used || decide (minute j < 1440)),
     (o + 4 * j, j == 0 || !used || (minute (j - 1) != 0xFFFF && decide (minute (j - 1) < minute j))),
     (o + 4 * j + 2, !used || within 1 8 (fld bs (o + 4 * j + 2) 1)),
     (o + 4 * j + 3, decide (fld bs (o + 4 * j + 3) 1 < 2))]).flatten

/-- The offset of the first field of a calendar that fails R312 or R314, in the order of the offsets of its parts. -/
def calendarFails (bs : List Byte) (plan : Nat) : Option Nat :=
  let ns := fld bs 20 1
  let np := fld bs 21 1
  let season := fun i => fld bs (32 + 4 * i) 1 * 32 + fld bs (33 + 4 * i) 1
  let head := [(0, fld bs 0 2 == 0xCB && bs.length == 1424), (2, fld bs 2 2 == 1424), (4, fld bs 4 1 == plan),
    (5, isZero bs 5 1), (14, isZero bs 14 2), (16, decide (fld bs 16 1 ≤ 28)), (17, isZero bs 17 1),
    (18, decide (fld bs 18 2 < 1440)), (20, within 1 4 ns), (21, decide (np ≤ 64)), (22, isZero bs 22 10)]
  let seasons := ((List.range (min 4 ns)).map fun i =>
    [(32 + 4 * i, dateOk 0 (fld bs (32 + 4 * i) 1) (fld bs (33 + 4 * i) 1) && season i != 2 * 32 + 29
        && (i == 0 || decide (season (i - 1) < season i))),
     (34 + 4 * i, decide (fld bs (34 + 4 * i) 1 ≤ 7)), (35 + 4 * i, isZero bs (35 + 4 * i) 1)]).flatten
    ++ ((List.range 4).drop ns).map fun i => (35 + 4 * i, isZero bs (35 + 4 * i) 1)
  let weeks := ((List.range 8).map fun i => ((List.range 7).map fun j =>
    (48 + 8 * i + j, decide (fld bs (48 + 8 * i + j) 1 ≤ 15))) ++ [(55 + 8 * i, isZero bs (55 + 8 * i) 1)]).flatten
  let named := ((List.range 8).map fun i => (List.range 7).map fun j => fld bs (48 + 8 * i + j) 1).flatten
    ++ (List.range (min 64 np)).map fun i => fld bs (884 + 8 * i) 1
  let days := ((List.range 16).map fun i => if named.contains i then dayChecks bs i
    else (List.range 12).map fun j => (112 + 48 * i + 4 * j + 3, decide (fld bs (112 + 48 * i + 4 * j + 3) 1 < 2))).flatten
  let special := ((List.range (min 64 np)).map fun i =>
    [(882 + 8 * i, dateOk (fld bs (880 + 8 * i) 2) (fld bs (882 + 8 * i) 1) (fld bs (883 + 8 * i) 1)),
     (884 + 8 * i, decide (fld bs (884 + 8 * i) 1 ≤ 15)), (885 + 8 * i, isZero bs (885 + 8 * i) 3)]).flatten
    ++ ((List.range 64).drop np).map fun i => (885 + 8 * i, isZero bs (885 + 8 * i) 3)
  firstBad (head ++ seasons ++ weeks ++ days ++ special)

/-! ## Settings of demand and profile (R323, R338) -/

/-- The setting in force at a device time: index 0 to 3 TT_DEMAND, 4 to 7 TT_PROFILE. -/
def State.interval (s : State) (i : Nat) (t : Int) : Nat :=
  match (s.tariff.intervals.filter fun e => e.1 == i && decide (e.2.1 ≤ t)).getLast? with
  | some e => e.2.2
  | none => if i < 4 then 0x15 else 0x05

/-- The demand interval in minutes and S of a plan at a device time (R323). -/
def State.demandSetting (s : State) (plan : Nat) (t : Int) : Nat × Nat :=
  let v := s.interval plan t
  (intervalMinutes (v % 16), max 1 (v / 16 % 16))

/-- The subinterval in minutes. -/
def State.subMinutes (s : State) (plan : Nat) (t : Int) : Nat :=
  let d := s.demandSetting plan t
  max 1 (d.1 / d.2)

/-- The profile interval in minutes. -/
def State.profMinutes (s : State) (plan : Nat) (t : Int) : Nat := intervalMinutes (s.interval (4 + plan) t % 16)

/-! ## The entries of a span of device time (R309, R310, R316 to R318) -/

/-- One boundary of a plan before it becomes an entry: device time, kinds, and the state from it where it sets one. -/
structure Mark where
  time : Int
  kinds : Nat
  state : Option (Nat × Bool) := none
  deriving DecidableEq, Repr

/-- Two sorted lists merged, equal times joined; `n` bounds the length. -/
def mergeMarks : Nat → List Mark → List Mark → List Mark
  | 0, a, b => a ++ b
  | _ + 1, [], b => b
  | _ + 1, a, [] => a
  | n + 1, x :: a, y :: b =>
    if x.time < y.time then x :: mergeMarks n a (y :: b)
    else if y.time < x.time then y :: mergeMarks n (x :: a) b
    else { time := x.time, kinds := x.kinds ||| y.kinds
           state := match y.state with
             | some v => some v
             | none => x.state } :: mergeMarks n a b

/-- The two merged. -/
def mergeAll (a b : List Mark) : List Mark := mergeMarks (a.length + b.length) a b

/-- The demand and profile ends of a plan in (from, to] (R310). -/
def State.intervalMarks (s : State) (plan : Nat) (from_ upTo : Int) : List Mark :=
  let l0 := s.standardMin from_
  (List.range ((s.standardMin upTo - l0).toNat + 1)).filterMap fun i =>
    let l := l0 + (i : Nat)
    let t := s.timeOfMin l
    let k := 2 * b2n (l % (s.subMinutes plan (t - 1) : Nat) == 0) + 4 * b2n (l % (s.profMinutes plan (t - 1) : Nat) == 0)
    if decide (from_ < t) && decide (t ≤ upTo) && k != 0 then some { time := t, kinds := k } else none

/-- The local days that a span of device time touches. -/
def State.spanDays (s : State) (from_ upTo : Int) : List Int :=
  let d0 := (s.standardMin from_) / 1440 - 1
  (List.range ((s.standardMin upTo / 1440 + 1 - d0).toNat + 1)).map fun i => d0 + (i : Nat)

/-- The switch points of a calendar in [from, to], in order, with the state that holds from each (R309, R313). -/
def State.switchMarks (s : State) (c : Calendar) (from_ upTo : Int) : List Mark :=
  ((s.spanDays from_ upTo).map fun d =>
    (usedPoints (c.days.getD (c.profile d) [])).filterMap fun p =>
      let l := s.reach (d * 1440 + (p.minute : Nat))
      let t := s.timeOfMin l
      if from_ ≤ t ∧ t ≤ upTo then some { time := t, kinds := 0, state := some (c.stateAt (s.reachedMin l)) } else none).flatten

/-- The billing ends of a calendar in [from, to] (R326). -/
def State.billMarks (s : State) (c : Calendar) (from_ upTo : Int) : List Mark :=
  if c.billDay = 0 then []
  else (s.spanDays from_ upTo).filterMap fun d =>
    if (civil d).2.2 = c.billDay then
      let t := s.timeOfMin (s.reach (d * 1440 + (c.billMinute : Nat)))
      if from_ ≤ t ∧ t ≤ upTo then some { time := t, kinds := 8 } else none
    else none

/-- The marks of one calendar. -/
def State.calMarks (s : State) (c : Calendar) (from_ upTo : Int) : List Mark :=
  mergeAll (s.switchMarks c from_ upTo) (s.billMarks c from_ upTo)

/-- The activation time of a plan's passive calendar, when it has an instant (R316). -/
def State.activationTime (s : State) (p : Plan) : Option (Int × Calendar) :=
  match p.activateAt, p.passive with
  | some n, some c => some (if c.activate = 0 then s.timeOf n else (c.activate : Int), c)
  | _, _ => none

/-- The calendar marks of a plan in (from, to]: with the active calendar up to an activation and with the passive one
from it; a billing end of either calendar falls at the activation itself (R316). -/
def State.planCalMarks (s : State) (plan : Nat) (from_ upTo : Int) : List Mark :=
  let p := s.plan plan
  let old := fun a b => match p.active with
    | some c => s.calMarks c a b
    | none => []
  match s.activationTime p with
  | some (t, c) =>
    if from_ < t ∧ t ≤ upTo then
      let here := (old t t ++ s.calMarks c t t).any fun m => bit m.kinds 3
      let act : Mark := { time := t, kinds := 16 + 8 * b2n here, state := some (c.stateAt (s.reachedMin (s.standardMin t))) }
      ((old (from_ + 1) (t - 1)) ++ [act]) ++ s.calMarks c (t + 1) upTo
    else if t ≤ from_ then s.calMarks c (from_ + 1) upTo
    else old (from_ + 1) upTo
  | none => old (from_ + 1) upTo

/-- Marks turned into entries: a rate switch or friendly edge is kept only where the state changes (R317). `keep` masks the
kinds. -/
def State.toEntries (s : State) (plan keep : Nat) : Nat × Bool → List Mark → List Entry
  | _, [] => []
  | v, m :: r =>
    let w := m.state.getD v
    let k := (m.kinds ||| b2n (w.1 != v.1) ||| (32 * b2n (w.2 != v.2))) &&& keep
    let rest := s.toEntries plan keep w r
    if k = 0 then rest
    else { instant := s.instantOf m.time, time := m.time, plan := plan, kinds := k, rate := w.1, friendly := w.2 } :: rest

/-- The entries of one plan in (from, to], starting from a state; `keep` masks the kinds. -/
def State.planEntries (s : State) (plan : Nat) (from_ upTo : Int) (v : Nat × Bool) (keep : Nat) : List Entry :=
  let cal := s.planCalMarks plan from_ upTo
  let ms := if keep &&& 6 = 0 then cal else mergeAll cal (s.intervalMarks plan from_ upTo)
  s.toEntries plan keep v ms

/-- An entry placed in a table by instant, then by time and plan. -/
def placeEntry (e : Entry) : List Entry → List Entry
  | [] => [e]
  | x :: r =>
    if e.instant < x.instant ∨ (e.instant = x.instant ∧ (e.time < x.time ∨ (e.time = x.time ∧ e.plan < x.plan))) then
      e :: x :: r
    else x :: placeEntry e r

/-- Entries merged into a table. -/
def placeEntries (es t : List Entry) : List Entry := es.foldl (fun t e => placeEntry e t) t

/-- The state that holds for a plan after the entries kept in the table. -/
def State.stateAfter (s : State) (kept : List Entry) (plan : Nat) : Nat × Bool :=
  match (kept.filter fun e => e.plan == plan && !e.command).getLast? with
  | some e => (e.rate, e.friendly)
  | none => ((s.plan plan).rate, (s.plan plan).friendly)

/-- The table rewritten to 48 h ahead from what is not yet frozen, and for one plan from a cut on: a plan, an instant and its
device time (R316, R318). What lies beyond the table's former end and is already past enters as late (R319); of the cut's
past only what the calendar gives, since its intervals have run. -/
def State.refillFrom (s : State) (cut : Option (Nat × Nat × Int)) : State :=
  let t := s.tariff
  let gone := fun (e : Entry) => cut.any fun c => e.plan == c.1 && !e.command && decide (c.2.1 ≤ e.instant)
  let kept := t.table.filter fun e =>
    (e.frozen || e.command || decide (e.instant ≤ s.now + 131072)) && !gone e
  let edge := s.timeOf (s.now + 131072)
  let base := if t.tableEnd = 0 then s.time else min t.tableEnd edge
  let from_ := fun p => match cut with
    | some c => if c.1 = p then min base (c.2.2 - 1) else base
    | none => base
  let upTo := s.time + 48 * 3600 * 65536
  let es := ((List.range 4).map fun p => s.planEntries p (from_ p) upTo (s.stateAfter kept p) 63).flatten
  let es := es.map fun e =>
    if s.now < e.instant then e
    else { e with late := true, kinds := if e.time ≤ base then e.kinds &&& 57 else e.kinds }
  s.onTariff fun t => { t with table := (placeEntries (es.filter fun e => e.kinds != 0) kept).take 32768, tableEnd := upTo }

/-- The table rewritten from what is not yet frozen (R318). -/
def State.refillTable (s : State) : State := s.refillFrom none

end Sys2Proof.Machine
end

