-- ==== Sys2Proof/Machine/Boundary.lean ====
section
/-! DEFINITION. Boundary commits (R319 to R322): the closing of subintervals and profile intervals, rate switches, billing
snapshots, and the rows that carry a commit from the table to its record. -/
namespace Sys2Proof.Machine

/-! ## The points that a commit concerns (R320, R329) -/

/-- Whether an entry of a commit concerns a point: it is of the point's plan, or a command that names it; a point takes only one
snapshot where a calendar entry and a command fall together (R329). -/
def Commit.concerns (c : Commit) (e : Entry) (plan m : Nat) : Bool :=
  if e.command then
    e.points.contains m && !(c.entries.any fun x => !x.command && x.plan == plan && bit x.kinds 3 && x.instant == e.instant)
  else e.plan == plan

/-- Whether no cycle of a point has opened since its binding (R320). -/
def Point.unopened (p : Point) : Bool := p.sEnd == 0 && p.slots.isEmpty

/-- The rate and friendly state that the entries of a commit give a plan (R320). -/
def Point.takeState (p : Point) (m plan : Nat) (c : Commit) : Point :=
  c.entries.foldl (fun p e =>
    if c.concerns e plan m && e.kinds &&& 49 != 0 then { p with rate := e.rate, friendly := e.friendly } else p) p

/-! ## Legal registers (R262) -/

/-- The legal register and the wrap count of a total under a value of EN_LEGAL_FORMAT. -/
def legalOf (fmt t : Nat) : Nat × Nat :=
  let u := 10 ^ (4 + bits fmt 4 2)
  let d := 10 ^ (fmt % 16)
  (t / u % d, t / u / d % 65536)

/-- LEGAL_IMP, LEGAL_EXP, WRAPS_IMP, WRAPS_EXP of a point. -/
def State.legal (s : State) (m : Nat) : List Nat :=
  let f := s.parN 0x140
  let a := legalOf f ((s.point m).reg.getD 0 0)
  let b := legalOf f ((s.point m).reg.getD 1 0)
  [a.1, b.1, a.2, b.2]

/-! ## Demand (R323, R324) -/

/-- The flag SHORT or LONG of a span that should last some minutes (R323). -/
def lengthFlag (span : Int) (minutes : Nat) : Nat :=
  if span < minutes * 3932160 then 8 else if (minutes * 3932160 : Int) < span then 16 else 0

/-- A maximum replaced when a window's demand is strictly greater (R324). -/
def raiseMax (l : List (Nat × Nat)) (i d t : Nat) : List (Nat × Nat) :=
  l.modify i fun x => if x.1 < d then (d, t) else x

/-- The flags that a boundary commit gives to what it closes. -/
def Commit.closeFlags (c : Commit) : Nat := 4 * b2n c.step + 2 * b2n (bit c.flags 2) + 32 * b2n (bit c.flags 0)

/-- The running subinterval of a point closes at a device time (R323, R324). True when the total maximum rises. -/
def State.closeSub (s : State) (m plan : Nat) (c : Commit) (t : Int) : State × Bool :=
  let p := s.point m
  let (len, n) := s.demandSetting plan (t - 1)
  let closed := incSat 8 p.subClosed
  let fl := p.subFlags ||| c.closeFlags ||| lengthFlag (t - p.subTime) (s.subMinutes plan (t - 1)) ||| (64 * b2n (decide (closed < n)))
  let hist := ((p.demandAcc, fl) :: p.history).take 15
  let win := hist.take n
  let e := (win.map fun h => h.1).sum
  let d := satN 32 (roundDivN (e * 3600) (len * 60))
  let wfl := win.foldl (fun f h => f ||| h.2) 0
  let compete := wfl &&& 68 == 0
  let at_ := secondsOf t
  let new := compete && decide ((p.maxDem.getD 0 (0, 0)).1 < d)
  (s.onPoint m fun p => { p with
    history := hist, subClosed := closed, demandAcc := 0, subFlags := 4 * b2n c.step, subTime := t
    maxDem := if compete then raiseMax (raiseMax p.maxDem 0 d at_) p.rate d at_ else p.maxDem }, new)

/-! ## Profile (R330, R383, R384) and daily charge (R341) -/

/-- Whether credit and billing run for the effective mode, and deduction for the point's policy. -/
def State.dailyCharge (s : State) (m : Nat) (t : Int) (exec : Nat) : State :=
  let p := s.point m
  let l := p.ledger
  let day := s.standardMin t / 1440
  if s.isBilling m && s.billing && !l.policy.getLsbD 0 && l.daily != 0 && !p.frozenAt exec && decide (l.lastDay < day)
      && s.standardMin t % 1440 == 0 then
    let n := (day - l.lastDay).toNat
    ((s.onLedger m fun l => { l with lastDay := day }).setCredit m (l.credit - n * l.daily) false).writePoint m 3
  else s

/-- The profile interval of a point closes at a device time (R330). -/
def State.closeProfile (s : State) (m plan : Nat) (c : Commit) (t : Int) : State :=
  let p := s.point m
  let imp := p.reg.getD 0 0 / 10 - p.profStart0 / 10
  let exp := p.reg.getD 1 0 / 10 - p.profStart1 / 10
  let fl := (p.profFlags ||| c.closeFlags ||| lengthFlag (t - p.profTime) (s.profMinutes plan (t - 1))) % 64
    + 64 * b2n p.profFirst + 128 * b2n (decide (2 ^ 24 ≤ imp) || decide (2 ^ 24 ≤ exp)) + 256 * b2n s.clock.timeUnset
    + 512 * b2n (s.effMode == .commission) + 1024 * (p.rate - 1)
  let r : Profile := { endTime := secondsOf t, imp := satN 24 imp, exp := satN 24 exp, flags := fl }
  let q := p.pseq
  let s := s.q12 [.profile m q r]
  let wrap := decide (s.ringLen ≤ q) && decide (p.pmark ≤ q - s.ringLen) && !p.wrapRaised
  let s := s.onPoint m fun p => { p with
    pseq := (q + 1) % 2 ^ 32, pend := secondsOf t, profStart0 := p.reg.getD 0 0, profStart1 := p.reg.getD 1 0
    profFlags := 4 * b2n c.step, profTime := t, profFirst := false, wrapRaised := p.wrapRaised || wrap }
  if wrap then s.raise 36 2 m (le 1 m ++ le 4 (q - s.ringLen)) else s

/-! ## Billing (R326, R327) -/

/-- The credit part of a snapshot (R356). -/
def Ledger.creditFlags (l : Ledger) : Nat :=
  b2n (l.policy.getLsbD 0) + 2 * l.ec.num + 8 * b2n l.open_ + 16 * b2n (l.policy.getLsbD 2)

/-- A snapshot taken, with the maxima reset behind it (R326, R327). -/
def State.takeSnapshot (s : State) (m : Nat) (c : Commit) (e : Entry) : State :=
  let p := s.point m
  let n := p.billCount + 1
  let q := if p.snapCount = 0 then p.sseq else (p.sseq + 1) % 2 ^ 32
  let r : Snapshot := {
    mp := m, cause := b2n e.command
    plan := match p.bind with
      | some b => b.plan
      | none => e.plan
    flags := p.billFlags + 8 * b2n (bit c.flags 2) + 16 * b2n (bit c.flags 1) + 32 * b2n (bit c.flags 0)
      + 64 * b2n s.clock.timeUnset
    billCount := n
    bindSeq := match p.bind with
      | some b => b.seq
      | none => 0
    startTime := p.billStart, endTime := e.time, endSample := c.exec, bcSeq := c.seq, estCycles := p.estCycles
    reg := p.reg, legal := s.legal m, maxDem := p.maxDem, credit := p.ledger.credit, h := p.ledger.h
    creditFlags := p.ledger.creditFlags, sseq := q }
  let s := s.q12 [.snapshot r]
  let s := s.onPoint m fun p => { p with
    maxDem := List.replicate 9 (0, 0), billCount := n, billStart := e.time, billFlags := 0, snapEst := false, sseq := q
    snapCount := p.snapCount + 1 }
  if bit (s.parN 0x304) 0 then s.onTariff fun t => { t with signQueue := t.signQueue ++ [(m, q)] } else s

/-! ## The steps of one point (R320) -/

/-- The commit in progress with a number changed. -/
def State.onCommit (s : State) (q : Nat) (f : Commit → Commit) : State :=
  s.onTariff fun t => { t with commits := t.commits.map fun c => if c.seq = q then f c else c }

/-- A point is counted off a BILLING_CLOSE whose instant is that of a commit; the reply of a close without points left is
released (R329). -/
def State.closeDone (s : State) (m instant : Nat) (took : Bool) : State :=
  let mark := fun (x : CloseReq) =>
    if x.instant = instant ∧ x.left.contains m = true then
      { x with left := x.left.filter fun k => k != m, snaps := x.snaps + b2n took } else x
  let all := s.tariff.closes.map mark
  let s := s.onTariff fun t => { t with closes := all.filter fun x => !x.left.isEmpty }
  (all.filter fun x => x.left.isEmpty).foldl (fun s x =>
    s.onWaiting x.port .close fun r =>
      { r with payload := sample8 x.instant ++ le 2 x.snaps ++ zeros 6, wait := .none }) s

/-- Steps 2 to 5 of one entry for a point of its plan. -/
def State.entrySteps (s : State) (m : Nat) (c : Commit) (e : Entry) : State :=
  let (s, new) := if bit e.kinds 1 then s.closeSub m e.plan c e.time else (s, false)
  let s := if new then s.onCommit c.seq fun c => { c with newMax := union c.newMax [m] } else s
  let s := if bit e.kinds 2 then (s.closeProfile m e.plan c e.time).dailyCharge m e.time c.exec else s
  let s := if e.kinds &&& 49 = 0 then s else s.onPoint m fun p => { p with rate := e.rate, friendly := e.friendly }
  if bit e.kinds 3 then
    let took := s.billing
    let s := if took then
        (s.takeSnapshot m c e).onCommit c.seq fun c => { c with snapshots := c.snapshots + 1 } else s
    s.closeDone m c.instant took
  else s

/-- Steps 2 to 5 of a commit for one point (R320, R333, R334). -/
def State.pointSteps (s : State) (m : Nat) (c : Commit) : State :=
  match (s.point m).bind with
  | none => s
  | some b =>
    let s := if c.step then ((s.closeSub m b.plan c c.time).1).closeProfile m b.plan c c.time else s
    let s := c.entries.foldl (fun s e => if c.concerns e b.plan m then s.entrySteps m c e else s) s
    let s := if c.step then s.onPoint m fun p => { p with
        subTime := s.timeOf c.exec, profTime := s.timeOf c.exec, billFlags := p.billFlags ||| 4 } else s
    s.onPoint m fun p => { p with boundaryDone := c.seq }

/-- The split sample of a commit for a point: EXEC when the commit is late for it (R319). -/
def State.splitOf (s : State) (c : Commit) (m : Nat) : Nat :=
  if bit c.flags 0 && decide (c.instant ≤ (s.point m).sEnd) then c.exec else c.instant

/-- The commits in progress whose steps a point still owes, in order. -/
def State.owed (s : State) (m : Nat) : List Commit :=
  s.tariff.commits.filter fun c => c.waiting.contains m && decide ((s.point m).boundaryDone < c.seq)

/-- The steps that a point runs before a segment that begins at a sample is applied (R320). -/
def State.stepsBefore (s : State) (m from_ : Nat) : State :=
  (s.owed m).foldl (fun s c => if s.splitOf c m ≤ from_ then s.pointSteps m c else s) s

/-- The steps that a point runs directly after a segment that ends at a sample (R320). -/
def State.stepsAfter (s : State) (m last : Nat) : State :=
  (s.owed m).foldl (fun s c => if c.instant = last then s.pointSteps m c else s) s

/-- The commits that a point passes by a segment that begins at a sample. -/
def State.passCommits (s : State) (m from_ : Nat) : State :=
  s.onTariff fun t => { t with commits := t.commits.map fun c =>
    if c.instant ≤ from_ ∧ c.seq ≤ (s.point m).boundaryDone then
      { c with waiting := c.waiting.filter fun k => k != m } else c }

/-! ## From the table to a commit -/

/-- The points that an instant affects (R320): bound, named, and with a first cycle that opened at or before it. Where the first
cycle is not open yet and cycles are still opening (`live`), a point whose START has come counts until its first cycle shows
otherwise. -/
def State.affected (s : State) (instant : Nat) (live : Bool) (names : Nat → Nat → Bool) : List Nat :=
  (List.range s.nMp).filter fun m =>
    let p := s.point m
    match p.bind with
    | some b => names m b.plan && !(p.slots.isEmpty && p.unbindAt.isSome)
        && (p.sEnd != 0 || (p.slots.any fun x => decide (x.first ≤ instant))
          || (live && p.unopened && decide (b.start ≤ instant)))
    | none => false

/-- The points that a commit can no longer affect because their first cycle opens after it take its rate and friendly state at
once: the rate of their first segment is that in force at its first slot (R258, R320). -/
def State.aheadState (s : State) (c : Commit) : State :=
  { s with points := s.points.mapIdx fun m p => match p.bind with
      | some b => if p.unopened && !c.waiting.contains m then p.takeState m b.plan c else p
      | none => p }

/-- The kinds of an entry that are not skipped (R334): those whose TIME lies after the last executed one. -/
def State.liveKinds (s : State) (e : Entry) : Nat :=
  if e.command then e.kinds
  else maskOf ((bitsSet e.kinds 6).filter fun k =>
    decide (((s.tariff.lastExec.getD k []).getD e.plan (-1)) < e.time))

/-- The active calendar of each plan that an entry activates (R316). -/
def State.activatePlan (s : State) (e : Entry) (exec : Nat) : State :=
  if bit e.kinds 4 then
    (s.onTariff fun t => { t with plans := upd t.plans e.plan fun p =>
      { p with active := p.passive, passive := none, activateAt := none, old := some (exec, p.active) } }).raise 34 0 0 []
  else s

/-- The rate and friendly state of a plan from an entry on. -/
def State.planState (s : State) (e : Entry) : State :=
  if e.kinds &&& 49 = 0 then s
  else s.onTariff fun t => { t with plans := upd t.plans e.plan fun p => { p with rate := e.rate, friendly := e.friendly } }

/-- A boundary commit opened for entries in time order (R320): skipped kinds leave, plans change, points are named. -/
def State.openCommit (s : State) (c : Commit) (es : List Entry) (live : Bool := false) : State :=
  let es := (es.map fun e => { e with kinds := s.liveKinds e }).filter fun e => e.kinds != 0
  if es.isEmpty && !c.step then s
  else
    let s := es.foldl (fun s e => (s.activatePlan e c.exec).planState e) s
    let names := fun m plan => c.step || es.any fun e => if e.command then e.points.contains m else e.plan == plan
    let pts := s.affected c.instant live names
    let n := s.tariff.bcSeq + 1
    let c := { c with seq := n, entries := es, waiting := pts, points := pts.length }
    (s.onTariff fun t => { t with bcSeq := n, commits := t.commits ++ [c] }).aheadState c

/-- The flags of a commit that hold of every commit at its time. -/
def State.commonFlags (s : State) : Nat := 16 * b2n s.clock.timeUnset + 32 * b2n (s.effMode == .commission)

/-- The entries whose instant has come leave the table, one commit for each instant (R320, R319). -/
def State.openDue : Nat → State → State
  | 0, s => s
  | n + 1, s =>
    match s.tariff.table with
    | [] => s
    | e :: _ =>
      if s.now < e.instant then s
      else
        let same := fun (x : Entry) => x.instant == e.instant
        let es := s.tariff.table.filter same
        let late := es.any fun x => x.late
        let s := s.onTariff fun t => { t with table := t.table.filter fun x => !same x }
        State.openDue n (s.openCommit {
          instant := e.instant, time := e.time, exec := if late then s.now else e.instant
          flags := s.commonFlags + b2n late } es true)

/-- Every due entry. -/
def State.openDueAll (s : State) : State := s.openDue s.tariff.table.length

/-! ## The end of a commit (R320, R322) -/

/-- The last executed TIME of each kind and plan after an entry. -/
def execTimes (l : List (List Int)) (e : Entry) : List (List Int) :=
  if e.command then l
  else (bitsSet e.kinds 6).foldl (fun l k => upd l k fun r => upd r e.plan fun t => max t e.time) l

/-- The boundary commit record (R322). -/
def State.commitRecord (s : State) (c : Commit) : BcRec :=
  { seq := c.seq, instant := c.instant, time := c.time, exec := c.exec
    kinds := (List.range 4).map fun p =>
      (if c.step then 6 else 0) ||| (c.entries.filter fun e => e.plan == p).foldl (fun k e => k ||| e.kinds) 0
    states := (List.range 4).map fun p =>
      match (c.entries.filter fun e => e.plan == p).getLast? with
      | some e => e.rate + 16 * b2n e.friendly
      | none => (s.plan p).rate + 16 * b2n (s.plan p).friendly
    flags := c.flags, points := c.points, snapshots := c.snapshots }

/-- A commit that every point has passed: its record, the sequencer's record and the events. -/
def State.finishCommit (s : State) (c : Commit) : State :=
  let s := s.onTariff fun t => { t with
    commits := t.commits.filter fun x => x.seq != c.seq
    lastExec := c.entries.foldl execTimes t.lastExec
    plans := t.plans.map fun p => match p.old with
      | some o => if o.1 = c.exec then { p with old := none } else p
      | none => p }
  let sr : SeqRec := { lastExec := s.tariff.lastExec, closes := s.tariff.table.filter fun e => e.command }
  let r := s.commitRecord c
  let s := (s.q12 [.sequencer sr, .boundary r false]).q12 [.boundary r true]
  let s := s.raise 32 0 0 []
  let s := if c.snapshots = 0 then s else s.raise 33 0 0 []
  if c.newMax.isEmpty then s
  else s.raise 35 0 0 (le 4 c.newMax.length ++ le 1 (c.newMax.foldl min 255))

/-- A commit without the points that are bound no longer or have closed their last cycle. -/
def State.pruneCommit (s : State) (c : Commit) : Commit :=
  { c with waiting := c.waiting.filter fun m =>
      let p := s.point m
      p.bind.isSome && !(p.unbindAt.isSome && p.slots.isEmpty) }

/-- BOUNDARY_COMMIT (R320): every commit that all affected points have passed is recorded. -/
def State.finishCommits (s : State) : State :=
  let s := s.onTariff fun t => { t with commits := t.commits.map s.pruneCommit }
  (s.tariff.commits.filter fun c => c.waiting.isEmpty).foldl State.finishCommit s

/-! ## The rows of the table -/

/-- Instants computed again for entries that are not frozen (R307). -/
def State.refine (s : State) : State :=
  s.onTariff fun t => { t with
    table := placeEntries ((t.table.filter fun e => !e.frozen && !e.command).map fun e => { e with instant := s.instantOf e.time })
      (t.table.filter fun e => e.frozen || e.command) }

/-- BOUNDARY_FREEZE (R307): entries within 131 072 samples freeze. -/
def execBoundaryFreeze (s : State) : Host.Outcome State Fault Refusal :=
  .next (s.onTariff fun t => { t with
    table := t.table.map fun e => if e.instant ≤ s.now + 131072 then { e with frozen := true } else e })

/-- The span covered ahead in seconds (R318, R337). -/
def State.horizonS (s : State) : Nat :=
  match s.tariff.table.getLast? with
  | some e => ((e.time - s.time) / 65536).toNat
  | none => 0

/-- BOUNDARY_TABLE_LOW (R318): raised when the span falls below TT_TABLE_LOW, and every hour while it stays below. -/
def execBoundaryTableLow (s : State) : Host.Outcome State Fault Refusal :=
  .next (if s.storeOn = false ∨ (s.mode.mode = .boot ∧ s.cp.st ≠ .ready) ∨ s.parN 0x303 * 3600 ≤ s.horizonS then s
    else
      let due := match s.tariff.lowAt with
        | none => true
        | some t => decide (t + 460800000 ≤ s.now)
      if due then (s.onTariff fun t => { t with tableLow := true, lowAt := some s.now }).raise 38 0 0 [] else s)

/-! ## Demand reset (R325) -/

/-- The reset of one point's maxima, with the record of the values before. -/
def State.resetDemand (s : State) (m : Nat) : State :=
  let vs := (s.point m).maxDem
  (s.note s.now 0x42 2 m ((vs.map fun v => le 4 v.1 ++ le 4 v.2).flatten)).onPoint m fun p =>
    { p with maxDem := List.replicate 9 (0, 0) }

/-- The demand resets of a round boundary, with their replies. -/
def State.applyDemandResets (s : State) : State :=
  let rs := s.tariff.demReset
  rs.foldl (fun s r =>
    let s := r.1.foldl (fun s m => if (s.point m).bind.isSome then s.resetDemand m else s) s
    match r.2 with
    | some p => s.onWaiting p .round fun x =>
        { x with payload := le 2 r.1.length ++ zeros 6 ++ sample8 s.now, wait := .none }
    | none => s) (s.onTariff fun t => { t with demReset := [] })

end Sys2Proof.Machine
end

