-- ==== Sys2Proof/Machine/Takeback.lean ====
section
/-! DEFINITION. Takebacks and questioned marks (R233 to R236). -/
namespace Sys2Proof.Machine

/-- QUESTIONED records for the committed cycles of a point that a trigger meets (R235), oldest first. -/
def State.question (s : State) (m code : Nat) (hit : Nat → Nat → Bool) : State :=
  ((s.point m).recent.filter fun c => hit c.2.1 c.2.2).reverse.foldl (fun s c =>
    (s.note s.now 0x40 2 m (le 1 m ++ le 4 c.1 ++ le 1 code)).onEngine fun e =>
      { e with questioned := incSat 32 e.questioned }) s

/-- One occurrence counted in its span of 128 000 slots, with EV_TAKEBACK_STORM at the eleventh (R236). -/
def State.countTakeback (s : State) : State :=
  let span := s.now / 128000
  let rate := s.takebackRate
  let s := s.onEngine fun e =>
    if e.span = span then e else { e with span := span, rate := rate, spanCount := 0, stormed := false }
  let s := s.onEngine fun e => { e with takebacks := incSat 32 e.takebacks, spanCount := e.spanCount + 1 }
  if 11 ≤ s.engine.spanCount ∧ s.engine.stormed = false then
    (s.onEngine fun e => { e with stormed := true }).raise 21 0 0 (le 4 s.engine.spanCount)
  else s

/-- A trigger of R233 for points of which `pts` holds, with the spans it meets: `hit` of the first slot and of the slot after
the last so far. The pending cycles it meets are discarded, to be computed again in the next round (R217), in lean metering marked
questioned instead (R231); committed cycles are marked questioned (R235). -/
def State.takeback (s : State) (code : Nat) (pts : Nat → Bool) (hit : Nat → Nat → Bool) : State :=
  let s := s.boundPoints.foldl (fun s m => if pts m then s.question m code hit else s) s
  let meets := fun (x : PendSlot) => hit x.first (x.close.getD s.engine.runAhead)
  let ms := s.boundPoints.filter fun m => pts m && (s.point m).slots.any meets
  if ms.isEmpty then s
  else if s.power.lean then
    ms.foldl (fun s m => ((s.point m).slots.filter meets).foldl (fun s x =>
      (s.note s.now 0x40 2 m (le 1 m ++ le 4 x.cycle ++ le 1 (code + 128))).onEngine fun e =>
        { e with questioned := incSat 32 e.questioned }) s) s
  else
    let cycles := (ms.map fun m => ((s.point m).slots.filter meets).map fun x => (m, x.cycle)).flatten
    let s := ms.foldl (fun s m => s.onPoint m fun p =>
      { p with slots := p.slots.map fun x => if meets x then { x with takenBack := true } else x }) s
    s.countTakeback.onEngine fun e => { e with redo := union e.redo cycles }

/-! ## The boundary table (R228, R233) -/

/-- An instant of the table at or before the run-ahead position, with what tells its boundary from others: device time, plan, and the
points of a command. -/
structure PastInstant where
  instant : Nat
  time : Int
  plan : Nat
  points : List Nat
  deriving DecidableEq, Repr

/-- Whether two instants are those of one boundary, before and after it has moved. -/
def PastInstant.sameBoundary (a b : PastInstant) : Bool := a.time == b.time && a.plan == b.plan && a.points == b.points

/-- The instants of the table that lie at or before the run-ahead position. -/
def State.pastInstants (s : State) : List PastInstant :=
  (s.tariff.table.filter fun e => decide (e.instant ≤ s.engine.runAhead)).map fun e =>
    { instant := e.instant, time := e.time, plan := e.plan, points := if e.command then e.points else [] }

/-- The first of each boundary's instants in a list. -/
def boundariesOf : List PastInstant → List PastInstant
  | [] => []
  | e :: r => e :: (boundariesOf r).filter fun x => !e.sameBoundary x

/-- A changed table (R233, first row): each boundary whose instant was added, moved or removed at or before the run-ahead position is
one trigger, which meets the cycles whose span contains its old or its new instant. -/
def State.tableChanged (s : State) (before : List PastInstant) : State :=
  let after := s.pastInstants
  let diff := (after.filter fun e => !before.contains e) ++ before.filter fun e => !after.contains e
  let planOf := fun m => match (s.point m).bind with
    | some b => b.plan
    | none => 4
  (boundariesOf diff).foldl (fun s e =>
    let ts := (diff.filter e.sameBoundary).map fun x => x.instant
    s.takeback 0 (fun m => if e.points.isEmpty then planOf m == e.plan else e.points.contains m)
      fun a b => ts.any fun t => decide (a < t) && decide (t < b)) s

/-- The instants that the boundary table holds for a point inside a span (R228): those of its entries that are not skipped, and those
of the commits whose steps the point still owes. -/
def State.instantsIn (s : State) (m : Nat) (b : Binding) (first fin : Nat) : List Nat :=
  let here := s.tariff.table.filter fun e =>
    (if e.command then e.points.contains m else e.plan == b.plan) && s.liveKinds e != 0
  let all := (here.map fun e => e.instant) ++ (s.owed m).map fun c => s.splitOf c m
  ((all.filter fun t => decide (first < t) && decide (t < fin)).mergeSort fun a b => decide (a ≤ b)).eraseDups

/-- The cuts of a slot when outputs after a slot index are about to be added (R228): those before it stay as they were, those after it
follow the table; a cycle is split at no more than 3 instants. -/
def State.cutsFrom (s : State) (m : Nat) (b : Binding) (x : PendSlot) (from_ upTo : Nat) : List Nat :=
  ((x.cuts.filter fun t => decide (t < from_)) ++
    (s.instantsIn m b x.first upTo).filter fun t => decide (from_ ≤ t)).take 3

/-- The table rewritten, for one plan from a cut on, with the takebacks that follow. -/
def State.rewriteFrom (s : State) (cut : Option (Nat × Nat × Int)) : State :=
  let before := s.pastInstants
  (s.refillFrom cut).tableChanged before

/-- The table rewritten, with the takebacks that follow. -/
def State.rewriteTable (s : State) : State := s.rewriteFrom none

/-- BOUNDARY_TABLE_REFILL (R233, R318): the control core fills the table to 48 h ahead. -/
def execBoundaryTableRefill (s : State) : Host.Outcome State Fault Refusal :=
  .next (if s.cp.st = .ready ∧ s.metering = true then
      let s := s.rewriteTable
      if s.parN 0x303 * 3600 ≤ s.horizonS then s.onTariff fun t => { t with tableLow := false, lowAt := none } else s
    else s)

end Sys2Proof.Machine
end

