-- ==== Sys2Proof/Machine/Time.lean ====
section
/-! DEFINITION. The clock (R302 to R307, R331 to R334, R516), its commands, and the commands of plans, boundaries, demand and
billing (R315, R316, R325, R329, R337). -/
namespace Sys2Proof.Machine

/-! ## RTC (R302 to R304) -/

/-- The correction of R303 in periods of a window of 32 s, from TT_RTC_CAL and a temperature in 1/16 degrees. -/
def rtcCorrection (cal : Nat) (t16 : Int) : Int :=
  let off := ofTwos 16 (bits cal 0 16)
  let d := t16 - 16 * ofTwos 8 (bits cal 16 8)
  roundDiv ((off * 2560 + (bits cal 24 8 : Nat) * (d * d)) * 1048576) 256000000000

/-- RTC_CORRECTION (R303): the measurement of every 60 s. On the cell it serves alarm type 9 too (R426). -/
def execRtcCorrection (t16 : Int) (s : State) : Host.Outcome State Fault Refusal :=
  .next (if s.power.src = .none then s
    else
      let s := s.onClock fun c => { c with
        tempC16 := t16, maxTempC16 := max c.maxTempC16 t16, corrPeriods := rtcCorrection (s.parN 0x301) t16 }
      if s.asleep then
        if 122 * 16 ≤ t16 then s.raiseAlarm 9 0 (toTwos 32 t16) else if t16 ≤ 112 * 16 then s.clearAlarm 9 0 else s
      else s)

/-- One window of 32 periods of the 32.768 kHz clock: the RTC, with its correction at the end of 32 s and the slew of R331. The periods that
the correction adds or removes belong to the RTC count: DEDUCED, log entry 182. -/
def Clock.window (c : Clock) : Clock :=
  let full := c.windows + 1 == 32768
  let step : Int := if 64 < c.slew then 64 else if c.slew < -64 then -64 else 0
  let milli := (c.rtcMilli : Int) + step
  let corr := if full then c.corrPeriods else 0
  { c with rtc := wrap48 (c.rtc + 64 + milli / 1000 + 2 * corr)
           rtcMilli := (milli % 1000).toNat, slew := c.slew - step
           windows := if full then 0 else c.windows + 1, periods := ((c.periods : Int) + 32 + corr).toNat }

/-- SLEW_COMPLETE (R331): the last part of a slew, after which nothing is outstanding. -/
def execSlewComplete (s : State) : Host.Outcome State Fault Refusal :=
  .next (if s.clock.slew ≠ 0 ∧ s.clock.slew.natAbs ≤ 64 then
      s.onClock fun c =>
        let milli := (c.rtcMilli : Int) + c.slew
        { c with rtc := wrap48 (c.rtc + milli / 1000), rtcMilli := (milli % 1000).toNat, slew := 0 }
    else s)

/-- EV_RTC_DRIFT (R304): the cause and the rate in ppm. -/
def State.driftEvent (s : State) (cause : Nat) (rate : Int) : State := s.raise 39 0 0 (le 4 cause ++ leI 4 rate)

/-- RTC_DRIFT_CHECK (R304, cause 0): at the end of a span of 1 024 s the two counts are compared, and a new span begins. -/
def execRtcDriftCheck (s : State) : Host.Outcome State Fault Refusal :=
  .next (if s.metering = false ∨ s.clock.refLost = true then s.onClock fun c => { c with driftFrom := none }
    else
      let here := some (s.now, s.clock.periods)
      match s.clock.driftFrom with
      | none => s.onClock fun c => { c with driftFrom := here }
      | some (a, p) =>
        let n := s.clock.periods - p
        if n < 33554432 then s
        else
          let num := (((s.now - a : Nat) : Int) * 32 - (n * 125 : Nat)) * 1000000
          let s := s.onClock fun c => { c with driftFrom := here }
          if 120 * (n * 125) < num.natAbs then s.driftEvent 0 (roundDiv num (n * 125)) else s)

/-! ## Anchors (R306, R307) -/

/-- ANCHOR (R306): at every sample index that is a multiple of 2^20; the instants that are not frozen are computed again. -/
def execAnchor (s : State) : Host.Outcome State Fault Refusal :=
  .next (if s.metering = false ∨ s.now % 1048576 ≠ 0 then s
    else
      let before := s.pastInstants
      ((s.placeAnchor { s := s.now, t := s.clock.rtc }).refine).tableChanged before)

/-! ## ADJUST_TIME and SET_TIME (R331, R332) -/

/-- ADJUST_TIME (R331). -/
def cmdAdjustTime (s : State) (r : Request) : Except Deny State := do
  len r 8
  reserved r 4 4
  let d := fldI r.params 0 4
  need (decide (d.natAbs ≤ 2000)) .badParameter
  needPriv s r 0x0302
  modeAll s
  let log := s.clock.slewLog.filter fun e => decide (s.now < e.1 + 460800000)
  let used := (log.map fun e => e.2).sum + d.natAbs
  need (decide (used ≤ 2000)) .resourceBusy
  let s := s.onClock fun c => { c with
    slewNext := c.slewNext + d * 65536, slewLog := log ++ [(s.now, d.natAbs)], lastSet := some s.now }
  .ok (s.replyOk r (leI 4 (roundDiv (s.clock.slew + s.clock.slewNext) 65536) ++ le 2 (2000 - used) ++ zeros 2))

/-- SET_TIME (R332). -/
def cmdSetTime (s : State) (r : Request) : Except Deny State := do
  let auth ← authField r 8
  reserved r 6 2
  let d := (fieldAt r 0 6 : Int) - s.time
  let big := decide (300 * 65536 < d.natAbs)
  let s' ← order5 s s.time r 0x0301 (if big then some 1 else none) 8 auth
  modeAll s
  if d = 0 then .ok (s'.replyOk r (zeros 8 ++ sample8 s.now))
  else .ok ((s'.replyOk r [] .round).onClock fun c =>
    { c with setTimes := c.setTimes ++ [{ delta := d, auth := if auth.isEmpty then 0 else 1, port := r.port }] })

/-- What a step executes at S_cs besides the closing of the running intervals (R334): rate switches, friendly edges, plan
activations and billing ends with TIME in (from, to]; demand and profile ends produce nothing. -/
def State.catchUp (s : State) (from_ upTo : Int) : List Entry :=
  let held := (s.tariff.table.filter fun e => !e.command && decide (from_ < e.time) && decide (e.time ≤ upTo)).map fun e =>
    { e with kinds := e.kinds &&& 57 }
  let edge := max from_ s.tariff.tableEnd
  let more := if edge < upTo then
      ((List.range 4).map fun p => s.planEntries p edge upTo (s.stateAfter s.tariff.table p) 57).flatten else []
  placeEntries more (held.filter fun e => e.kinds != 0)

/-- The activation instants that follow device time, computed again (R307, R316). -/
def State.reinstant (s : State) : State :=
  s.onTariff fun t => { t with plans := t.plans.map fun p =>
    match p.passive, p.activateAt with
    | some c, some _ => if c.activate = 0 then p else { p with activateAt := some (s.instantOf c.activate) }
    | _, _ => p }

/-- The table of a new time base: commands stay, everything else is computed again from a device time. -/
def State.restartTable (s : State) (from_ : Int) : State :=
  (s.reinstant.onTariff fun t => { t with table := t.table.filter fun e => e.command, tableEnd := from_ }).refillTable

/-- The balance windows and the frequency window end at a step (R333, R516). -/
def State.cutWindows (s : State) : State :=
  (s.eachGroup fun g => if g.set.window = 0 ∨ g.cut.isSome = true then g else { g with cut := some s.now }).eachChan fun c =>
    if c.set.role = 1 then { c with f10Cut := some s.now } else c

/-- One step at a round boundary (R332 to R334): the boundary commit at S_cs, the anchor, the table, the events and the
reply; the pending cycles whose run-ahead has passed S_cs are taken back (R233, second row). -/
def State.applySetTime (s : State) (q : SetTimeReq) : State :=
  let old := s.time
  let new := wrap48 (old + q.delta)
  let es := if 0 < q.delta then s.catchUp old new else []
  let live := es.filter fun e => s.liveKinds e != 0
  let s := s.openCommit { step := true, instant := s.now, time := old, exec := s.now
                          flags := s.commonFlags + 2 * b2n (!live.isEmpty) } es true
  let s := s.placeAnchor { s := s.now, t := new, step := true }
  let last := s.clock.lastSet
  let s := s.onClock fun c => { c with
    rtc := new, rtcMilli := 0, slew := 0, slewNext := 0, timeUnset := false, lastSet := some s.now }
  let s := s.raise 5 0 0 (time6 old ++ time6 new ++ sample7 s.now ++ le 4 q.auth)
  let s := match last with
    | some t =>
      let span := s.now - t
      let num := q.delta * 128000 * 1000000
      let den := 65536 * max 1 span
      if 86400 * slotsPerS ≤ span ∧ s.parN 0x302 * den < num.natAbs then s.driftEvent 1 (roundDiv num den) else s
    | none => s
  let s := (s.cutWindows).restartTable new
  let at_ := s.now
  let s := s.takeback 1 (fun _ => true) fun _ b => decide (at_ < b)
  s.onWaiting q.port .round fun r => { r with payload := leI 8 q.delta ++ sample8 s.now, wait := .none }

/-- The steps of a round boundary. -/
def State.applySetTimes (s : State) : State :=
  s.clock.setTimes.foldl State.applySetTime (s.onClock fun c => { c with setTimes := [] })

/-- ZONE_CHANGE (R516): a step of zero device time at S_cs, the round boundary at which TT_ZONE has changed; it takes back the pending
cycles that contain S_cs where the run-ahead has passed it. -/
def execZoneChange (s : State) : Host.Outcome State Fault Refusal :=
  .next (match s.tariff.zoneAt with
    | none => s
    | some at_ =>
      if s.storeOn = false then s
      else
        let t := s.timeOf at_
        let es := ((List.range 4).map fun p =>
          s.planEntries p (t - 26 * 3600 * 65536) t ((s.plan p).rate, (s.plan p).friendly) 57).flatten
        let live := es.filter fun e => s.liveKinds e != 0
        let s := s.onTariff fun x => { x with zoneAt := none }
        let s := s.openCommit { step := true, instant := at_, time := t, exec := if at_ < s.now then s.now else at_
                                flags := s.commonFlags + 2 * b2n (!live.isEmpty) + b2n (decide (at_ < s.now)) } live true
        let s := ((s.placeAnchor { s := at_, t := t, step := true }).cutWindows).restartTable t
        s.takeback 0 (fun _ => true) fun a b => decide (a < at_) && decide (at_ < b))

/-- A committed TT_DEMAND or TT_PROFILE: it holds from the first full hour of local standard time after the write (R338). -/
def State.intervalWritten (s : State) (i value : Nat) : State :=
  let l := s.standardMin s.time
  let t := s.timeOfMin ((l / 60 + 1) * 60)
  (s.onTariff fun x => { x with intervals := x.intervals ++ [(i, t, value)] }).rewriteTable

/-! ## LOAD_PLAN (R315, R316) -/

/-- A fragment joined to a partial package (R315, R463, R467): none when it does not fit. -/
def joinFragment (old : Option Partial) (first : Bool) (off total : Nat) (data : List Byte) (port func : Nat) :
    Option Partial :=
  let base : Option Partial := if first then some { total := total } else old
  match base with
  | none => none
  | some p =>
    if p.data.length = off ∧ p.total = total ∧ off + data.length ≤ total then
      some { p with data := p.data ++ data, port := port, func := func }
    else none

/-- LOAD_PLAN (R315). -/
def cmdLoadPlan (s : State) (r : Request) : Except Deny State := do
  need (decide (13 ≤ r.params.length)) .badParameter
  let p := byteAt r 0
  let total := fieldAt r 8 4
  need (decide (p ≤ 3) && within 1 16384 total) .badParameter
  flagsWithin (byteAt r 1) 1
  reserved r 2 2
  needPriv s r 0x0303 true
  modeAll s
  match joinFragment (s.security.plans.getD p none) (bit (byteAt r 1) 0) (fieldAt r 4 4) total (r.params.drop 12) r.port 0 with
  | none => .error { status := .badParameter }
  | some q =>
    if q.data.length < total then
      .ok ((s.onSec fun x => { x with plans := upd x.plans p fun _ => some q }).replyOk r (le 4 q.data.length))
    else match s.accept r 0x0303 with
      | none => .error { status := .noHandle }
      | some (s, o) =>
        .ok (s.onSec fun x => { x with
          plans := upd x.plans p fun _ => none
          jobs := x.jobs ++ [{ kind := .plan p, op := some o, data := q.data, port := r.port }] })

/-- The activation instant of a calendar committed now (R316). -/
def State.activationOf (s : State) (c : Calendar) : Option Nat :=
  if c.activate = 0 then some (nextMul (s.engine.runAhead + 1024) 256)
  else if c.activate = 2 ^ 48 - 1 then none
  else some (s.instantOf c.activate)

/-- The end of LOAD_PLAN's verification (R315): the calendar enters the passive slot. -/
def State.planDone (s : State) (p : Nat) (j : SecJob) (poisoned : Bool) : State :=
  let fin := fun (s : State) st d r => match j.op with
    | some o => s.finish o st d r
    | none => s
  if poisoned then fin (s.authFail 1 j.port) .signatureInvalid 0 0
  else match verifyPackage s s.time j.data [3] (fun _ => 1) false with
    | .error e =>
      if e.order = 1 then fin s .badParameter 0xFFFF 0 else fin (s.pkgFail e j.port) e.status 0 0
    | .ok pk =>
      match calendarFails pk.payload p with
      | some off => fin s .badParameter off 0
      | none =>
        let c := parseCalendar pk.payload
        if c.activate ≠ 0 ∧ c.activate ≠ 2 ^ 48 - 1 ∧ (c.activate : Int) < s.time - 65536 then fin s .badParameter 8 0
        else
          let s := s.takeSeq 1 pk.seq
          let s := s.writeSeal.configWrite
          let s := match j.op with
            | some o => s.commitOp o
            | none => s
          let at_ := s.activationOf c
          let old := s.activationTime (s.plan p)
          let time : Int := if c.activate = 0 then (at_.map s.timeOf).getD 0 else c.activate
          let cuts : List (Nat × Int) := (match old, (s.plan p).activateAt with
            | some o, some i => [(i, o.1)]
            | _, _ => []) ++ (at_.map fun i => (i, time)).toList
          let cut := cuts.foldl (fun a x => match a with
            | some y => if x.1 < y.1 then some x else a
            | none => some x) none
          let s := s.onTariff fun t => { t with
            plans := upd t.plans p fun x => { x with passive := some c, activateAt := at_ } }
          fin (s.rewriteFrom (cut.map fun x => (p, x))) .ok 0 c.calId

/-! ## READ_BOUNDARIES (R337) -/

/-- The 16 bytes of an entry (R317). -/
def Entry.bytes (e : Entry) : List Byte :=
  le 7 e.instant ++ le 1 (b2n e.frozen + 2 * b2n e.command + 4 * b2n e.late) ++ le 4 (secondsOf e.time) ++ le 1 e.plan
    ++ le 1 e.kinds ++ le 1 (e.rate + 16 * b2n e.friendly) ++ zeros 1

/-- The 16 bytes of a plan. -/
def Plan.bytes (p : Plan) : List Byte :=
  le 2 (match p.active with
    | some c => c.calId
    | none => 0)
  ++ le 2 (match p.passive with
    | some c => c.calId
    | none => 0xFFFF)
  ++ le 1 p.rate ++ le 1 (b2n p.friendly) ++ zeros 2 ++ sample8 (p.activateAt.getD 0)

/-- The last executed TIME as READ_BOUNDARIES shows it: 0 before the first. -/
def lastBytes (l : List (List Int)) : List Byte :=
  (l.map fun r => (r.map fun t => le 4 (if t < 0 then 0 else secondsOf t)).flatten).flatten

/-- READ_BOUNDARIES (R337). -/
def cmdReadBoundaries (s : State) (r : Request) : Except Deny State := do
  len r 12
  reserved r 1 1
  let k := byteAt r 0
  let n := fieldAt r 2 2
  need (decide (k ≤ 1) && (k == 1 || within 1 254 n) && isZero r.params 11 1) .badParameter
  needPriv s r 0x0304
  modeResp s false
  let t := s.tariff
  if k = 0 then
    let es := (t.table.filter fun e => decide (fieldAt r 4 7 ≤ e.instant)).take n
    .ok (s.replyOk r (le 2 es.length ++ zeros 6 ++ (es.map Entry.bytes).flatten))
  else
    let fin := match t.table.getLast? with
      | some e => e.instant
      | none => 0
    let l := s.standardMin s.time
    .ok (s.replyOk r (sample8 fin ++ le 4 s.horizonS ++ le 2 t.table.length ++ leI 2 ((s.zoneMin + s.dst l) / 15)
      ++ (t.plans.map Plan.bytes).flatten ++ lastBytes t.lastExec
      ++ le 2 (b2n s.clock.timeUnset + 2 * b2n (s.clock.slew + s.clock.slewNext != 0) + 4 * b2n t.tableLow)
      ++ leI 2 (roundDiv (s.clock.slew + s.clock.slewNext) 65536) ++ zeros 4))

/-! ## DEMAND_RESET and BILLING_CLOSE (R325, R329) -/

/-- Every point of a mask is bound. -/
def needBound (s : State) (ms : List Nat) : Except Deny Unit := need (ms.all fun m => (s.point m).bind.isSome) .badParameter

/-- DEMAND_RESET (R325). -/
def cmdDemandReset (s : State) (r : Request) : Except Deny State := do
  len r 32
  let mask := fieldAt r 0 32
  needMask s mask
  needPriv s r 0x0306
  modeNoCal s
  let ms := bitsSet mask 256
  needBound s ms
  .ok ((s.replyOk r [] .round).onTariff fun t => { t with demReset := t.demReset ++ [(ms, some r.port)] })

/-- BILLING_CLOSE (R329). -/
def cmdBillingClose (s : State) (r : Request) : Except Deny State := do
  len r 32
  let mask := fieldAt r 0 32
  needMask s mask
  needPriv s r 0x0305
  need67 (s.mode.mode == .meter || (s.mode.mode == .degraded && s.mode.base == .meter)) .notInMode
  let ms := bitsSet mask 256
  needBound s ms
  let at_ := nextMul (s.engine.runAhead + 1024) 256
  let e : Entry := { instant := at_, frozen := true, command := true, time := s.timeOf at_, kinds := 8, points := ms }
  let s := s.onTariff fun t => { t with table := placeEntry e t.table }
  let s := s.writeSequencer
  if ms.isEmpty then .ok (s.replyOk r (sample8 at_ ++ le 2 0 ++ zeros 6))
  else .ok ((s.replyOk r [] .close).onTariff fun t =>
    { t with closes := t.closes ++ [{ instant := at_, port := r.port, left := ms }] })

/-- The points of a BILLING_CLOSE that its commit does not reach are counted off when the commit opens: a point unbound
before the instant takes no snapshot (R329). -/
def State.pruneCloses (s : State) : State :=
  (s.tariff.closes.filter fun x => decide (x.instant ≤ s.now)).foldl (fun s x =>
    let waiting := (s.tariff.commits.filter fun c => c.instant == x.instant).map fun c => c.waiting
    (x.left.filter fun m => !(waiting.flatten.contains m)).foldl (fun s m => s.closeDone m x.instant false) s) s

end Sys2Proof.Machine
end

