-- ==== Sys2Proof/Machine/Energy.lean ====
section
/-! DEFINITION. The commit of segments (R255 to R262), pulse outputs (R267 to R269) and balance groups (R270, R271). -/
namespace Sys2Proof.Machine

/-! ## Segment records (R255) -/

/-- One segment as it travels through Q8 (R255). -/
structure SegRec where
  mp : Nat
  idx : Nat
  last : Bool
  flags : Nat
  cycle : Nat
  sFirst : Nat
  sEnd : Nat
  gates : Nat
  act : Int
  rea : Int
  app : Int
  fund : Int
  sqa : Int
  deriving DecidableEq, Repr

/-- The eight words of a segment (R255). -/
def SegRec.words (r : SegRec) : List QWord :=
  [r.mp + 256 * r.idx + 1024 * b2n r.last + 4096 * r.flags + 2 ^ 32 * r.cycle, r.sFirst + 2 ^ 56 * r.mp,
   r.sEnd + 2 ^ 56 * r.gates, toTwos 64 r.act, toTwos 64 r.rea, toTwos 64 r.app, toTwos 64 r.fund, toTwos 64 r.sqa].map fun d => wordOf 64 d

/-- The segment of eight words. -/
def readSeg (ws : List QWord) : SegRec :=
  let w := fun i => (ws.getD i {}).data
  { mp := bits (w 0) 0 8, idx := bits (w 0) 8 2, last := bit (w 0) 10, flags := bits (w 0) 12 16, cycle := bits (w 0) 32 32
    sFirst := bits (w 1) 0 56, sEnd := bits (w 2) 0 56, gates := bits (w 2) 56 3
    act := ofTwos 64 (w 3), rea := ofTwos 64 (w 4), app := (w 5 : Int), fund := ofTwos 64 (w 6), sqa := (w 7 : Int) }

/-- The held value of R239 over a number of slots: act, rea, app, fun, sqa of the last cycle committed without ESTIMATED,
scaled by the length. -/
def Point.held (p : Point) (len : Nat) : List Int :=
  if p.goodLen = 0 then [0, 0, 0, 0, 0]
  else (List.range 5).map fun i => roundDiv (p.good.getD i 0 * len) p.goodLen

/-- A segment with its quantities taken from the held value (R259). -/
def State.heldSeg (s : State) (r : SegRec) : SegRec :=
  let h := (s.point r.mp).held (r.sEnd - r.sFirst)
  { r with act := h.getD 0 0, rea := h.getD 1 0, app := h.getD 2 0, fund := h.getD 3 0, sqa := h.getD 4 0
           flags := r.flags ||| 3, gates := 0 }

/-! ## Registers (R256 to R258) -/

/-- The increments of registers 0 to 12 from a segment (R256). -/
def SegRec.increments (r : SegRec) : List Nat :=
  let imp := decide (0 ≤ r.act)
  let up := decide (0 ≤ r.rea)
  let har := r.act - r.fund
  let v := fun (b : Bool) (x : Int) => if b then x.natAbs else 0
  [v imp r.act, v (!imp) r.act, v (imp && up) r.rea, v (!imp && up) r.rea, v (!imp && !up) r.rea, v (imp && !up) r.rea,
   v imp r.app, v (!imp) r.app, v (decide (0 ≤ r.fund)) r.fund, v (decide (r.fund < 0)) r.fund,
   v (decide (0 ≤ har)) har, v (decide (har < 0)) har, r.sqa.natAbs]

/-- The quanta of registers 0 to 12 and their new residues (R257). -/
def quantaOf (residue inc : List Nat) : List (Nat × Nat) :=
  (List.range 13).map fun i =>
    let acc := residue.getD i 0 + inc.getD i 0
    (acc / 2 ^ 32, acc % 2 ^ 32)

/-- The quanta of all 29 registers: rate registers take those of registers 0 and 1 at the rate in force (R258). -/
def allQuanta (q : List (Nat × Nat)) (rate : Nat) : List Nat :=
  (q.map fun x => x.1) ++ (List.range 8).map (fun i => if i + 1 = rate then (q.getD 0 (0, 0)).1 else 0)
    ++ (List.range 8).map fun i => if i + 1 = rate then (q.getD 1 (0, 0)).1 else 0

/-- The registers of a point after quanta and residues are applied (R257, R260). -/
def Point.credit (p : Point) (q : List Nat) (residue : List Nat) : Point :=
  { p with
    reg := (List.range 29).map fun i => (p.reg.getD i 0 + q.getD i 0) % 2 ^ 64
    delta := (List.range 29).map fun i => p.delta.getD i 0 + q.getD i 0
    residue := residue }

/-! ## Pulses (R268, R269) -/

/-- Twice the pulse threshold's half: th (R268). -/
def Pulse.th (x : Pulse) : Nat := roundDivN (2 ^ 32 * (if x.quantity = 12 then 1000 else 1000000)) (max 1 x.constant)

/-- One edge scheduled at a slot (R269). It is late when that slot has passed at the commit, and then leaves at once. A rising edge
less than 2 × WIDTH after the previous one waits in the queue, or is discarded where 255 already wait. An edge that is both late and
crowded counts in both: DESIGN CHOICE, log entry 177. -/
def Pulse.edge (x : Pulse) (now at_ : Nat) (rising : Bool) : Pulse :=
  let gap := 2 * x.width * 128
  let late := decide (at_ < now)
  let leaves := max at_ now
  let crowd := rising && match x.lastRise with
    | some t => decide (leaves < t + gap)
    | none => false
  let due := if crowd then x.lastRise.getD 0 + gap else leaves
  if crowd ∧ 255 ≤ (x.edges.filter fun e => e.crowded).length then { x with discarded := incSat 16 x.discarded }
  else
    let fall : List PulseEdge := if rising && x.width != 0 then [{ at_ := due + x.width * 128 }] else []
    { x with edges := x.edges ++ { at_ := due, rising := rising, crowded := crowd } :: fall
             lastRise := if rising then some due else x.lastRise
             late := if late then incSat 16 x.late else x.late
             crowded := if crowd then incSat 16 x.crowded else x.crowded }

/-- The increments of a segment reach an output (R268): levels are counted in halves of th. -/
def Pulse.feed (x : Pulse) (now d sFirst sEnd : Nat) : Pulse :=
  let th := x.th
  let n := sEnd - sFirst
  if d = 0 ∨ th = 0 then x
  else
    let hi := 2 * (x.acc + d) / th
    let lo := 2 * x.acc / th
    let ks := (List.range (hi - lo)).map fun i => lo + 1 + i
    let ks := if x.width = 0 then ks else ks.filter fun k => k % 2 == 0
    let x := ks.foldl (fun x k =>
      x.edge now (sFirst + ceilDiv ((k * th - 2 * x.acc) * n) (2 * d) - 1 + 5120) (k % 2 == 0)) x
    { x with acc := (x.acc + d) % th }

/-- The increments that an output's quantity takes from a segment. -/
def pulseIncrement (q rate : Nat) (inc : List Nat) : Nat :=
  if q ≤ 12 then inc.getD q 0
  else if q = 12 + rate then inc.getD 0 0
  else if q = 20 + rate then inc.getD 1 0
  else 0

/-- PULSE_EDGE (R269): the earliest edge of an output leaves, if it is due within the current round; edges leave in time order. -/
def execPulseEdge (out : Nat) (s : State) : Host.Outcome State Fault Refusal :=
  .next (s.onPulse out fun x => match x.edges with
    | e :: r => if e.at_ < s.nextRound then { x with level := e.rising, edges := r } else x
    | [] => x)

/-- PULSE_ASSIGN (R267). -/
def cmdPulseAssign (s : State) (r : Request) : Except Deny State := do
  len r 8
  let o := byteAt r 0
  let m := byteAt r 1
  let q := byteAt r 2
  let w := byteAt r 3
  let k := fieldAt r 4 4
  need (decide (o ≤ 7) && (decide (q ≤ 28) || q == 0xFF) && (w == 0 || within 10 80 w) && within 1 1000000 k) .badParameter
  needPoint s m
  needPriv s r 0x0206
  modeAll s
  need (s.point m).bind.isSome .badParameter
  let s := (s.onPulse o fun x => { x with next := some (m, q, w, k) }).configWrite
  .ok (s.replyOk r (sample8 s.nextRound))

/-- The pulse assignments of a round boundary (R267). -/
def State.applyPulses (s : State) : State :=
  s.eachPulse fun x => match x.next with
      | some (m, q, w, k) =>
        { mp := m, quantity := q, width := w, constant := k, late := x.late, crowded := x.crowded, discarded := x.discarded }
      | none => x

/-! ## Balance groups (R270, R271) -/

/-- The end of the window that contains a device time (R271). -/
def windowEndAfter (minutes : Nat) (t : Int) : Int :=
  let w : Int := (max 1 minutes * 3932160 : Nat)
  (t / w + 1) * w

/-- The points that a group involves. -/
def BalSetting.involves (x : BalSetting) (m : Nat) : Bool := x.members.getLsbD m || x.ref == m

/-- Whether a segment that ends at a sample belongs to a group's next window. -/
def State.inNext (s : State) (g : Balance) (sEnd : Nat) : Bool :=
  match g.cut with
  | some c => decide (c < sEnd)
  | none => decide (g.windowEnd ≤ s.timeOf (sEnd - 1))

/-- A value added at a key of a list. -/
def addAt (k : Nat) (v : Int) (l : List (Nat × Int)) : List (Nat × Int) :=
  if l.any fun e => e.1 == k then l.map fun e => if e.1 = k then (k, e.2 + v) else e else l ++ [(k, v)]

/-- The value at a key. -/
def valueAt (k : Nat) (l : List (Nat × Int)) : Int :=
  match l.find? fun e => e.1 == k with
  | some e => e.2
  | none => 0

/-- A segment reaches the groups that involve its point. -/
def State.balanceAdd (s : State) (r : SegRec) : State :=
  (List.range 16).foldl (fun s g =>
    let x := s.groups.getD g {}
    if x.set.window = 0 ∨ x.set.involves r.mp = false then s
    else
      let nx := s.inNext x r.sEnd
      let s := s.onPoint r.mp fun p => { p with balance := addAt (if nx then 16 + g else g) r.act p.balance }
      if bit r.flags 0 then s.onGroup g fun x => { x with flags := x.flags ||| (if nx then 8 else 1) } else s) s

/-- The members of a group's setting, with their net energies of the running window. -/
def State.memberSum (s : State) (g : Nat) (x : BalSetting) : Int :=
  ((bitsSet x.members.toNat 256).map fun m => valueAt g (s.point m).balance).foldl (· + ·) 0

/-- The evaluation of a window (R271): the deficit D in 2^-32 mWh times 10^6, the alarm of type 17 or its clear. -/
def State.evaluateWindow (s : State) (g : Nat) : State :=
  let x := s.groups.getD g {}
  let ref := valueAt g (s.point x.set.ref).balance
  let sum := s.memberSum g x.set
  let d6 := (ref - sum) * 1000000 - ref * x.set.ppm - (x.set.fix * 2 ^ 32 * 1000000 : Nat)
  let mwh := fun v => leI 4 (roundDiv v (2 ^ 32))
  let fl := x.flags % 8 ||| (2 * b2n x.cut.isSome)
  let extra := le 1 g ++ time6 (if x.cut.isSome then s.timeOf (x.cut.getD 0) else x.windowEnd) ++ mwh ref ++ mwh sum
    ++ leI 4 (roundDiv d6 (2 ^ 32 * 1000000)) ++ le 1 fl
  if 0 < d6 then s.raiseAlarm 17 g 0 extra else s.clearAlarm 17 g

/-- A window closed: the next one begins, with the setting that waits. -/
def State.nextWindow (s : State) (g : Nat) : State :=
  let x := s.groups.getD g {}
  let t := match x.cut with
    | some c => s.timeOf c
    | none => x.windowEnd
  let set := x.next.getD x.set
  let s := s.onGroup g fun x => { x with
    set := set, next := none, cut := none, flags := x.flags / 8, windowEnd := windowEndAfter set.window t }
  s.eachPoint fun p =>
      if p.balance.isEmpty then p
      else
        let b := p.balance.filter fun e => e.1 != g
        { p with balance := b.map fun e => if e.1 = 16 + g then (g, e.2) else e }

/-- BALANCE_WINDOW (R271): a window is evaluated when every involved point has committed past its end, and at most 100 ms
after it. A group whose window is 0 begins with the setting that waits. -/
def execBalanceWindow (g : Nat) (s : State) : Host.Outcome State Fault Refusal :=
  .next (
    let x := s.groups.getD g {}
    if s.storeOn = false ∨ (x.set.window = 0 ∧ x.next.isNone = true) then s
    else
      let fin := match x.cut with
        | some c => c
        | none => s.instantOf x.windowEnd
      let all := (s.boundPoints.filter fun m => x.set.involves m).all fun m => decide (fin ≤ (s.point m).sEnd)
      if s.now < fin ∨ (all = false ∧ s.now < fin + 12800) then s
      else if x.set.window = 0 then s.nextWindow g
      else (s.evaluateWindow g).nextWindow g)

/-- SET_BALANCE_GROUP (R270). -/
def cmdSetBalanceGroup (s : State) (r : Request) : Except Deny State := do
  len r 44
  let g := byteAt r 0
  let w := byteAt r 1
  let x : BalSetting := { window := w, ref := byteAt r 2, ppm := fieldAt r 4 4, fix := fieldAt r 8 4
                          members := BitVec.ofNat 256 (fieldAt r 12 32) }
  need (decide (g ≤ 15) && ([0, 1, 2, 3, 4, 5, 6, 10, 12, 15, 20, 30, 60] : List Nat).contains w
    && decide (x.ppm ≤ 200000)) .badParameter
  reserved r 3 1
  needPoint s x.ref
  needMask s x.members.toNat
  needPriv s r 0x0205
  modeNoCal s
  need (match (s.point x.ref).bind with
    | some b => b.isRef
    | none => false) .badParameter
  need ((bitsSet x.members.toNat 256).all fun m => (s.point m).bind.isSome) .badParameter
  need (!x.members.getLsbD x.ref) .badParameter
  let cur := s.groups.getD g {}
  let s := s.onGroup g fun b => { b with
    next := some x, windowEnd := if cur.set.window = 0 then windowEndAfter w s.time else b.windowEnd }
  .ok (s.configWrite.replyOk r [])

/-! ## A segment applied (R257 to R262, R340, R345, R347) -/

/-- EV_LEGAL_WRAP for a register whose wrap count has changed (R262). -/
def State.legalWrap (s : State) (m i old : Nat) : State :=
  let f := s.parN 0x140
  let w := (legalOf f ((s.point m).reg.getD i 0)).2
  if w = (legalOf f old).2 then s else s.raise 37 2 m (le 1 m ++ le 4 i ++ le 2 w)

/-- Energy added to the one-second sum of a second, with the largest of the checkpoint interval, in mWh rounded up. -/
def Point.addSecond (p : Point) (sec act : Nat) : Point :=
  let acc := if sec = p.e1Second then p.e1Acc + act else act
  { p with e1Second := sec, e1Acc := acc, e1 := max p.e1 (satN 32 (ceilDiv acc (2 ^ 32))) }

/-- The largest one-second active energy of the checkpoint interval (R85, R88): a segment that spans two seconds is shared in
proportion to its slots in each. -/
def Point.energySecond (p : Point) (act sFirst sEnd : Nat) : Point :=
  let sec := sFirst / slotsPerS
  let cut := (sec + 1) * slotsPerS
  if sEnd ≤ cut then p.addSecond sec act
  else
    let a := act * (cut - sFirst) / (sEnd - sFirst)
    (p.addSecond sec a).addSecond (sec + 1) (act - a)

/-- The cycle values of READ_INSTANT and of the held value (R239, R273). -/
def Point.cycleValues (p : Point) (r : SegRec) : Point :=
  let v := [r.act, r.rea, r.app, r.fund, r.sqa]
  let p := if r.idx = 0 then { p with accum := v, accumFrom := r.sFirst }
    else { p with accum := (List.range 5).map fun i => p.accum.getD i 0 + v.getD i 0 }
  if !r.last then p
  else
    let len := r.sEnd - p.accumFrom
    let est := bit r.flags 0
    { p with last := p.accum, lastFlags := r.flags, lastLen := len, cycle := r.cycle
             estCycles := if est then incSat 32 p.estCycles else p.estCycles
             good := if est then p.good else p.accum, goodLen := if est then p.goodLen else len }

/-- Type 15 (R431): export quanta of an IMPORT_ONLY point over spans of 60 s; not evaluated on the cell (R440). -/
def State.reverseWatch (s : State) (m q sFirst : Nat) : State :=
  let only := match (s.point m).bind with
    | some b => bit b.flags 1
    | none => false
  if !only || s.onCell then s
  else
    let p := s.point m
    let span := sFirst / 7680000
    let ended := decide (p.revSpan < span)
    let s := if ended && (p.revQuanta == 0 || decide (p.revSpan + 1 < span)) then s.clearAlarm 15 m else s
    let n := if ended then q else p.revQuanta + q
    let s := s.onPoint m fun p => { p with revSpan := span, revQuanta := n }
    if s.parN 0x604 ≤ n then s.raiseAlarm 15 m else s

/-- Whether a list of counters has passed a limit between two values. -/
def crossed (old new : List Nat) (limit : Nat) : Bool :=
  (List.range new.length).any fun i => decide (old.getD i 0 < limit) && decide (limit ≤ new.getD i 0)

/-- The increments of one segment applied to its bound point: boundary steps, registers, credit, limits, demand, pulses, balance,
relays. -/
def State.applyIncrements (s : State) (r : SegRec) (b : Binding) (inc : List Nat) : State :=
  let m := r.mp
  let s := (s.stepsBefore m r.sFirst)
  let p := s.point m
  let qs := quantaOf p.residue inc
  let all := allQuanta qs p.rate
  let q := all.getD 0 0
  let est := b2n (bit r.flags 0)
  let s := s.onPoint m fun p =>
    let p := (p.credit all (qs.map fun x => x.2)).energySecond r.act.natAbs r.sFirst r.sEnd
    { p with demandAcc := satN 32 (p.demandAcc + q), subFlags := p.subFlags ||| est, profFlags := p.profFlags ||| est
             billFlags := p.billFlags ||| est }
  let s := (s.legalWrap m 0 (p.reg.getD 0 0)).legalWrap m 1 (p.reg.getD 1 0)
  let s := if s.isBilling m && s.billing && !p.frozenAt r.sFirst then
      s.deduct m q (s.priceAt b.plan p.rate r.sFirst) else s
  let s := if s.isBilling m then s.powerLimit m q r.sFirst else s
  let s := s.reverseWatch m (all.getD 1 0) r.sFirst
  let s := s.eachPulse fun x =>
    if x.mp = m ∧ x.quantity ≠ 0xFF then x.feed s.now (pulseIncrement x.quantity p.rate inc) r.sFirst r.sEnd else x
  let s := s.balanceAdd r
  let s := s.onPoint m fun p => { p.cycleValues r with sEnd := r.sEnd, expect := some r.sEnd }
  let s := (s.passCommits m r.sFirst).stepsAfter m r.sEnd
  let s := if crossed p.delta (s.point m).delta (2 ^ 31)
      || (decide (-(2 ^ 30 : Int) < p.ledger.delta) && decide ((s.point m).ledger.delta ≤ -(2 ^ 30 : Int)))
    then s.writePoint m 2 else s
  s.evalRelay m

/-- One segment applied to its bound point. -/
def State.applySegment (s : State) (r : SegRec) (b : Binding) : State := s.applyIncrements r b r.increments

/-- A segment that does not continue the point's last committed span: the gap is filled from the held value (R259). -/
def State.fillGap (s : State) (r : SegRec) (b : Binding) : State :=
  match (s.point r.mp).expect with
  | some e =>
    if e < r.sFirst then
      let g := s.heldSeg { r with idx := 0, last := false, flags := 3, sFirst := e, sEnd := r.sFirst }
      (s.applySegment g b).onEngine fun x => { x with excluded := incSat 32 x.excluded }
    else s
  | none => s

/-- The committed cycle of a point that a sample lies in, or that ends at it: number and end slot. -/
def Point.cycleAround (p : Point) (x : Nat) (ends : Bool) : Option (Nat × Nat) :=
  (p.recent.find? fun c => if ends then c.2.2 == x else decide (c.2.1 ≤ x) && decide (x < c.2.2)).map fun c => (c.1, c.2.2)

/-- What poisoned words leave of a segment (R259): none when neither word names the point, and whether its quantities are filled
from the held value. Without word 1 the segment continues the last committed span; without word 0 its place in the cycle is
that of the cycle that ends with it, and it carries ESTIMATED (log entry 162). -/
def State.salvage (s : State) (ws : List QWord) : Option (SegRec × Bool) :=
  let bad := fun i => (ws.getD i {}).poison
  let r := readSeg ws
  if bad 0 && bad 1 then none
  else
    let m := if bad 0 then bits (ws.getD 1 {}).data 56 8 else r.mp
    let p := s.point m
    let r := { r with mp := m, sFirst := if bad 1 then p.expect.getD p.sEnd else r.sFirst }
    let r := if bad 2 then { r with sEnd := ((p.cycleAround r.sFirst false).map fun c => c.2).getD r.sFirst, gates := 0, last := true }
      else r
    let r := if bad 0 then { r with
        idx := 0, last := (p.cycleAround r.sEnd true).isSome, flags := 1
        cycle := match p.cycleAround r.sFirst false with
          | some c => c.1
          | none => p.cycle + 1 }
      else r
    let fill := bad 2 || (List.range 5).any fun i => bad (i + 3)
    some (if fill then s.heldSeg r else r, fill)

/-- Whether a span has been filled already: a record whose word 2 was lost has stood for the rest of its cycle (R259). -/
def Point.covers (p : Point) (r : SegRec) : Bool :=
  match p.expect with
  | some e => decide (r.sFirst < e) && decide (r.sEnd ≤ e)
  | none => false

/-- Filled spans count in EXCLUDED (R259, R244). -/
def State.countFilled (s : State) : State := s.onEngine fun x => { x with excluded := incSat 32 x.excluded }

/-- The next record of Q8 taken by the commit unit; `upsets` names the bits of its words that are inverted on the way (R23, R257,
R259). -/
def State.takeSegment (s : State) (upsets : List (Nat × Nat)) : State :=
  if s.q8.length < 8 then s
  else
    let ws := crossing 64 upsets (s.q8.take 8)
    let s := s.onQ8 fun q => q.drop 8
    let s := s.poisonedN 8 (ws.filter fun w => w.poison).length
    match s.salvage ws with
    | none => s
    | some (r, filled) =>
      match (s.point r.mp).bind with
      | none => s
      | some b =>
        if (s.point r.mp).covers r then s
        else ((if filled then s.countFilled else s).fillGap r b).applySegment r b

/-- Every record of Q8 taken. -/
def State.drainSegments (s : State) : State := (List.range (s.q8.length / 8)).foldl (fun s _ => s.takeSegment []) s

end Sys2Proof.Machine
end

