-- ==== Sys2Proof/Machine/Protocol.lean ====
section
/-! DEFINITION. The commands of identity, status and notification (R154 to R158). -/
namespace Sys2Proof.Machine

/-- GET_IDENTITY (R157). -/
def cmdGetIdentity (s : State) (r : Request) : Except Deny State := do
  len r 0
  needPriv s r 0x0001
  modeResp s true
  if r.port = 3 then
    let (v, s) := s.draw
    .ok (s.replyOk r (s.identity 3 v))
  else .ok (s.replyOk r (s.identity r.port 0))

/-- GET_STATUS (R158). -/
def cmdGetStatus (s : State) (r : Request) : Except Deny State := do
  len r 0
  needPriv s r 0x0002
  modeResp s true
  .ok (s.replyOk r s.statusPayload)

/-- The latest sequence among those of the given latch bits (R154): none when no bit with a record is set. -/
def latestSeq (seqs : List Nat) : List Nat → Option Nat
  | [] => none
  | b :: r =>
    let v := seqs.getD b 0
    match latestSeq seqs r with
    | none => some v
    | some w => some (if serialLe 32 v w then w else v)

/-- READ_NOTIFY (R154). With no latch bit set that a record has set, LATCH_SEQ is not stated. -/
def cmdReadNotify (s : State) (r : Request) : Except Deny State := do
  len r 4
  reserved r 1 3
  need (decide (byteAt r 0 ≤ 126)) .badParameter
  needPriv s r 0x0005
  modeResp s true
  let p := s.port r.port
  let latch := s.latchOf r.port
  let set := (bitsSet latch.toNat 64).filter fun b => !(decide (8 ≤ b) && decide (b ≤ 10))
  let (v, s') := s.draw
  let (q, s) := match latestSeq p.latchSeq set with
    | some q => (q, s)
    | none => (v % 2 ^ 32, s')
  let rs := p.notify.take (byteAt r 0)
  .ok (s.replyOk r (le 8 latch.toNat ++ le 8 p.mask.toNat ++ le 4 q ++ le 2 (p.notify.length - rs.length)
    ++ le 2 p.overflow ++ le 2 rs.length ++ zeros 2 ++ (rs.map EvHead.bytes).flatten))

/-- The latch bits that ACK_EVENTS clears (R155): those asked for whose last record is not later than SEQ; the port-local
bits 11, 12 and 15 without regard to sequence; bits 8 to 10 never (R145, R150). -/
def Port.ackBits (p : Port) (clear seq : Nat) : Nat :=
  maskOf ((bitsSet clear 64).filter fun b =>
    if 8 ≤ b ∧ b ≤ 10 then false
    else if b = 11 ∨ b = 12 ∨ b = 15 then true
    else serialLe 32 (p.latchSeq.getD b 0) seq)

/-- ACK_EVENTS (R155). The host's acknowledgement of EV_QUEUE_POISON re-arms that event on every queue (R28). -/
def cmdAckEvents (s : State) (r : Request) : Except Deny State := do
  len r 16
  reserved r 12 4
  needPriv s r 0x0006
  modeResp s true
  let seq := fieldAt r 8 4
  let gone := (s.port r.port).ackBits (fieldAt r 0 8) seq
  let s := s.onPort r.port fun p =>
    { p with latch := p.latch &&& ~~~BitVec.ofNat 64 gone
             notify := p.notify.filter fun h => !serialLe 32 h.seq seq
             overflow := 0 }
  let s := if bit gone 13 && r.port == 0 then
      s.eachQueue fun q => { q with poisonNotified := false } else s
  .ok (s.replyOk r (le 8 (s.latchOf r.port).toNat))

/-- SET_EVENT_MASK (R156). -/
def cmdSetEventMask (s : State) (r : Request) : Except Deny State := do
  len r 8
  needPriv s r 0x0007
  modeResp s false
  let old := (s.port r.port).mask
  .ok ((s.onPort r.port fun p => { p with mask := BitVec.ofNat 64 (fieldAt r 0 8) }).replyOk r (le 8 old.toNat))

end Sys2Proof.Machine
end

