-- ==== Sys2Proof/Machine/ParamCmds.lean ====
section
/-! DEFINITION. The parameter commands (R500 to R506) and the forming of parameter sets (R35). -/
namespace Sys2Proof.Machine

/-- The bits of an identifier's value that are not reserved (R13). -/
def State.definedBits (s : State) (pid : Nat) : Nat :=
  let all := 2 ^ 32 - 1
  match islandPid pid, chanPid pid with
  | some (_, p), _ =>
    match p with
    | 1 => 0xFFFF
    | 4 => 0x3FF
    | 8 => 1
    | 9 => 0xFF
    | 10 => 0xFF
    | _ => all
  | _, some (_, p) =>
    match p with
    | 0 => 7
    | 1 => 0xFFFFFF07
    | 3 => 0xFFFF
    | 4 => 0xF
    | 5 => 1
    | _ => all
  | _, _ =>
    if 0x520 ≤ pid ∧ pid ≤ 0x532 then 0x3FF
    else if 0x210 ≤ pid ∧ pid ≤ 0x21F then s.harmMask (pid - 0x210)
    else if 0x308 ≤ pid ∧ pid ≤ 0x30B then 0xFF
    else if 0x30C ≤ pid ∧ pid ≤ 0x30F then 0xF
    else if pid = 0x311 ∨ pid = 0x312 ∨ pid = 0x314 ∨ pid = 0x315 then 2 ^ 25 - 1
    else match pid with
      | 0x12 => 0xFF
      | 0x13 => 0x1F
      | 0x21 => 0x7F
      | 0x22 => 0x7F
      | 0x140 => 0x3F
      | 0x200 => 0xFF03
      | 0x204 => 0xFFFF
      | 0x205 => 0xFF
      | 0x300 => 0xFF
      | 0x304 => 1
      | 0x400 => 0xFF
      | 0x600 => 0x3FFF
      | 0x601 => 0x3F
      | 0x603 => 0xFFFFFF
      | 0x604 => 0xFFFF
      | 0x6C3 => 3
      | _ => all

/-- The fields of channels that do not exist are reserved too: nibbles of PQ_VSRC (R500). -/
def State.vsrcMask (s : State) (pid : Nat) : Nat :=
  if 0x240 ≤ pid ∧ pid ≤ 0x27F then 2 ^ (4 * min 8 (s.nChan - 8 * (pid - 0x240))) - 1 else 2 ^ 32 - 1

/-- No reserved field of a value is set (R13). -/
def State.reservedOk (s : State) (pid : Nat) (v : BitVec 32) : Bool :=
  (v.toNat &&& (s.definedBits pid &&& s.vsrcMask pid)) == v.toNat

/-- The unit that a channel or island identifier names is retired by command (R6). -/
def State.pidRetired (s : State) (pid : Nat) : Bool :=
  match islandPid pid, chanPid pid with
  | some (n, _), _ => (s.isl n).retired
  | _, some (c, _) => (s.isl (c / 64)).retired
  | _, _ => false

/-- The channels that a value names (R174, R434). -/
def valueChans (pid : Nat) (v : BitVec 32) : List Nat :=
  match islandPid pid with
  | some (_, 4) => if bits v.toNat 0 10 = 0x3FF then [] else [bits v.toNat 0 10]
  | _ => if 0x680 ≤ pid ∧ pid ≤ 0x69F ∧ pid % 2 = 0 then [bits v.toNat 0 10] else []

/-- The metering points that a value names (R434). -/
def valuePoints (pid : Nat) (v : BitVec 32) : List Nat :=
  if 0x680 ≤ pid ∧ pid ≤ 0x69F ∧ pid % 2 = 0 then [bits v.toNat 10 8] else []

/-- Order 3 of a write of one identifier (R500, R502): an identifier of an absent unit is judged at order 4. -/
def State.write3 (s : State) (pid : Nat) (v : BitVec 32) : Except Deny Unit := do
  need (pidInRange pid) .badParameter
  need (s.pidAbsent pid || (match s.access pid with
    | none | some .ro => false
    | some _ => s.reservedOk pid v && (valueChans pid v).all fun c => decide (c < 512))) .badParameter

/-- An absent unit that a write names, in its identifier or in its value (R6, R7, R198). -/
def State.writeAbsent (s : State) (pid : Nat) (v : BitVec 32) : Bool :=
  s.pidAbsent pid || s.fabricAbsent pid v || (valueChans pid v).any (fun c => decide (s.nChan ≤ c))
    || (valuePoints pid v).any fun m => decide (s.nMp ≤ m)

/-- A retired unit that a write names (R6). -/
def State.writeRetired (s : State) (pid : Nat) (v : BitVec 32) : Bool :=
  s.pidRetired pid || (valueChans pid v).any fun c => (s.isl (c / 64)).retired

/-- Order 4 of a list of writes (R6): an absent unit before a retired one. -/
def State.write4 (s : State) (ws : List (Nat × BitVec 32)) : Except Deny Unit := do
  need (!ws.any fun e => s.writeAbsent e.1 e.2) .unitAbsent
  need (!ws.any fun e => s.writeRetired e.1 e.2) .unitRetired

/-- Order 6 of a write. -/
def State.write6 (s : State) (pid : Nat) (v : BitVec 32) : Except Deny Unit :=
  need67 (s.sealFails pid v != some .lifecycleForbids) .lifecycleForbids

/-- Order 8 of a write. -/
def State.write8 (s : State) (pid : Nat) (v : BitVec 32) : Except Deny Unit :=
  need (s.sealFails pid v != some .sealed) .sealed

/-- A parameter set committed (R35): it waits for the next round boundary. -/
def State.commitSet (s : State) (items : List EffItem) (c : CommitSet) : State :=
  s.onEngine fun e =>
    let n := e.setSeq + 1
    { e with setSeq := n
             effects := e.effects ++ items.map fun i => { item := i, set := n }
             commits := e.commits ++ [{ c with id := n }] }

/-- A value staged on a port (R503): in place of an earlier value of the same identifier, or at the end. -/
def stageIn (l : List (Nat × BitVec 32)) (pid : Nat) (v : BitVec 32) : List (Nat × BitVec 32) :=
  if l.any fun e => e.1 == pid then l.map fun e => if e.1 = pid then (pid, v) else e else l ++ [(pid, v)]

/-- Whether staging would create entry 513 (R503). -/
def stageFull (l : List (Nat × BitVec 32)) (pids : List Nat) : Bool :=
  decide (512 < l.length + (pids.filter fun p => !l.any fun e => e.1 == p).length)

/-- The first rule of the configuration that a list of writes breaks, with the index of the lowest item that enters a
failing condition (R506). -/
def State.setFails (s : State) (l : List (Nat × BitVec 32)) : Option (Nat × Status) :=
  let before := s.configured
  let after := s.withItems (l.map fun e => .pid e.1 e.2)
  let rec go : Nat → List (Nat × BitVec 32) → Option (Nat × Status)
    | _, [] => none
    | i, e :: r =>
      match itemFails before after e.1 with
      | some st => some (i, st)
      | none => go (i + 1) r
  go 0 l

/-- The rules of the configuration on writes outside COMMIT_PARAMS, through which alone the rate of a point changes (R203). -/
def State.directFails (s : State) (l : List (Nat × BitVec 32)) : Option Status :=
  let before := s.configured
  let after := s.withItems (l.map fun e => .pid e.1 e.2)
  match s.setFails l with
  | some x => some x.2
  | none =>
    if l.any fun e => match chanPid e.1 with
      | some (c, p) => (p == 4 || p == 5) && (after.pointsOf c).any (rateBreaks before after)
      | none => false
    then some .resourceBusy else none

/-- The value that a read gives: WO fields read 0 (R12). -/
def State.readValue (s : State) (pid : Nat) : Nat :=
  if pid = 0x6C3 then (s.value pid).toNat % 2 else (s.value pid).toNat

/-- GET_PARAM (R501). -/
def cmdGetParam (s : State) (r : Request) : Except Deny State := do
  len r 4
  reserved r 2 2
  let pid := fieldAt r 0 2
  need (pidInRange pid) .badParameter
  need (!s.pidAbsent pid) .unitAbsent
  needPriv s r 0x0101
  modeResp s false
  let acc := match s.access pid with
    | some a => a.num
    | none => 0
  let staged := (s.port r.port).pendingSet.any fun e => e.1 == pid
  .ok (s.replyOk r (le 2 pid ++ le 1 acc ++ le 1 (b2n staged) ++ le 4 (s.readValue pid)))

/-- SET_PARAM (R502). -/
def cmdSetParam (s : State) (r : Request) : Except Deny State := do
  let auth ← authField r 8
  let pid := fieldAt r 0 2
  let v : BitVec 32 := BitVec.ofNat 32 (fieldAt r 4 4)
  flagsWithin (byteAt r 2) 1
  reserved r 3 1
  s.write3 pid v
  s.write4 [(pid, v)]
  let anchor := if s.access pid = some .rwA then some 1 else none
  let s' ← order5 s s.time r 0x0102 anchor 8 auth
  s.write6 pid v
  modeAll s
  s.write8 pid v
  need (s.aloneOk pid v) .badParameter
  if bit (byteAt r 2) 0 then do
    need (!stageFull (s.port r.port).pendingSet [pid]) .capacity
    .ok ((s'.onPort r.port fun p => { p with pendingSet := stageIn p.pendingSet pid v }).replyOk r
      (le 2 pid ++ [1, 0]))
  else do
    match s.directFails [(pid, v)] with
    | some st => .error { status := st }
    | none => .ok ()
    .ok ((s'.commitSet [.pid pid v] { id := 0, port := some r.port, flagByte := true }).replyOk r (le 2 pid ++ [0, 0])
      .round)

/-- GET_PARAM_BLOCK (R504). -/
def cmdGetParamBlock (s : State) (r : Request) : Except Deny State := do
  len r 8
  reserved r 4 4
  let first := fieldAt r 0 2
  let n := fieldAt r 2 2
  need (within 1 1016 n && pidInRange first && decide (first + n ≤ pidRangeEnd first + 1)) .badParameter
  need (!((List.range n).any fun i => s.pidAbsent (first + i))) .unitAbsent
  needPriv s r 0x0103
  modeResp s false
  .ok (s.replyOk r (le 2 first ++ le 2 n ++ zeros 4
    ++ ((List.range n).map fun i => le 4 (s.readValue (first + i))).flatten))

/-- The values of a block as (identifier, value) pairs without those that R505 ignores: a value for an RO or unnamed
identifier that equals what the identifier reads. -/
def State.blockWrites (s : State) (first : Nat) (vs : List Nat) : List (Nat × BitVec 32) :=
  ((List.range vs.length).map fun i => (first + i, BitVec.ofNat 32 (vs.getD i 0))).filter fun e =>
    s.pidAbsent e.1 || match s.access e.1 with
    | some .ro | none => e.2.toNat != s.readValue e.1
    | some _ => true

/-- A check of every write in the order of the identifiers. -/
def checkAll (f : Nat × BitVec 32 → Except Deny Unit) : List (Nat × BitVec 32) → Except Deny Unit
  | [] => .ok ()
  | e :: r => do
    f e
    checkAll f r

/-- SET_PARAM_BLOCK (R505). -/
def cmdSetParamBlock (s : State) (r : Request) : Except Deny State := do
  let first := fieldAt r 0 2
  let n := fieldAt r 2 2
  need (decide (8 ≤ r.params.length) && within 1 1016 n) .badParameter
  need (decide (8 + 4 * n ≤ r.params.length)) .badParameter
  let auth ← authField r (8 + 4 * n)
  flagsWithin (byteAt r 4) 1
  reserved r 5 3
  need (pidInRange first && decide (first + n ≤ pidRangeEnd first + 1)) .badParameter
  let ws := s.blockWrites first ((List.range n).map fun i => fieldAt r (8 + 4 * i) 4)
  checkAll (fun e => s.write3 e.1 e.2) ws
  s.write4 ws
  let anchor := if (List.range n).any fun i => s.access (first + i) == some .rwA then some 1 else none
  let s' ← order5 s s.time r 0x0104 anchor (8 + 4 * n) auth
  checkAll (fun e => s.write6 e.1 e.2) ws
  modeAll s
  checkAll (fun e => s.write8 e.1 e.2) ws
  checkAll (fun e => need (s.aloneOk e.1 e.2) .badParameter) ws
  let payload := le 2 first ++ le 2 n ++ zeros 4
  if bit (byteAt r 4) 0 then do
    need (!stageFull (s.port r.port).pendingSet (ws.map fun e => e.1)) .capacity
    .ok ((s'.onPort r.port fun p =>
      { p with pendingSet := ws.foldl (fun l e => stageIn l e.1 e.2) p.pendingSet }).replyOk r payload)
  else do
    match s.directFails ws with
    | some st => .error { status := st }
    | none => .ok ()
    .ok ((s'.commitSet (ws.map fun e => .pid e.1 e.2) { id := 0, port := some r.port }).replyOk r payload .round)

/-- Step 1 of COMMIT_PARAMS for one staged item (R506): R12 and orders 4 to 8 in the state at that moment. -/
def State.recheck (s : State) (port : Nat) (e : Nat × BitVec 32) : Option Status :=
  let want := if s.access e.1 = some .rwA then 24 else 8
  if s.writeAbsent e.1 e.2 then some .unitAbsent
  else if s.writeRetired e.1 e.2 then some .unitRetired
  else if (s.portMask port &&& want) != want then some .authorityRequired
  else match s.sealFails e.1 e.2 with
    | some st => some st
    | none => if s.aloneOk e.1 e.2 then none else some .badParameter

/-- The lowest item that fails step 1, with its status. -/
def State.recheckAll (s : State) (port : Nat) : Nat → List (Nat × BitVec 32) → Option (Nat × Status)
  | _, [] => none
  | i, e :: r =>
    match s.recheck port e with
    | some st => some (i, st)
    | none => s.recheckAll port (i + 1) r

/-- The lower of two failures by item index; at one index the first stands (R506: the order of the completion table). -/
def lowerFail : Option (Nat × Status) → Option (Nat × Status) → Option (Nat × Status)
  | some a, some b => if a.1 ≤ b.1 then some a else some b
  | some a, none => some a
  | none, b => b

/-- COMMIT_PARAMS (R506). -/
def cmdCommitParams (s : State) (r : Request) : Except Deny State := do
  len r 4
  flagsWithin (byteAt r 0) 1
  reserved r 1 3
  needPriv s r 0x0105
  modeAll s
  let l := (s.port r.port).pendingSet
  let s0 := s.onPort r.port fun p => { p with pendingSet := [] }
  if bit (byteAt r 0) 0 then .ok (s0.replyOk r (le 2 l.length ++ zeros 2))
  else do
    need (!l.isEmpty) .badParameter
    match s0.accept r 0x0105 with
    | none => .error { status := .noHandle }
    | some (s1, o) =>
      match lowerFail (s1.recheckAll r.port 0 l) (s1.setFails l) with
      | some (i, st) => .ok (s1.finish o st i 0)
      | none =>
        .ok ((s1.commitOp o).commitSet (l.map fun e => .pid e.1 e.2) { id := 0, op := some o, result := l.length })

end Sys2Proof.Machine
end

