-- ==== Sys2Proof/Machine/Points.lean ====
section
/-! DEFINITION. Binding and unbinding of points (R245 to R249), readings (R272, R273), and the load of a filter bank (R206). -/
namespace Sys2Proof.Machine

/-! ## BIND_MP (R248) -/

/-- The slots of V1 to V3, I1 to I3 and N that a type must use, and those that it may use (R245). -/
def typeSlots : Nat → List Nat × List Nat
  | 0 => ([0, 3, 6], [])
  | 1 => ([0, 1, 2, 3, 4, 5], [6])
  | _ => ([0, 2, 3, 5], [])

/-- The channels of a binding are exactly those that its type takes, with their roles (R245, R246). -/
def State.bindingOk (s : State) (b : Binding) : Bool :=
  let ts := typeSlots b.type
  (List.range 7).all fun i =>
    let c := b.ch.getD i 0xFFFF
    let role := if i < 3 then 1 else if i < 6 then 2 else 3
    if c = 0xFFFF then !ts.1.contains i
    else (ts.1.contains i || ts.2.contains i) && (s.chan c).set.role == role && (s.chan c).fs != 0

/-- The estimate causes that hold for a point when it is bound (R239). -/
def State.initialCauses (s : State) (m : Nat) (b : Binding) : State :=
  let s := b.chans.foldl (fun s c => if (s.chan c).check = .failed then s.setCause m 0 (c / 64) [c] else s) s
  let s := b.chans.foldl (fun s c => if s.islOn (c / 64) then s else s.setCause m 1 (c / 64) [c]) s
  let s := if s.clock.refLost then s.setCause m 2 else s
  if s.mode.d2Trace then s.setCause m 3 else s

/-- A point with a new binding: its registers, ledger values and gathered data start anew (R248, R348). What belongs to the
point's number, and the relay's override, lock and directive, stays. -/
def Point.rebind (p : Point) (b : Binding) (rate : Nat) (friendly : Bool) (day : Int) : Point :=
  let l := p.ledger
  { bind := some b, pseq := p.pseq, pend := p.pend, pmark := p.pmark, wrapRaised := p.wrapRaised
    sseq := p.sseq, snapCount := p.snapCount, rate := rate, friendly := friendly, subTime := b.time, profTime := b.time
    billStart := b.time, seqBase := p.seqBase, freeze := []
    ledger := { override := l.override, overrideEnd := l.overrideEnd, openLocked := l.openLocked, testEnd := l.testEnd
                recon := l.recon, open_ := l.open_, causes := l.causes, lastDay := day } }

/-- The points whose first voltage channel is a channel. -/
def State.pointsLed (s : State) (v : Nat) : List Nat :=
  s.boundPoints.filter fun m => match (s.point m).bind with
    | some b => b.v1 == v
    | none => false

/-- The gates of a first voltage channel without a measured crossing lie at START plus whole nominal periods (R248). Where it leads
another point already, its gates count from that point's START: DESIGN CHOICE, log entry 167. -/
def State.gateFrom (s : State) (b : Binding) : State :=
  let first := (s.pointsLed b.v1).length == 1
  s.onChan b.v1 fun h => if first && h.lastCross.isNone then { h with nextGate := b.start } else h

/-- Whether a configuration needs an operating point that the adaptive loop has still to reach (R222). -/
def State.mustClimb (s : State) (load : Nat) : Bool :=
  s.hasAdapt && decide (100 * load > 85 * s.lanesOn * pointKhz s.engine.clockPoint * 1000)

/-- BIND_MP (R248). On a variant with the adaptive loop START and the reply wait until the loop holds the new load (R222). -/
def cmdBindMp (s : State) (r : Request) : Except Deny State := do
  let auth ← authField r 36
  let m := byteAt r 0
  let ch := (List.range 7).map fun i => fieldAt r (4 + 2 * i) 2
  need (decide (byteAt r 1 ≤ 2) && decide (byteAt r 2 < 4) && decide (byteAt r 3 ≤ 3)
    && ch.all fun c => c == 0xFFFF || decide (c < 512)) .badParameter
  reserved r 18 2
  needPoint s m
  needChans s (ch.filter fun c => c != 0xFFFF)
  let s' ← order5 s s.time r 0x0201 s.opsWhenSealed 36 auth
  notRetired s
  modeNoCal s
  let start := s.nextRound
  let b : Binding := { type := byteAt r 1, flags := byteAt r 2, plan := byteAt r 3, ch := ch, mpId := sub r.params 20 16
                       seq := s.bindSeq + 1, start := start, time := s.timeOf start }
  let taken := (ch.drop 3).any fun c => c != 0xFFFF && s.bound c
  need ((s.point m).bind.isNone && !taken) .resourceBusy
  let conf := s.configured
  need (conf.bindingOk b) .badParameter
  let after := conf.onPoint m fun p => { p with bind := some b }
  need (after.ratesOk m) .badParameter
  let same := fun (x : State) => (x.boundPoints.filter fun k => match (x.point k).bind with
    | some y => y.isRef == b.isRef
    | none => false).length
  need (decide (same after ≤ if b.isRef then s.refMax else s.billMax) && !capacityFails conf after) .capacity
  let day := s.standardMin b.time / 1440
  let pl := s.plan b.plan
  let s := s'.onPoint m fun p => p.rebind b pl.rate pl.friendly day
  let s := ((s.setBindSeq b.seq).configWrite).initialCauses m b
  let out := le 4 b.seq ++ le 4 (after.load / 1000)
  if s.mustClimb after.load then
    let s := s.onPoint m fun p => { p with bind := p.bind.map fun b => { b with start := 2 ^ 56 - 1 } }
    .ok ((s.replyOk r out .round).onEngine fun e => { e with loopBinds := e.loopBinds ++ [(m, r.port)] })
  else .ok ((s.gateFrom b).replyOk r (out ++ sample8 start))

/-! ## UNBIND_MP (R249) -/

/-- UNBIND_MP (R249). -/
def cmdUnbindMp (s : State) (r : Request) : Except Deny State := do
  let auth ← authField r 4
  let m := byteAt r 0
  reserved r 1 3
  needPoint s m
  let s' ← order5 s s.time r 0x0202 s.opsWhenSealed 4 auth
  notRetired s
  modeNoCal s
  match (s.point m).bind with
  | none => .error { status := .badParameter }
  | some b =>
    let refs := s.groups.any fun g =>
      (g.set.window != 0 && g.set.ref == m) || match g.next with
        | some x => x.window != 0 && x.ref == m
        | none => false
    need (!refs && (s.point m).unbindAt.isNone) .resourceBusy
    let fin := s.nextRound
    .ok (((s'.onPoint m fun p => { p with unbindAt := some fin }).configWrite).replyOk r (le 4 b.seq ++ sample8 fin))

/-- Whether segments of a point are still on their way to the commit unit. -/
def State.segsWaiting (s : State) (m : Nat) : Bool :=
  (List.range (s.q8.length / 8)).any fun i => bits ((s.q8.getD (8 * i) {}).data) 0 8 == m

/-- A point removed from every member mask, and its pulse outputs turned off (R249). -/
def State.leaveGroups (s : State) (m : Nat) : State :=
  let clear := fun (x : BalSetting) => { x with members := x.members &&& ~~~BitVec.ofNat 256 (2 ^ m) }
  (s.eachGroup fun g => { g with set := clear g.set, next := g.next.map clear }).eachPulse fun x =>
    if x.mp = m ∧ x.quantity ≠ 0xFF then
      { x with quantity := 0xFF, acc := 0, level := false, edges := [], next := none } else x

/-- The final record of a point, then UNBIND and UNBIND_RATES (R249, R348). -/
def State.unbindRecords (s : State) (m : Nat) (b : Binding) : State :=
  let p := s.point m
  let l := p.ledger
  let regs := fun a n => ((List.range n).map fun i => le 8 (p.reg.getD (a + i) 0)).flatten
  let s := s.writePoint m 4
  let s := s.note s.now 0x41 2 m (le 1 m ++ le 4 b.seq ++ leI 8 l.credit ++ le 4 l.h ++ le 4 l.ec.num ++ regs 0 13)
  let s := s.note s.now 0x48 2 m (le 1 m ++ le 4 b.seq ++ regs 13 16)
  s.onPoint m fun p => { p with unbindOut := true }

/-- Whether an event record is the head of the UNBIND_RATES record of point m. -/
def EvRecord.isUnbindRates (m : Nat) (r : EvRecord) : Bool :=
  match r.head with
  | some h => h.code == 0x48 && h.srcIdx == m
  | none => false

/-- Whether the UNBIND_RATES record of a point is still waiting in Q13, in the staging queue of a frozen log, or for the store
writer (R249). -/
def State.unbindWaits (s : State) (m : Nat) : Bool :=
  (s.events.q13.any fun g => g.code == 0x48 && g.srcIdx == m)
    || (match s.events.freeze with
      | some f => f.staged.any fun g => g.recs.any (EvRecord.isUnbindRates m)
      | none => false)
    || s.store.jobs.any fun j => j.recs.any fun r => match r with
      | .event e => e.isUnbindRates m
      | _ => false

/-- The channels freed and the point gone, once UNBIND_RATES is written (R249). -/
def State.unbound (s : State) (m : Nat) : State :=
  ((s.leaveGroups m).configWrite).onPoint m fun p => { p with
    bind := none, unbindAt := none, unbindOut := false, causes := 0, estEnd := 0, slots := [], freeze := [], prev := []
    recent := [], expect := none, balance := [] }

/-- What an unbinding does next: its records once the open cycle has committed, and its end once they are written
(R249, R348). -/
def State.finishUnbind (s : State) (m : Nat) : State :=
  let p := s.point m
  match p.bind, p.unbindAt with
  | some b, some at_ =>
    if p.unbindOut then (if s.unbindWaits m then s else s.unbound m)
    else if s.now < at_ ∨ p.slots.isEmpty = false ∨ s.segsWaiting m = true then s
    else s.unbindRecords m b
  | _, _ => s

/-- Every unbinding that has come to its end. -/
def State.finishUnbinds (s : State) : State := (List.range s.nMp).foldl State.finishUnbind s

/-! ## READ_REGISTERS (R272) -/

/-- The 336-byte record of a point (R272). -/
def State.registerRecord (s : State) (m : Nat) : List Byte :=
  let p := s.point m
  match p.bind with
  | none => le 1 m ++ zeros 335
  | some b =>
    let at_ := if p.sEnd = 0 then b.start else p.sEnd
    let lg := s.legal m
    le 1 m ++ le 1 (1 + 2 * b2n b.isRef + 4 * b2n (bit b.flags 1)) ++ le 1 p.causes ++ zeros 1 ++ sample8 at_ ++ le 4 p.cycle
      ++ time6 (s.timeOf at_) ++ zeros 2 ++ ((List.range 29).map fun i => le 8 (p.reg.getD i 0)).flatten
      ++ le 8 (lg.getD 0 0) ++ le 8 (lg.getD 1 0) ++ le 2 (lg.getD 2 0) ++ le 2 (lg.getD 3 0) ++ le 4 p.estCycles
      ++ ((List.range 13).map fun i => le 4 (p.residue.getD i 0)).flatten ++ le 4 b.seq

/-- READ_REGISTERS (R272). -/
def cmdReadRegisters (s : State) (r : Request) : Except Deny State := do
  len r 4
  reserved r 2 2
  let first := byteAt r 0
  let n := byteAt r 1
  need (within 1 12 n && decide (first + n ≤ 256)) .badParameter
  need (decide (first + n ≤ s.nMp)) .unitAbsent
  needPriv s r 0x0203
  modeResp s true
  .ok (s.replyOk r (le 2 n ++ zeros 6 ++ ((List.range n).map fun i => s.registerRecord (first + i)).flatten))

/-! ## READ_INSTANT (R273) -/

/-- The record of a channel. -/
def State.channelInstant (s : State) (c : Nat) : List Byte :=
  let h := s.chan c
  let env := h.env / 65536
  let body := if h.set.role = 4 then
      le 1 h.auxMean.flags ++ leI 4 h.auxLast ++ leI 4 h.auxMean.v ++ zeros 8 ++ leI 4 h.rmsWin.peak ++ le 4 env
    else
      le 1 h.rmsCycle.flags ++ leI 4 h.rmsHalf.v ++ leI 4 h.rmsCycle.v ++ leI 4 h.rmsWin.v ++ leI 4 h.rmsSec.v
        ++ leI 4 h.rmsWin.peak ++ le 4 env
  le 2 c ++ le 1 h.set.role ++ body ++ zeros 4

/-- The power of an energy over a number of slots (R273). -/
def powerOf (e : Int) (n : Nat) : Int := if n = 0 then 0 else satI 32 (roundDiv (e * 460800000) (n * 2 ^ 32))

/-- The record of a metering point. -/
def State.pointInstant (s : State) (m : Nat) : List Byte :=
  let p := s.point m
  if p.bind.isNone ∨ p.lastLen = 0 then le 1 m ++ zeros 31
  else
    let w := fun i => powerOf (p.last.getD i 0) p.lastLen
    let pf : Int := if w 2 = 0 then 0 else roundDiv (10000 * w 0 * (w 2).sign) (w 2).natAbs
    le 1 m ++ zeros 1 ++ le 2 p.lastFlags ++ le 4 p.cycle ++ leI 4 (w 0) ++ leI 4 (w 1) ++ leI 4 (w 2) ++ leI 4 (w 3)
      ++ le 4 (roundDivN 128000000 p.lastLen) ++ leI 2 (satI 16 pf) ++ zeros 2

/-- The record of a pulse output. -/
def State.pulseInstant (s : State) (o : Nat) : List Byte :=
  let x := s.pulses.getD o {}
  le 1 o ++ le 1 x.mp ++ le 1 x.quantity ++ le 1 x.width ++ le 4 x.constant ++ le 8 x.acc ++ le 2 x.late ++ le 2 x.crowded
    ++ le 2 x.discarded ++ zeros 10

/-- READ_INSTANT (R273). -/
def cmdReadInstant (s : State) (r : Request) : Except Deny State := do
  len r 4
  let k := byteAt r 0
  let n := byteAt r 1
  let first := fieldAt r 2 2
  let limit := if k = 0 then 512 else if k = 1 then 256 else 8
  need (decide (k ≤ 2) && within 1 126 n && decide (first + n ≤ limit)) .badParameter
  need (decide (first + n ≤ if k = 0 then s.nChan else if k = 1 then s.nMp else 8)) .unitAbsent
  needChans s (if k = 0 then (List.range n).map fun i => first + i else [])
  needPriv s r 0x0204
  modeResp s false
  let f := if k = 0 then s.channelInstant else if k = 1 then s.pointInstant else s.pulseInstant
  .ok (s.replyOk r (le 2 n ++ zeros 6 ++ ((List.range n).map fun i => f (first + i)).flatten))

/-! ## Gates of a channel (R163, R177) -/

/-- The voltage channel that gates a channel, or none for fixed windows (R163). -/
def State.gateRef (s : State) (c : Nat) : Option Nat :=
  let t := (s.chan c).set
  let g := s.parN (0x700 + 32 * (c / 64) + 4)
  let spare := if g = 0x3FF then none else some g
  let bound := fun (f : Binding → Option Nat) => match s.pointsOf c with
    | m :: _ => match (s.point m).bind with
      | some b => f b
      | none => spare
    | [] => spare
  match t.role with
  | 1 => some c
  | 2 => bound fun b => match b.elements.find? fun e => e.2 == c with
    | some e => some e.1
    | none => spare
  | 3 => bound fun b => some b.v1
  | 5 => spare
  | _ => none

/-- The nominal period in slots (R248). -/
def State.nominalSlots (s : State) : Nat := if s.nominalHz = 60 then 2133 else 2560

/-- The first gate of a voltage channel at or after a slot that R177 predicts: the last measured crossing and period, or the
continued gates. -/
def State.predictGate (s : State) (v from_ : Nat) : Nat :=
  let h := s.chan v
  let per := if h.period = 0 then s.nominalSlots * 256 else h.period
  let base := match h.lastCross with
    | some x => x
    | none => if h.nextGate = 0 then from_ * 256 else h.nextGate * 256
  let k := if base < from_ * 256 then ceilDiv (from_ * 256 - base - 128) per else 0
  roundDivN (base + k * per) 256

/-- The first gate of a channel at or after a slot: fixed windows have gates at multiples of 2 560 (R177). -/
def State.gateAfter (s : State) (c from_ : Nat) : Nat :=
  match s.gateRef c with
  | some v => s.predictGate v from_
  | none => nextMul from_ 2560

/-- The step instant that can be named for a channel now (R208): for a channel of the metering group its next cycle boundary
as predicted, for any other the next round boundary. -/
def State.stepAhead (s : State) (c : Nat) : Nat :=
  if meteringRole (s.chan c).set.role then s.gateAfter c s.now else s.nextRound

/-! ## LOAD_FIR_BANK (R206, R207) -/

/-- The channels that select a bank (R207). A channel of role OFF whose CH_FIR_BANK names the bank has nothing to switch and is left
out: DESIGN CHOICE, log entry 165. -/
def State.selecting (s : State) (n : Nat) : List Nat :=
  (List.range s.nChan).filter fun c =>
    let t := (s.chan c).set
    t.role != 0 && !t.single && t.bank == n

/-- The coefficients of R206. -/
def readCoeff (bs : List Byte) (t : Nat) : List Int := (List.range t).map fun i => fldI bs (3 * i) 3

/-- A bank reloaded: its channels switch at their own step instants (R207). -/
def State.loadBank (s : State) (n taps k : Nat) (cs : List Int) : State :=
  let chans := s.selecting n
  s.onEngine fun e => { e with banks := upd e.banks n fun b =>
    { taps := taps, k := k, coeff := cs, old := if chans.isEmpty then none else some (b.taps, b.k, b.coeff), pending := chans
      from_ := s.now } }

/-- The order 9 checks of a bank load, and the load itself with its reply payload (R206). -/
def State.tryLoadBank (s : State) (n taps k : Nat) (cs : List Int) (bytes : List Byte) : Except Deny (State × List Byte) := do
  need (s.bank n).pending.isEmpty .resourceBusy
  let conf := s.configured
  let after := s.withItems [.bank n taps k cs]
  need (!after.boundPoints.any (rateBreaks conf after)) .resourceBusy
  need (!capacityFails conf after) .capacity
  let chans := s.selecting n
  let at_ := (chans.map s.stepAhead).foldl min (2 ^ 56)
  let wait := s.mustClimb after.load && decide (conf.load < after.load)
  let s' := (s.loadBank n taps k cs).onEngine fun e => { e with
    banks := upd e.banks n fun b => if wait then { b with waits := true, from_ := s.nextRound + 1 } else b }
  .ok (s'.configWrite, le 1 n ++ le 1 (b2n (!chans.isEmpty)) ++ le 4 (crc32c bytes).toNat
    ++ le 2 chans.length ++ sample8 (if chans.isEmpty then 0 else at_))

/-- LOAD_FIR_BANK (R206). -/
def cmdLoadFirBank (s : State) (r : Request) : Except Deny State := do
  let n := byteAt r 0
  let k := byteAt r 1
  let t := fieldAt r 2 2
  need (decide (8 ≤ r.params.length) && decide (n ≤ 15) && within 1 5 k && within 1 320 t
    && r.params.length == 8 + 3 * t) .badParameter
  reserved r 4 4
  needPriv s r 0x0106
  notRetired s
  modeAll s
  need (!(s.life == .sealed && s.configured.bankInUse n)) .sealed
  let x ← s.tryLoadBank n t k (readCoeff (r.params.drop 8) t) (r.params.drop 8)
  .ok (x.1.replyOk r x.2)

end Sys2Proof.Machine
end

