-- ==== Sys2Proof/Machine/Trig.lean ====
section
/-! DEFINITION. Sines, cosines and arctangents in fixed point, far beyond the precision that the roundings of R250, R251 and
R286 need, and the Hilbert transformer (R250). -/
namespace Sys2Proof.Machine

/-- The scale of fixed-point values. -/
def fxOne : Int := 2 ^ 128

/-- pi at that scale. -/
def fxPi : Int := 1069028584064966747859680373161870783301

/-- The sum of a Taylor series: the term at index k gives the next one through x^2 / ((k + 1)(k + 2)), with alternating
signs. -/
def taylor (x2 : Int) : Nat → Nat → Int → Int
  | 0, _, _ => 0
  | n + 1, k, t => t + taylor x2 n (k + 2) (-(t * x2 / fxOne / ((k + 1) * (k + 2) : Nat)))

/-- The angle of a fraction a / b of a turn, reduced to less than one turn either way. -/
def angleOf (a : Int) (b : Nat) : Int := 2 * fxPi * (a % (b : Int)) / (b : Int)

/-- cos(2 pi a / b). -/
def cosTurn (a : Int) (b : Nat) : Int := let x := angleOf a b; taylor (x * x / fxOne) 50 0 fxOne

/-- sin(2 pi a / b). -/
def sinTurn (a : Int) (b : Nat) : Int := let x := angleOf a b; taylor (x * x / fxOne) 50 1 x

/-- round_half_even(2^22 cos(2 pi a / b)) (R251, R286). -/
def cw (a b : Nat) : Int := roundDiv (2 ^ 22 * cosTurn a b) fxOne.toNat

/-- round_half_even(2^22 sin(2 pi a / b)) (R251, R286). -/
def sw (a b : Nat) : Int := roundDiv (2 ^ 22 * sinTurn a b) fxOne.toNat

/-- atan(t) for a fixed-point t of magnitude at most 1/4: t - t^3/3 + .... -/
def atanSeries (t2 : Int) : Nat → Nat → Int → Int
  | 0, _, _ => 0
  | n + 1, k, p => p / (k : Int) + atanSeries t2 n (k + 2) (-(p * t2 / fxOne))

/-- atan of a fraction y / x with 0 <= y <= x and 0 < x, by two halvings of the angle. -/
def atanFrac (y x : Nat) : Int :=
  let half := fun (t : Int) => t * fxOne / (fxOne + (Nat.sqrt ((fxOne * fxOne + t * t).toNat) : Int))
  let t := half (half ((y : Int) * fxOne / (x : Int)))
  4 * atanSeries (t * t / fxOne) 60 1 t

/-- round_half_even(65 536 atan2(y, x) / 2 pi) mod 65 536 (R286). -/
def phaseOf (y x : Int) : Nat :=
  let a := x.natAbs
  let b := y.natAbs
  if a = 0 ∧ b = 0 then 0
  else
    let q := if b ≤ a then atanFrac b a else fxPi / 2 - atanFrac a b
    let p := if 0 ≤ x then q else fxPi - q
    let r := if 0 ≤ y then p else -p
    (roundDiv (65536 * r) (2 * fxPi).toNat % 65536).toNat

/-- hb[m] for a positive odd m (R250). -/
def hilbertTap (m : Nat) : Int :=
  roundDiv (2 ^ 24 * (54 * fxOne + 46 * cosTurn m 64)) (100 * m * fxPi.toNat)

/-- hb[1], hb[3] to hb[31] (R250); hb[-m] is -hb[m], and even taps are 0. -/
def hilbertTaps : List Int := (List.range 16).map fun j => hilbertTap (2 * j + 1)

/-- gq of R250 for an output period of p slots and a cycle of num / den slots. -/
def hilbertGain (p num den : Nat) : Int :=
  let g := (List.range 16).foldl (fun a j => a + 2 * hilbertTaps.getD j 0 * sinTurn ((2 * j + 1) * p * den) num) 0
  if g ≤ 0 then 0 else roundDiv (2 ^ 47 * fxOne) g.toNat

end Sys2Proof.Machine
end

