-- ==== Sys2Proof/Machine/Filter.lean ====
section
/-! DEFINITION. The way of a sample: decimator (R185 to R187), delay and fabric (R188 to R196), filter and correction (R200 to
R210, R219), envelope (R215) and overload episodes (R168, R169). -/
namespace Sys2Proof.Machine

/-! ## Decimator (R185, R186, R168) -/

/-- One modulator clock: three integrators of 20 bits. -/
def Channel.clockBit (h : Channel) (b : Bool) : Channel :=
  let i1 := h.int1 + (if b then 1 else -1)
  let i2 := h.int2 + i1
  { h with int1 := i1, int2 := i2, int3 := h.int3 + i2 }

/-- k modulator clocks, bit 0 first. -/
def Channel.clocks : Nat → BitVec 64 → Channel → Channel
  | 0, _, h => h
  | k + 1, w, h => Channel.clocks k (w >>> 1) (h.clockBit (w.getLsbD 0))

/-- The samples before the delay that the model keeps: the integer delay and what a step may need again. -/
def rawKept : Nat := 1536

/-- One sample period of a channel: 64 clocks, three combs, the limit of R186 and the flag of R168. `bad` tells
that the island is in a fault (R172). -/
def Channel.sample (h : Channel) (w : ModWord) (bad : Bool) : Channel :=
  let h := h.clocks 64 w.bits
  let d1 := h.int3 - h.comb1
  let d2 := d1 - h.comb2
  let d3 := d2 - h.comb3
  let x := clampI (-262143) 262143 d3.toInt
  let v : Sample := { x := x, ovl := decide (214958 < x.natAbs) || w.limit || h.limitHist.any id
                      poison := bad }
  { h with comb1 := h.int3, comb2 := d1, comb3 := d2, limitHist := (w.limit :: h.limitHist).take 2
           delayLine := (v :: h.delayLine).take rawKept }

/-- The modulator words of a channel in a round; a channel that the input does not list, or lists in part, has an idle
modulator with alternating bits. -/
def roundWords (a : RoundInput) (c : Nat) : List ModWord :=
  let ws := match a.mods.find? fun e => e.1 == c with
    | some e => e.2.take 256
    | none => []
  ws ++ List.replicate (256 - ws.length) { bits := 0xAAAAAAAAAAAAAAAA }

/-! ## Fabric words (R190 to R193) -/

/-- The exponent of a block (R193): the smallest from e upward, at most 5, at which every mantissa fits. -/
def blockExp (xs : List Int) : Nat → Nat → Nat
  | 0, e => e
  | k + 1, e => if xs.any fun x => decide (8191 < (roundDiv x (2 ^ e)).natAbs) then blockExp xs k (e + 1) else e

/-- The uncompressed unit of a sample in slot s (R191): the high word and the low word. -/
def packSample (s : Nat) (v : Sample) : List QWord :=
  let x := toTwos 19 v.x
  [wordOf 14 (x / 32) v.poison,
   wordOf 14 (x % 32 * 512 + 256 * b2n v.ovl + 128 * b2n v.settle + 64 * b2n v.tap + s % 32) v.poison]

/-- The compressed unit of a block of samples whose first slot is s (R192, R193): the header and the mantissas. -/
def packBlock (s : Nat) (b : List Sample) : List QWord :=
  let e := blockExp (b.map fun v => v.x) 5 0
  let any := fun (f : Sample → Bool) => b2n (b.any f)
  wordOf 14 (2048 * e + 1024 * any (fun v => v.ovl) + 512 * any (fun v => v.settle) + 256 * any (fun v => v.tap) + s / 8 % 128)
    :: b.map fun v => wordOf 14 (toTwos 14 (clampI (-8191) 8191 (roundDiv v.x (2 ^ e)))) v.poison

/-- The words of one channel for the slots from s on (R190), one list for each unit. -/
def packUnits (comp : Bool) : Nat → Nat → List Sample → List (List QWord)
  | 0, _, _ => []
  | k + 1, s, vs =>
    if vs.isEmpty then []
    else if comp then packBlock s (vs.take 8) :: packUnits comp k (s + 8) (vs.drop 8)
    else (vs.take 1).flatMap (packSample s) :: packUnits comp k (s + 1) (vs.drop 1)

/-- What the staging buffer makes of one unit (R196): its samples, and whether its sequence field is not the expected one. Nothing
of a poisoned word is used. -/
structure UnitRead where
  samples : List Sample
  wrong : Bool := false

/-- A sample of which nothing is used. -/
def lostSample : Sample := { poison := true }

/-- An uncompressed unit read in slot s (R191, R196). -/
def readSample (s : Nat) (ws : List QWord) : UnitRead :=
  let h := ws.getD 0 {}
  let l := ws.getD 1 {}
  if h.poison || l.poison then { samples := [lostSample] }
  else if l.data % 32 ≠ s % 32 then { samples := [lostSample], wrong := true }
  else { samples := [{ x := ofTwos 14 h.data * 32 + (l.data / 512 : Nat), ovl := bit l.data 8, settle := bit l.data 7
                       tap := bit l.data 6 }] }

/-- A compressed unit read whose first slot is s (R192, R193, R196). -/
def readBlock (s : Nat) (ws : List QWord) : UnitRead :=
  let h := ws.getD 0 {}
  let ms := ws.drop 1
  let lost := ms.map fun _ => lostSample
  if h.poison then { samples := lost }
  else if h.data % 128 ≠ s / 8 % 128 then { samples := lost, wrong := true }
  else if 6 ≤ h.data / 2048 ∨ bit h.data 7 = true then { samples := lost }
  else { samples := ms.map fun m =>
    if m.poison || m.data == 0x2000 then lostSample
    else { x := ofTwos 14 m.data * (2 ^ (h.data / 2048) : Nat), ovl := bit h.data 10, settle := bit h.data 9, tap := bit h.data 8 } }

/-- The slots that a channel's slots lie among: whole blocks in the compressed form (R190). -/
def blockStart (comp : Bool) (t : Nat) : Nat := if comp then t / 8 * 8 else t

/-- Samples as an undamaged fabric carries them (R191 to R193): those of the slots from s on, of whole blocks in the compressed
form. -/
def carried (comp : Bool) (s : Nat) (vs : List Sample) : List Sample :=
  let w := if comp then 8 else 1
  let us := packUnits comp vs.length s vs
  (List.zip us (List.range us.length)).flatMap fun u =>
    let r := if comp then readBlock (s + w * u.2) u.1 else readSample (s + w * u.2) u.1
    r.samples

/-- Whether a second of the island integrates a channel in a slot (the checker tap, R192). -/
def State.tapAt (s : State) (c slot : Nat) : Bool :=
  let i := s.isl (c / 64)
  (i.a.runs ++ i.b.runs).any fun r => r.ch == c && decide (r.start ≤ slot) && decide (slot < r.endGate)

/-- The slot values of a channel for the slots from..to - 1, oldest first, with integer delay d: `last` is the sampling
instant of the newest sample; the first 3 slots of an island step carry the settling flag (R187). -/
def Channel.slotValues (h : Channel) (d last from_ upTo : Nat) (tap : Nat → Bool) : List Sample :=
  ((List.range (upTo - from_)).map fun k =>
    let v := (h.delayLine.drop (last + d - (from_ + k))).headD {}
    { v with tap := tap (from_ + k)
             settle := h.islSettle && decide (h.settleFrom ≤ from_ + k) && decide (from_ + k < h.settleFrom + 3) })

/-- The slot values that a channel keeps. -/
def histKept : Nat := 1536

/-! ## Overload episodes (R169) and the comparator's sum (R178) -/

/-- One more flagged slot among the runs of flagged samples, of which those of the last 9 000 slots are kept (R170). -/
def flagAt (t : Nat) (l : List (Nat × Nat)) : List (Nat × Nat) :=
  match l with
  | (a, b) :: r => if b = t then (a, t + 1) :: r else (t, t + 1) :: l.filter fun x => decide (t < x.2 + 9000)
  | [] => [(t, t + 1)]

/-- One sample of slot t through the episode logic (R169) with integer delay d: true when an episode begins. -/
def Channel.episode (d t : Nat) (v : Sample) (h : Channel) : Channel × Bool :=
  let h := if h.overload then { h with overMax := max h.overMax v.x.natAbs } else h
  if v.ovl then
    let h := { h with flagRuns := flagAt t h.flagRuns }
    if h.overload = false ∧ 2560 ≤ h.unflagged then
      ({ h with overload := true, unflagged := 0, overStart := t - d, overMax := v.x.natAbs, overM2 := none }, true)
    else ({ h with unflagged := 0 }, false)
  else
    let h := { h with unflagged := h.unflagged + 1 }
    if h.overload && h.unflagged == 2560 then
      ({ h with overload := false, overM2 := none, overEnds := h.overEnds ++
          [{ start := h.overStart, fin := t + 1 - d, max := h.overMax, m2 := h.overM2 }] }, false)
    else (h, false)

/-- The samples of a channel's slots, oldest first from slot t, through the episode logic, with the starts of the episodes that
begin and their first |x|. -/
def Channel.episodes (d : Nat) : Nat → List Sample → Channel → Channel × List (Nat × Nat)
  | _, [], h => (h, [])
  | t, v :: r, h =>
    let x := h.episode d t v
    let y := Channel.episodes d (t + 1) r x.1
    (y.1, if x.2 then (t - d, v.x.natAbs) :: y.2 else y.2)

/-- EV_CHANNEL_OVERLOAD at the start of an episode: the channel and the start sample (R169, R293). -/
def State.overloadStart (s : State) (c at_ max : Nat) : State :=
  let g := s.group at_ 17 1 c (le 2 c ++ sample7 at_)
  (s.report g 3 (c / 64) (s.pointsOf c) [c] max c).captureTrigger at_ 5 c (some c)

/-- The comparator adds the samples of a channel whose sampling instants lie in an integration's span (R178, R193): those of the
slots from t on, with integer delay d and offset off. -/
def Integ.add (d : Nat) (off : Int) : Nat → List Sample → Integ → Integ
  | _, [], r => r
  | t, v :: l, r =>
    Integ.add d off (t + 1) l (if decide (r.start + d ≤ t) && decide (t < r.endGate + d) then
      { r with sum := r.sum + (256 * v.x - off).natAbs, void := r.void || v.poison || v.settle || v.ovl } else r)

/-- The slot values of a channel's history in a span of slots, oldest first; the newest one is that of the slot before now. -/
def Channel.values (h : Channel) (now from_ upTo : Nat) : List Sample := ((h.hist.drop (now - upTo)).take (upTo - from_)).reverse

/-- The samples of a channel up to a slot taken by the overload logic and the comparator. -/
def State.takeSamples (s : State) (c upTo : Nat) : State :=
  let h := s.chan c
  let from_ := max h.takenAt (s.now - h.hist.length)
  if upTo ≤ from_ then s
  else
    let vs := h.values s.now from_ upTo
    let x := h.episodes h.set.int from_ vs
    let add := fun (y : Second) => { y with runs := y.runs.map fun r => if r.ch = c then r.add h.set.int h.set.off from_ vs else r }
    let s := s.onChan c fun _ => { x.1 with takenAt := upTo }
    let s := if (s.isl (c / 64)).a.runs.any (fun r => r.ch == c) || (s.isl (c / 64)).b.runs.any fun r => r.ch == c then
        s.onIsland (c / 64) fun i => { i with a := add i.a, b := add i.b } else s
    x.2.foldl (fun s e => s.overloadStart c e.1 e.2) s

/-! ## Filter (R200 to R210) -/

/-- T, K and the coefficients that a channel works with: the former content of its bank until its own step (R207). -/
def State.bankFor (s : State) (c : Nat) : Nat × Nat × List Int :=
  let b := s.bank (s.chan c).set.bank
  match b.old with
  | some o => if b.pending.contains c then o else (b.taps, b.k, b.coeff)
  | none => (b.taps, b.k, b.coeff)

/-- The output period of a channel in slots (R201). -/
def State.chanPeriod (s : State) (c : Nat) : Nat :=
  if (s.chan c).set.single then 64 else 2 ^ (s.bankFor c).2.1

/-- 2^22 times the interpolator weights, rounded (R189). -/
def fracWeights (f : Nat) : List Int :=
  let m : Int := f
  let q := fun (x : Int) d => roundDiv (2 ^ 22 * x) (d * 256 ^ 3)
  [q (-(m * (256 - m) * (512 - m))) 6, q ((256 + m) * (256 - m) * (512 - m)) 2, q (m * (256 + m) * (512 - m)) 2,
   q (-(m * (256 + m) * (256 - m))) 6]

/-- The prefetched coefficients c[0] to c[T + 2] (R200). -/
def prefetch (b : List Int) (f : Nat) : List Int :=
  let hq := fracWeights f
  let at_ := fun (i : Nat) (j : Nat) => if j ≤ i then b.getD (i - j) 0 else 0
  (List.range (b.length + 3)).map fun l =>
    satI 24 (roundDiv ((List.range 4).foldl (fun a j => a + at_ l j * hq.getD j 0) 0) (2 ^ 22))

/-- Whether the output at a stamp is SETTLING (R208, R209). -/
def Channel.settlingAt (h : Channel) (t : Nat) : Bool :=
  decide (h.settleFrom + b2n h.set.single ≤ t) && decide (t < h.settleTo)

/-- The length of a settling span (R208, R209). -/
def settleLen (single : Bool) (taps isl : Nat) : Nat := if single then 64 + isl else taps + 3 + isl

/-- The corrected output of R219 in 1/16 count and whether it is saturated. -/
def correct (t : Settings) (y : Int) : Int × Bool :=
  let z := roundDiv ((16 * y - t.off) * t.gcorr) (2 ^ 26)
  (satI 24 z, satI 24 z != z)

/-- The value of an AUX_DC channel (R167, R219). -/
def auxValue (t : Settings) (y : Int) : Int := satI 32 (roundDiv ((16 * y - t.off) * t.gcorr) (2 ^ 30))

/-- The output of a channel at a stamp (R200, R202, R209, R219): `cs` are the prefetched coefficients, and `fin` is the slot
after the newest slot value. -/
def Channel.outputAt (h : Channel) (cs : List Int) (fin t : Nat) : Out :=
  let single := h.set.single
  let w := if single then (h.hist.drop (fin - t)).take 64 else (h.hist.drop (fin - 1 - t)).take cs.length
  let y := if single then satI 24 (roundDiv ((w.map fun v => v.x).foldl (· + ·) 0) 4)
    else satI 24 (roundDiv ((List.zipWith (fun (c : Int) (v : Sample) => c * v.x) cs w).foldl (· + ·) 0) (2 ^ 19))
  let z := correct h.set y
  { stamp := t, y := y, z := z.1, poison := w.any fun v => v.poison, ovl := z.2 || w.any fun v => v.ovl
    settle := h.settlingAt t }

/-- Whether an output is excluded (R213, R237). -/
def Out.excluded (o : Out) : Bool := o.poison || o.settle

/-- The envelope after one output (R215). -/
def envStep (att dec env : Nat) (z : Int) : Nat :=
  let a := z.natAbs * 65536
  if env < a then env + (a - env) / 2 ^ att else env - (env - a) / 2 ^ dec

/-- The stamps of outputs in a span: multiples of the period. -/
def stampsIn (p from_ upTo : Nat) : List Nat :=
  let first := nextMul from_ p
  (List.range (ceilDiv (upTo - first) p)).map fun k => first + k * p

/-- One output taken into the retained window, the envelope and, for AUX_DC, the last value. -/
def Channel.takeOut (h : Channel) (kept att dec : Nat) (o : Out) : Channel :=
  let h := { h with outs := ({ o with env := h.env } :: h.outs).take kept }
  if o.excluded then h
  else { h with env := envStep att dec h.env o.z, auxLast := if h.set.role = 4 then auxValue h.set o.y else h.auxLast }

/-- The outputs of a channel for the stamps of a span (R217). -/
def State.runSlice (s : State) (c from_ upTo : Nat) : State :=
  let b := s.bankFor c
  let h := s.chan c
  let e := s.parN (0x700 + 32 * (c / 64) + 9)
  let p := s.chanPeriod c
  let kept := if h.set.single then 96 else 5120 / p
  let cs := if h.set.single then [] else prefetch b.2.2 h.set.frac
  s.onChan c fun h =>
    ((stampsIn p from_ upTo).map fun t => h.outputAt cs s.now t).foldl (fun h o => h.takeOut kept (bits e 0 4) (bits e 4 4) o) h

/-! ## A round of one channel -/

/-- Whether a channel delivers samples: its role is not OFF, its island is in service, and the reference runs. -/
def State.sampled (s : State) (c : Nat) : Bool :=
  (s.chan c).set.role != 0 && s.islOn (c / 64) && !s.clock.refLost

/-- The units of an island in the order of R190. -/
def State.unitsOf (s : State) (n : Nat) : List Nat :=
  (List.range 64).map (fun i => 64 * n + i) |>.filter fun c => (s.chan c).set.role != 0

/-- The slots of the round in progress whose samples are taken, from the first to the one before now: all 256 but in the first and
the last round of a run (R77, R90). -/
def State.roundFrom (s : State) : Nat := max ((s.now - 1) / 256 * 256) (min s.now s.mode.firstSample)

/-- One channel as a round's fabric brings it: the channel after its front end, the words it sends, one list for each unit, and
what the staging buffer reads. -/
structure Delivery where
  ch : Nat
  h : Channel
  sent : Nat
  bad : Nat
  reads : List UnitRead

/-- The samples of one channel for the round that ends now: converted, delayed, and carried by the fabric with the bits that the
round inverts (R185 to R193, R196). `out` tells that the producer holds no credit for them. -/
def State.deliver (s : State) (a : RoundInput) (c : Nat) (out : Bool) : Delivery :=
  let n := c / 64
  let comp := (s.isl n).compressed
  let base := (s.now - 1) / 256 * 256
  let from_ := s.roundFrom
  let d := (s.chan c).set.int
  let ws := ((roundWords a c).drop (from_ - base)).take (s.now - from_)
  let h := ws.foldl (fun h w => h.sample w (s.islFault n)) (s.chan c)
  let first := blockStart comp from_
  let vs := List.replicate (from_ - first) ({} : Sample) ++ h.slotValues d (s.now - 1) from_ s.now (s.tapAt c)
  let us := packUnits comp 256 first vs
  let flips := (a.upsets.filter fun u => u.queue == n && u.chan == c).map fun u => (u.word, u.bit)
  let per := if comp then 9 else 2
  let got := (List.zip us (List.range us.length)).map fun u =>
    (crossing 14 ((flips.filter fun f => f.1 / per == u.2).map fun f => (f.1 % per, f.2)) u.1, u.2)
  { ch := c, h := h, sent := us.length, bad := ((got.map fun g => (g.1.filter fun w => w.poison).length)).sum
    reads := if out then us.map fun u => { samples := List.replicate (if comp then u.length - 1 else 1) lostSample }
      else got.map fun g => if comp then readBlock (first + 8 * g.2) g.1 else readSample (first + g.2) g.1 }

/-- The unit of an island's round, counted in the order of R190, at which the fourth wrong sequence in a row stands (R196). -/
def desyncAt : Nat → Nat → List Bool → Option Nat
  | _, _, [] => none
  | run, k, w :: r => if w then (if run = 3 then some k else desyncAt (run + 1) (k + 1) r) else desyncAt 0 (k + 1) r

/-- The units of an island's channels in the order of R190: for each slot or block one unit per channel. -/
def unitOrder (ds : List Delivery) : List Bool :=
  (List.range ((ds.map fun x => x.reads.length).foldl max 0)).flatMap fun j =>
    ds.map fun x => match x.reads[j]? with
      | some r => r.wrong
      | none => false

/-- The samples of one island's channels in the history of each (R196): after four wrong sequences in a row every sample of the
island to the end of the round is poisoned. -/
def State.stage (s : State) (ds : List Delivery) : State :=
  let cut := if ds.any fun x => x.reads.any fun r => r.wrong then desyncAt 0 0 (unitOrder ds) else none
  (List.zip ds (List.range ds.length)).foldl (fun s x =>
    let vs := (List.zip x.1.reads (List.range x.1.reads.length)).flatMap fun r =>
      match cut with
      | some k => if k < r.2 * ds.length + x.2 then r.1.samples.map fun _ => lostSample else r.1.samples
      | none => r.1.samples
    let vs := vs.drop (vs.length - (s.now - s.roundFrom))
    s.onChan x.1.ch fun _ => { x.1.h with hist := (vs.reverse ++ x.1.h.hist).take histKept }) s

/-- The samples of one island for the round that ends now (R26, R28, R190, R196). Its real-time producer discards whole units while
it holds only the reserved credit, and the gap word goes first when credits are back. The samples of what it discards are
poisoned in the round that misses them: DESIGN CHOICE, log entry 161. -/
def State.deliverIsland (s : State) (a : RoundInput) (n : Nat) : State :=
  let out := !s.flowing n
  let ds := ((s.unitsOf n).filter s.sampled).map fun c => s.deliver a c out
  let s := s.stage ds
  if out then s.discard n (ds.map fun x => x.sent).sum
  else
    let s := if (s.queue n).discarded = 0 then s else s.gapped n
    s.poisonedN n (ds.map fun x => x.bad).sum

/-- The samples of every sampled channel. -/
def State.deliverAll (s : State) (a : RoundInput) : State :=
  (List.range s.nIsl).foldl (fun s n => s.deliverIsland a n) (a.lost.foldl State.loseCredit s)

/-- A restart of a channel for settling at a slot (R187, R208): its samples after an island step carry the flag. -/
def State.restartChan (s : State) (c at_ : Nat) (isl : Bool) : State :=
  let t := (s.bankFor c).1
  s.onChan c fun h => { h with
    islSettle := isl
    settleFrom := at_, settleTo := at_ + settleLen h.set.single t (if isl then 3 else 0)
    hist := [], outAt := at_ }

end Sys2Proof.Machine
end

