-- ==== Sys2Proof/Machine/Cross.lean ====
section
/-! DEFINITION. Zero crossings of voltage channels (R275 to R278), the gates that continue them (R177, R276), and the items
they send to the power-quality detector. -/
namespace Sys2Proof.Machine

/-- The declared voltage of a channel in mV RMS (R281). -/
def State.declaredMv (s : State) (c : Nat) : Nat :=
  let u := s.parN 0x201
  if (s.pointsOf c).any fun m => match (s.point m).bind with
    | some b => b.type == 2 && (b.ch.getD 0 0 == c || b.ch.getD 2 0 == c)
    | none => false
  then roundDivN (u * 17320508) 10000000 else u

/-- The band h_z of a channel (R275). -/
def State.zcBand (s : State) (c : Nat) : Nat :=
  let y := s.parN 0x205 % 256
  let fs := (s.chan c).fs
  if fs = 0 then roundDivN (y * 6 * 2 ^ 22) 10000
  else roundSqrt (2 * (y * s.declaredMv c * 2 ^ 22) ^ 2) ((1000 * fs) ^ 2)

/-- One result that the engine sends to the power-quality detector (R278). -/
structure PqItem where
  kind : Nat
  ch : Nat
  flags : Nat := 0
  slot : Nat
  value : Nat
  deriving DecidableEq, Repr

/-- The two words of an item (R278). -/
def PqItem.words (i : PqItem) : List QWord :=
  [wordOf 32 (i.kind + 4 * i.ch + 2048 * i.flags + 2 ^ 14 * (i.slot % 2 ^ 18)), wordOf 32 i.value]

/-- An item sent into Q9 by a real-time producer (R26): with only the reserved credit left it is discarded and counted; when
credits are back, a gap word goes first. -/
def State.sendItem (s : State) (i : PqItem) : State :=
  let n := (s.queue 9).discarded
  if s.credits 9 < 3 + b2n (decide (0 < n)) then s.discard 9 2
  else
    let gap := if n = 0 then [] else [gapWord 32 n]
    (s.onQueue 9 fun q => { q with discarded := 0 }).onPq fun p => { p with q9 := p.q9 ++ gap ++ i.words }

/-- What happens to the cycle boundaries of a voltage channel. -/
inductive CrossEv where
  | opened (at_ : Nat) (gate : Bool)
  | withdrawn (at_ : Nat)
  | confirmed (at_ : Nat)
  deriving DecidableEq, Repr

/-- A channel with the boundary events and items of a round so far. -/
structure CrossAcc where
  h : Channel
  evs : List CrossEv := []
  items : List PqItem := []

/-- The rounded slot of a crossing stamp (R277). -/
def crossSlot (c : Nat) : Nat := roundDivN c 256

/-- The item of a crossing (R278). -/
def crossItem (kind ch c : Nat) : PqItem := { kind := kind, ch := ch, slot := c / 256, value := c % 256 }

/-- A provisional crossing confirmed (R276, R227). -/
def CrossAcc.confirm (x : CrossAcc) : CrossAcc :=
  match x.h.provisional with
  | none => x
  | some (c, pos) =>
    let at_ := crossSlot c
    let marks := x.h.marks.map fun m => if m.at_ = at_ then { m with provis := false } else m
    if pos then
      let per := match x.h.lastCross with
        | some l => if x.h.noCross then x.h.period else c - l
        | none => x.h.period
      let len := match x.h.lastCross with
        | some l => if x.h.noCross then x.h.measuredLen else at_ - crossSlot l
        | none => x.h.measuredLen
      { x with h := { x.h with
                 provisional := none, marks := marks, lastCross := some c, period := per, measuredLen := len, noCross := false }
               evs := x.evs ++ [.confirmed at_] }
    else { x with h := { x.h with provisional := none, marks := marks } }

/-- Confirms the provisional crossing when 512 slots have passed at a slot. -/
def CrossAcc.confirmBy (x : CrossAcc) (t : Nat) : CrossAcc :=
  match x.h.provisional with
  | some (c, _) => if c + 131072 ≤ 256 * t then x.confirm else x
  | none => x

/-- The stamp of a crossing in 1/256 slot (R275), from the last included output before the entry that lies on the other
side, for a positive-going (`pos`) or negative-going one. None when the output after it is excluded or unknown. -/
def Channel.crossStamp (h : Channel) (p t : Nat) (pos : Bool) : Option Nat :=
  let other := fun (o : Out) => if pos then decide (o.z < 0) else decide (0 < o.z)
  match h.outs.find? fun o => decide (o.stamp < t) && !o.excluded && other o with
  | none => none
  | some a =>
    match h.outs.find? fun o => o.stamp == a.stamp + p with
    | none => none
    | some b =>
      if b.excluded then none
      else some (256 * a.stamp + roundDivN (256 * p * a.z.natAbs) (b.z - a.z).natAbs)

/-! ## Gates while no crossing is measured (R177, R276) -/

/-- The period of a channel's gates in 1/256 slot: the last measured one or the nominal one. -/
def State.gatePeriod (s : State) (c : Nat) : Nat :=
  if (s.chan c).period = 0 then s.nominalSlots * 256 else (s.chan c).period

/-- The stamp from which a channel's gates count, in 1/256 slot: its last crossing, or the slot from which nominal gates
count. -/
def Channel.gateBase (h : Channel) : Nat :=
  match h.lastCross with
  | some c => c
  | none => 256 * h.nextGate

/-- The first gate after a slot, at a period per from a base. -/
def gateAfterSlot (base per slot : Nat) : Nat :=
  let k := if 256 * slot + 128 ≤ base then 0 else (256 * slot + 128 - base) / per
  let g := fun k => roundDivN (base + k * per) 256
  if slot < g k then g k else g (k + 1)

/-- The boundary at which a channel in NO_CROSSING goes on after its last mark: the half cycle of the running cycle, half a predicted
period long and rounded down to a slot, or the next gate (R276). -/
def Channel.nextGateMark (h : Channel) (per : Nat) : CycMark :=
  let last := match h.marks with
    | m :: _ => m.at_
    | [] => h.nextGate - 1
  let full := match h.marks.find? fun m => m.full with
    | some m => m.at_
    | none => h.nextGate - 1
  let gate := gateAfterSlot h.gateBase per (max full (h.gateBase / 256 - 1))
  let half := full + per / 512
  if (h.marks.any fun m => m.full) && decide (last < half) && decide (half < gate) && last == full then
    { at_ := half, gate := true }
  else { at_ := gate, full := true, gate := true }

/-- The gates and half cycles of a channel in NO_CROSSING up to a slot: at most n marks. -/
def CrossAcc.gates (per fin : Nat) : Nat → CrossAcc → CrossAcc
  | 0, x => x
  | n + 1, x =>
    let m := x.h.nextGateMark per
    if fin < m.at_ then x
    else CrossAcc.gates per fin n { x with
      h := { x.h with marks := m :: x.h.marks, cycleNo := if m.full then (x.h.cycleNo + 1) % 2 ^ 32 else x.h.cycleNo }
      evs := if m.full then x.evs ++ [.opened m.at_ true] else x.evs }

/-! ## Provisional crossings (R275, R276) -/

/-- A crossing taken as provisional: its mark, its item, and for a positive-going one the cycle it opens. -/
def CrossAcc.provide (x : CrossAcc) (ch c : Nat) (pos : Bool) : CrossAcc :=
  let at_ := crossSlot c
  let x := x.confirm
  { h := { x.h with
      provisional := some (c, pos)
      marks := { at_ := at_, full := pos, provis := true } :: x.h.marks
      cycleNo := if pos then (x.h.cycleNo + 1) % 2 ^ 32 else x.h.cycleNo }
    evs := if pos then x.evs ++ [.opened at_ false] else x.evs
    items := x.items ++ [crossItem (if pos then 1 else 2) ch c] }

/-- A crossing withdrawn (R276): it leaves no trace but its item. -/
def CrossAcc.withdraw (x : CrossAcc) (ch c : Nat) (pos : Bool) : CrossAcc :=
  let at_ := crossSlot c
  { h := { x.h with
      provisional := none
      marks := x.h.marks.filter fun m => !(m.at_ == at_ && m.provis)
      cycleNo := if pos then (x.h.cycleNo + 2 ^ 32 - 1) % 2 ^ 32 else x.h.cycleNo }
    evs := if pos then x.evs ++ [.withdrawn at_] else x.evs
    items := x.items ++ [crossItem 3 ch c] }

/-- One output through the crossing logic (R275, R276) with band hz, period p and period per of the gates, which go on up to the crossing
in NO_CROSSING. -/
def CrossAcc.step (hz p per ch : Nat) (x : CrossAcc) (o : Out) : CrossAcc :=
  if o.excluded then x
  else
    let x := x.confirmBy o.stamp
    let pos := decide ((hz : Int) ≤ o.z) && x.h.pol != .pos
    let neg := decide (o.z ≤ -(hz : Int)) && x.h.pol != .neg
    if !pos && !neg then x
    else
      let was := x.h.pol
      let x := { x with h := { x.h with pol := if pos then .pos else .neg } }
      if was = .none then x
      else
        match x.h.provisional with
        | some (c, q) => if q = pos then x else x.withdraw ch c q
        | none =>
          match x.h.crossStamp p o.stamp pos with
          | none => x
          | some c =>
            let early := pos && match x.h.lastCross with
              | some l => decide (c < l + 1600 * 256)
              | none => false
            if early then x
            else (if x.h.noCross && pos then x.gates per (crossSlot c - 1) 64 else x).provide ch c pos

/-- The slots of marks that a channel keeps. -/
def marksKept : Nat := 16384

/-- The crossing logic of a voltage channel over the outputs that a round has added, from a stamp on (R275 to R277), up to
the slot `fin`: the channel, the events of its cycle boundaries and the items for Q9. -/
def State.crossings (s : State) (c from_ fin : Nat) : CrossAcc :=
  let h := s.chan c
  let news := (h.outs.filter fun o => decide (from_ ≤ o.stamp)).reverse
  let x := (news.foldl (CrossAcc.step (s.zcBand c) (s.chanPeriod c) (s.gatePeriod c) c) { h := h }).confirmBy fin
  let held := match x.h.provisional with
    | some (_, pos) => pos
    | none => false
  let x := if x.h.noCross && !held then x.gates (s.gatePeriod c) fin 64 else x
  { x with h := { x.h with marks := x.h.marks.filter fun m => decide (fin < m.at_ + marksKept) } }

/-- The slot after which 3 200 slots without a crossing lead to NO_CROSSING (R276): the last confirmed crossing, or the
restart of the channel. -/
def Channel.quietFrom (h : Channel) : Nat :=
  match h.lastCross with
  | some c => crossSlot c
  | none => h.settleFrom

/-- The slot from which the gates of a channel without any crossing count: the START of the first point that it leads (R248), or
its restart. -/
def State.gatesStart (s : State) (c : Nat) : Nat :=
  let h := s.chan c
  if h.nextGate = 0 then
    match s.pointsOf c with
    | m :: _ => match (s.point m).bind with
      | some b => max 1 b.start
      | none => max 1 h.settleFrom
    | [] => max 1 h.settleFrom
  else h.nextGate

/-- The slot up to which the boundaries of a voltage channel are known, at the current slot: a channel that measures its crossings
may still enter NO_CROSSING, and then goes on at the gate that follows its last mark (R276). -/
def State.boundariesTo (s : State) (c : Nat) : Nat :=
  let h := s.chan c
  if h.noCross then s.now
  else if h.lastCross.isNone && !(h.marks.any fun m => m.full) then min s.now (s.gatesStart c)
  else min s.now (h.nextGateMark (s.gatePeriod c)).at_

/-- NO_CROSSING (R276). A provisional crossing that began in time may still be confirmed. -/
def execNoCrossing (c : Nat) (s : State) : Host.Outcome State Fault Refusal :=
  .next (
    let h := s.chan c
    let hold := match h.provisional with
      | some (x, pos) => pos && decide (crossSlot x < h.quietFrom + 3200)
      | none => false
    if h.set.role ≠ 1 ∨ h.noCross = true ∨ s.metering = false ∨ hold = true ∨ s.now < h.quietFrom + 3200 then s
    else s.onChan c fun h => { h with noCross := true, nextGate := s.gatesStart c })

end Sys2Proof.Machine
end

