-- ==== Sys2Proof/Machine/Detect.lean ====
section
/-! DEFINITION. Detectors (R212 to R214), the feeds of the harmonic analyser (R285), of waveform capture (R290 to R292) and of
calibration measurements (R468). They follow the slices by 512 slots, so that a crossing can no longer be withdrawn. -/
namespace Sys2Proof.Machine

/-! ## Values of a span (R213, R214) -/

/-- An output added to a span. -/
def DetAcc.add (a : DetAcc) (o : Out) (aux : Int) : DetAcc :=
  if o.excluded then { a with excluded := true }
  else
    { a with
      peak := max a.peak (o.z.natAbs : Int)
      peakAt := if a.n = 0 ∨ a.peak < (o.z.natAbs : Int) then o.stamp else a.peakAt
      sum := a.sum + (roundDiv (o.z * o.z) 256).toNat
      n := a.n + 1
      ovl := a.ovl || o.ovl
      zsum := a.zsum + aux }

/-- Two spans together. -/
def DetAcc.join (a b : DetAcc) : DetAcc :=
  { peak := max a.peak b.peak, peakAt := if b.peak ≤ a.peak then a.peakAt else b.peakAt, sum := a.sum + b.sum, n := a.n + b.n
    excluded := a.excluded || b.excluded, ovl := a.ovl || b.ovl, zsum := a.zsum + b.zsum }

/-- The flags of R213. -/
def DetAcc.flags (a : DetAcc) : Nat := b2n a.excluded + 2 * b2n (a.n == 0) + 4 * b2n a.ovl

/-- RMS and peak of a span (R214). -/
def DetAcc.rms (a : DetAcc) : DetVal :=
  { v := if a.n = 0 then 0 else roundSqrt (256 * a.sum) a.n, peak := a.peak, flags := a.flags }

/-- The mean of a span's values (R167). -/
def DetAcc.mean (a : DetAcc) : DetVal :=
  { v := if a.n = 0 then 0 else satI 32 (roundDiv a.zsum a.n), flags := a.flags }

/-- The cycles of a window (R212). -/
def State.windowCycles (s : State) : Nat := if s.nominalHz = 60 then 12 else 10

/-- Whether the harmonic windows of a channel are analysed now (R285): selected, of the metering group, not paused. -/
def State.harmRuns (s : State) (c : Nat) : Bool :=
  s.harmEnabled c && meteringRole (s.chan c).set.role && !s.pq.harmPaused && s.islOn (c / 64)

/-! ## Calibration measurements (R468) -/

/-- u and h of a voltage channel at a stamp, 31 outputs late (R250, R251): none when an output of the transformer's taps is
missing. The flags tell whether one is excluded and whether one carries the overload flag. -/
def Channel.partner (h : Channel) (p t : Nat) : Option (Int × Int × Bool × Bool) :=
  let w := (h.outs.dropWhile fun o => decide (t < o.stamp)).take 63
  match w.head?, w.getLast? with
  | some a, some b =>
    if w.length = 63 ∧ a.stamp = t ∧ b.stamp + 62 * p = t then
      let z := fun j => (w.getD j {}).z
      let acc := (List.range 16).foldl (fun x j =>
        x + hilbertTaps.getD j 0 * (z (31 + (2 * j + 1)) - z (31 - (2 * j + 1)))) 0
      some (z 31, roundDiv acc (2 ^ 23), w.any Out.excluded, w.any fun o => o.ovl)
    else none
  | _, _ => none

/-- The output of a channel at a stamp. -/
def Channel.outFor (h : Channel) (t : Nat) : Option Out := h.outs.find? fun o => o.stamp == t

/-- One output of the measured channel in the span. -/
def State.measureOut (s : State) (p : Nat) (o : Out) (m : Measure) : Measure :=
  if o.excluded then { m with excluded := m.excluded + 1 }
  else
    let m := { m with nOut := m.nOut + 1, sumZ := m.sumZ + o.z, sumZZ := m.sumZZ + (roundDiv (o.z * o.z) 256).toNat
                      ovl := m.ovl || o.ovl }
    match m.ref with
    | none => m
    | some r =>
      match (s.chan r).partner p o.stamp, (s.chan m.ch).outFor (o.stamp - 31 * p) with
      | some (u, h, bad, _), some i =>
        if bad || i.excluded then m
        else { m with sumUZ := m.sumUZ + roundDiv (u * i.z) 256, sumHZ := m.sumHZ + roundDiv (h * i.z) 256 }
      | _, _ => m

/-- The 64 bytes that READ returns. -/
def Measure.bytes (m : Measure) (fin : Nat) : List Byte :=
  sample8 (m.start.getD 0) ++ sample8 fin ++ le 4 m.nOut ++ le 4 m.excluded ++ leI 8 m.sumZ ++ le 8 m.sumZZ ++ leI 8 m.sumUZ
    ++ leI 8 m.sumHZ ++ le 2 (b2n (decide (0 < m.excluded)) + 2 * b2n (m.nOut == 0) + 4 * b2n m.ovl) ++ zeros 6

/-- A cycle boundary of the measured channel's gate reference: the span starts, counts or ends. -/
def State.measureMark (s : State) (c at_ : Nat) : State :=
  let mine := s.security.measures.filter fun m => m.ch == c
  mine.foldl (fun s m =>
    let put := fun (m' : Measure) => s.onSec fun x => { x with
      measures := x.measures.map fun y => if y.op = m.op then m' else y }
    match m.start with
    | none => if m.from_ ≤ at_ then put { m with start := some at_ } else s
    | some _ =>
      if m.done + 1 < m.cycles then put { m with done := m.done + 1 }
      else
        let s := s.onSec fun x => { x with measures := x.measures.filter fun y => y.op != m.op }
        let s := s.onPort m.op.port fun q => { q with calResults := (q.calResults ++ [(m.op.handle, m.bytes at_)]).drop
                                                        (q.calResults.length - 3) }
        (s.commitOp m.op).finish m.op .ok 0 m.nOut) s

/-! ## Capture (R290 to R292) -/

/-- RATE of a track (R292): K, or 6 for SINGLE_CYCLE. -/
def trackRate (rate : Nat) : Nat := if rate = 6 then 64 else 2 ^ rate

/-- Whether the engine sends a channel's outputs to the capture (R62, R73, R291). -/
def State.captures (s : State) (c : Nat) : Bool :=
  let x := s.pq.capture
  (x.state == .armed || x.state == .post) && !(s.power.lean || s.power.leanTemp) && x.chans.contains c

/-- An output at a stamp written to its track; none is an excluded one (R290, R292). -/
def State.captureOut (s : State) (c stamp : Nat) (z : Option Int) : State :=
  let x := s.pq.capture
  if !s.captures c || decide (stamp < x.from_) || (x.state == .post && decide (x.trig + 128000 ≤ stamp)) then s
  else
    s.onPq fun p => { p with capture := { x with
      endStamp := max x.endStamp (stamp + trackRate (((x.tracks.find? fun t => t.ch == c).getD {}).rate))
      tracks := x.tracks.map fun t =>
        if t.ch ≠ c then t
        else
          let d := t.data ++ [(stamp, z.getD (-8388608))]
          { t with start := if t.data.isEmpty then stamp else t.start, data := d.drop (d.length - 256000 / trackRate t.rate) } } }

/-! ## Q10 and Q11 (R23 to R28, R285, R290) -/

/-- The word of an output: z, held at -8388607 so that 0x800000 stands for an excluded output alone. The spec says so of the tracks
(R292): DESIGN CHOICE for Q10, log entry 179. -/
def Out.word (o : Out) : QWord :=
  wordOf 24 (if o.excluded then 0x800000 else (BitVec.ofInt 24 (max (-8388607) o.z)).toNat)

/-- What the consumer reads from the word of an output: none for an excluded or poisoned one. -/
def readOut (w : QWord) : Option Int :=
  if w.poison || w.data == 0x800000 then none else some (BitVec.ofNat 24 w.data).toInt

/-- The words of a channel in a round: the header, then the outputs. -/
def feedWords (c : Nat) (opens closes : Bool) (os : List Out) : List QWord :=
  wordOf 24 (c + 512 * b2n opens + 1024 * b2n closes) :: os.map Out.word

/-- The words of a channel through Q10 or Q11, with the bits inverted on the way, and what the consumer makes of the outputs. A poisoned
header, one that names another channel, or the loss of the words because the real-time producer holds only its reserved credit,
leaves them all excluded (R26, R285, R290). -/
def State.feed (s : State) (q c : Nat) (flips : List (Nat × Nat)) (ws : List QWord) : State × List (Option Int) :=
  let lost := List.replicate (ws.length - 1) none
  if !s.flowing q then (s.discard q ws.length, lost)
  else
    let rs := crossing 24 flips ws
    let s := if (s.queue q).discarded = 0 then s else s.gapped q
    let s := s.poisonedN q (rs.filter fun w => w.poison).length
    match rs with
    | [] => (s, [])
    | h :: r => (s, if h.poison || h.data % 512 != c then lost else r.map readOut)

/-- An output on its way to the detectors, with what the harmonic analyser and the capture writer receive of it. -/
structure Fed where
  o : Out
  harm : Option Int := none
  capt : Option Int := none

/-! ## One channel -/

/-- The end of a second of a channel (R212, R167, R434). -/
def State.secondEnds (s : State) (c no : Nat) : State :=
  let h := s.chan c
  if h.secNo = no then s
  else
    let mean := h.secAcc.mean
    let s := s.onChan c fun h => { h with secNo := no, secAcc := {}, rmsSec := h.secAcc.rms
                                          auxMean := if h.set.role = 4 then mean else h.auxMean }
    if h.set.role = 4 ∧ mean.flags &&& 2 = 0 then s.thermWatch c mean.v else s

/-- One output through the detectors. -/
def State.detectOut (s : State) (p c : Nat) (f : Fed) : State :=
  let o := f.o
  let s := s.secondEnds c (o.stamp / slotsPerS)
  let s := s.onChan c fun h =>
    let aux := if h.set.role = 4 then auxValue h.set o.y else 0
    { h with halfAcc := h.halfAcc.add o aux, cycAcc := h.cycAcc.add o aux, winAcc := h.winAcc.add o aux
             secAcc := h.secAcc.add o aux
             winOuts := if h.winHarm then h.winOuts ++ [f.harm] else h.winOuts }
  let s := s.captureOut c o.stamp f.capt
  if s.security.measures.isEmpty then s
  else
    let ms := s.security.measures.map fun m => if m.ch = c ∧ m.start.isSome = true then s.measureOut p o m else m
    s.onSec fun x => { x with measures := ms }

/-- The window starts that a channel follows: those of its gate reference, so that its windows are the reference's (R212, R288), or
none where it sets its own. -/
def State.windowRef (s : State) (c : Nat) : Option (List Nat) :=
  match s.gateRef c with
  | some v => if v = c then none else some (s.chan v).winMarks
  | none => none

/-- A cycle boundary: a window of n cycles ends, and the next starts (R212, R285). A window of another number of cycles, as after a
change of the nominal frequency or of the gate reference, gives no value. -/
def Channel.windowMark (h : Channel) (at_ n : Nat) (harm : Bool) (ref : Option (List Nat)) : Channel :=
  let edge := match ref with
    | some l => l.contains at_
    | none => h.winStart == 0 || decide (n ≤ h.winCycles + 1)
  let start := { h with winStart := at_, winCycles := 0, winAcc := {}, winOuts := [], winHarm := harm
                        winMarks := (at_ :: h.winMarks).take 64 }
  if !edge then (if h.winStart = 0 then h else { h with winCycles := h.winCycles + 1 })
  else if h.winStart = 0 ∨ h.winCycles + 1 ≠ n then start
  else
    let w : HarmWin := { start := h.winStart, fin := at_, outs := h.winOuts, ovl := h.winAcc.ovl }
    { start with rmsWin := h.winAcc.rms, harmReady := if h.winHarm then h.harmReady ++ [w] else h.harmReady }

/-- The cycles whose values a channel keeps. -/
def cyclesKept : Nat := 8

/-- A zero crossing or gate taken by the detectors of a channel (R212 to R214). -/
def State.detectMark (s : State) (c at_ : Nat) (full : Bool) : State :=
  let h := s.chan c
  let half := (h.prevHalf.join h.halfAcc).rms
  let ready := decide (2 ≤ h.detMarks)
  let h := { h with rmsHalf := if ready then half else h.rmsHalf, prevHalf := h.halfAcc, halfAcc := {}
                    detMarks := min 2 (h.detMarks + 1) }
  let h := if !full then h
    else
      let v : CycVal := { fin := at_, rms := h.cycAcc.rms, pos := (s.chan c).prevHalf.peak, neg := (s.chan c).halfAcc.peak }
      let h := if h.detFull then { h with rmsCycle := v.rms, cycVals := (v :: h.cycVals).take cyclesKept } else h
      { h with cycAcc := {}, detFull := true }.windowMark at_ s.windowCycles (s.harmRuns c) (s.windowRef c)
  let s := s.onChan c fun _ => h
  let s := if full then s.measureMark c at_ else s
  if ready && h.set.role == 1 then
    s.sendItem { kind := 0, ch := c, flags := half.flags, slot := at_, value := half.v.toNat % 2 ^ 32 }
  else s

/-- The boundaries of a channel's spans after a slot and up to another, oldest first (R212): those of its gate reference, or
multiples of 1 280 slots. -/
def State.spanMarks (s : State) (c from_ upTo : Nat) : List (Nat × Bool) :=
  match s.gateRef c with
  | some v => (((s.chan v).marks.filter fun m => decide (from_ < m.at_) && decide (m.at_ ≤ upTo)).map fun m => (m.at_, m.full)).reverse
  | none => (stampsIn 1280 (from_ + 1) (upTo + 1)).map fun t => (t, t % 2560 == 0)

/-- Outputs of a channel, oldest first, up to a slot through its detectors. -/
def State.detectTo (s : State) (p c upTo : Nat) (fs : List Fed) : State :=
  ((fs.takeWhile fun f => decide (f.o.stamp < upTo)).foldl (fun s f => s.detectOut p c f) s).onChan c fun h =>
    { h with detAt := max h.detAt upTo }

/-- The detectors of a channel advanced to a slot over the boundaries in between. -/
def State.detectOver (p c upTo : Nat) : List (Nat × Bool) → List Fed → State → State
  | [], fs, s => s.detectTo p c upTo fs
  | m :: r, fs, s =>
    State.detectOver p c upTo r (fs.dropWhile fun f => decide (f.o.stamp < m.1)) ((s.detectTo p c m.1 fs).detectMark c m.1 m.2)

/-- What a consumer receives of a channel's outputs (R285, R290), when the channel is one that the engine sends it. -/
def State.feedFor (s : State) (on : Bool) (q c : Nat) (flips : List WordUpset) (opens closes : Bool) (os : List Out) :
    State × List (Option Int) :=
  if on && !os.isEmpty then
    s.feed q c ((flips.filter fun u => u.queue == q && u.chan == c).map fun u => (u.word, u.bit)) (feedWords c opens closes os)
  else (s, os.map fun _ => none)

/-- The outputs of a channel up to a slot as its consumers receive them, with the windows that its boundaries open and close. -/
def State.feeds (s : State) (a : RoundInput) (c upTo : Nat) (marks : List (Nat × Bool)) : State × List Fed :=
  let h := s.chan c
  let os := (h.outs.filter fun o => decide (h.detAt ≤ o.stamp) && decide (o.stamp < upTo)).reverse
  let after := (marks.filter fun m => m.2).foldl (fun h m => h.windowMark m.1 s.windowCycles false (s.windowRef c)) h
  let opens := after.winStart != h.winStart
  let closes := opens && h.winStart != 0
  let x := s.feedFor (s.harmRuns c || h.winHarm) 10 c a.upsets opens closes os
  let y := x.1.feedFor (s.captures c) 11 c a.upsets opens closes os
  (y.1, (List.zip os (List.zip x.2 y.2)).map fun e => { o := e.1, harm := e.2.1, capt := e.2.2 })

/-- The slot up to which the spans of a gate reference are known (R276): 512 slots behind, so that a crossing can no longer be
withdrawn, and no further than its boundaries. After S_stop no output can change a boundary any more. -/
def State.spansTo (s : State) (v : Nat) : Nat :=
  if s.mode.mode = .adjourn then s.now else min (s.now - 512) (s.boundariesTo v)

/-- The channels in the order in which a round advances their detectors: those that set their own windows come first. -/
def State.detectOrder (s : State) : List Nat :=
  let own := fun c => decide (s.gateRef c = some c)
  let all := List.range s.nChan
  all.filter own ++ all.filter fun c => !own c

/-- The detectors of every channel that is not OFF, at a round boundary. A channel whose slice is carried waits. -/
def State.detectAll (s : State) (a : RoundInput) : State :=
  s.detectOrder.foldl (fun s c =>
    let h := s.chan c
    if h.set.role = 0 then s
    else
      let known := match s.gateRef c with
        | some v => s.spansTo v
        | none => s.now
      let upTo := if s.sampled c then min known h.outAt else known
      if upTo ≤ h.detAt then s
      else
        let marks := s.spanMarks c h.detAt upTo
        let x := s.feeds a c upTo marks
        State.detectOver (s.chanPeriod c) c upTo marks x.2 x.1) s

end Sys2Proof.Machine
end

