-- ==== Sys2Proof/Machine/Pq.lean ====
section
/-! DEFINITION. The power-quality detector: frequency (R279, R280), voltage events (R281 to R284), harmonics (R286 to R289),
and the commands that read them (R297, R298). -/
namespace Sys2Proof.Machine

/-! ## Voltage events (R281 to R284) -/

/-- The three detectors of a channel, by number: sag, swell, interruption. -/
def Channel.det (h : Channel) (k : Nat) : VoltEvent := if k = 0 then h.sag else if k = 1 then h.swell else h.intr

/-- One detector of a channel changed. -/
def State.onDet (s : State) (c k : Nat) (f : VoltEvent → VoltEvent) : State :=
  s.onChan c fun h =>
    if k = 0 then { h with sag := f h.sag } else if k = 1 then { h with swell := f h.swell } else { h with intr := f h.intr }

/-- SAG, SWELL or INTR in 0.01 % of Ud (R282, R301). -/
def State.detLimit (s : State) (k : Nat) : Nat :=
  let v := s.parN 0x202
  100 * (if k = 0 then bits v 0 8 else if k = 1 then bits v 8 8 else bits v 16 8)

/-- HY of R282. -/
def State.detHyst (s : State) : Nat := 10 * bits (s.parN 0x202) 24 8

/-- Whether a detector starts on a residual (R282). -/
def State.detStarts (s : State) (k r : Nat) : Bool := if k = 1 then decide (s.detLimit k < r) else decide (r < s.detLimit k)

/-- Whether a detector ends on a residual (R282). -/
def State.detEnds (s : State) (k r : Nat) : Bool :=
  if k = 1 then decide (r + s.detHyst ≤ s.detLimit k) else decide (s.detLimit k + s.detHyst ≤ r)

/-- A report of a voltage event of a channel (R293): its domain is the voltage source. -/
def State.voltReport (s : State) (g : EvGroup) (c r : Nat) : State := s.report g 7 (s.vsrc c) (s.pointsOf c) [c] r c

/-- The count, duration and worst extreme of a point for a kind of event. -/
def Point.pqOf (p : Point) (k : Nat) : List Nat := if k = 0 then p.pqSag else if k = 1 then p.pqSwell else p.pqIntr

/-- The same changed. -/
def Point.setPq (p : Point) (k : Nat) (v : List Nat) : Point :=
  if k = 0 then { p with pqSag := v } else if k = 1 then { p with pqSwell := v } else { p with pqIntr := v }

/-- The voltage channels of a point. -/
def Binding.voltages (b : Binding) : List Nat := (b.ch.take 3).filter fun c => c != 0xFFFF

/-- The worst extreme of a point with one more. -/
def worstOf (k a b : Nat) : Nat := if k = 1 then max a b else min a b

/-- The points of a channel after its detector has started (`ended` none) or ended with a duration and an extreme (R284). The worst of
an interruption is the lowest of all the point's channels, which are in interruption together. -/
def State.pointEventsOf (s : State) (c k : Nat) (ended : Option (Nat × Nat)) : State :=
  (s.pointsOf c).foldl (fun s m =>
    match (s.point m).bind with
    | none => s
    | some b =>
      let act := b.voltages.map fun v => ((s.chan v).det k).active
      let on := if k = 2 then act.all id else act.any id
      let was := bit (s.point m).pqState k
      s.onPoint m fun p =>
        let v := p.pqOf k
        let n := (v.getD 0 0 + b2n (on && !was)) % 2 ^ 32
        let d := match ended with
          | some e => if was && !on then (v.getD 1 0 + e.1) % 2 ^ 32 else v.getD 1 0
          | none => v.getD 1 0
        let low := if k = 2 then (b.voltages.map fun v => ((s.chan v).det k).extreme).foldl min 0xFFFF
          else match ended with
            | some e => min e.2 0xFFFF
            | none => 0
        let w := if ended.isSome && was then worstOf k (v.getD 2 0) low else v.getD 2 0
        { p.setPq k [n, d, w] with pqState := if on then p.pqState ||| 2 ^ k else p.pqState &&& (7 - 2 ^ k) }) s

/-- A voltage event starts (R282): its record carries the channel, the start slot and r. -/
def State.eventStarts (s : State) (c k slot r flags : Nat) : State :=
  let s := s.onDet c k fun _ => { active := true, start := slot, halves := 1, extreme := r, flags := flags }
  let s := s.onChan c fun h => { h with
    rExtreme := min r 0xFFFF
    sags := if k = 0 then (h.sags + 1) % 2 ^ 32 else h.sags
    swells := if k = 1 then (h.swells + 1) % 2 ^ 32 else h.swells
    intrs := if k = 2 then (h.intrs + 1) % 2 ^ 32 else h.intrs }
  let s := s.pointEventsOf c k none
  (s.voltReport (s.group slot (24 + k) 1 c (le 2 c ++ sample7 slot ++ le 4 r)) c r).captureTrigger slot (1 + k) c (some c)

/-- A voltage event ends at a slot (R282): duration in half cycles and in slots, extreme, flags. -/
def State.eventEnds (s : State) (c k slot flags : Nat) : State :=
  let e := (s.chan c).det k
  let s := s.onDet c k fun e => { e with active := false, flags := e.flags ||| flags }
  let s := s.pointEventsOf c k (some (e.halves, e.extreme))
  s.voltReport (s.group slot (24 + k) 1 c (le 2 e.halves ++ le 4 (slot - e.start) ++ le 4 e.extreme ++ le 1 (e.flags ||| flags))
    true) c e.extreme

/-- Every running event of a channel ends at a slot (R283): flags [3] power loss, [4] reconfiguration. -/
def State.endEvents (s : State) (flags : Nat) (c : Nat) : State :=
  (List.range 3).foldl (fun s k => if ((s.chan c).det k).active then s.eventEnds c k s.now flags else s) s

/-- One value of a detector (R282). -/
def State.detValue (s : State) (c k slot r flags : Nat) : State :=
  let e := (s.chan c).det k
  let fl := b2n (bit flags 0) + 2 * b2n (bit flags 2) + 4 * b2n (s.chan c).noCross
  if e.active then
    if s.detEnds k r then s.eventEnds c k slot 0
    else
      let x := if k = 1 then max e.extreme r else min e.extreme r
      (s.onDet c k fun e => { e with halves := e.halves + 1, extreme := x, flags := e.flags ||| fl }).onChan c
        fun h => { h with rExtreme := min x 0xFFFF }
  else if s.detStarts k r then s.eventStarts c k slot r fl
  else s

/-- A half-cycle value of a channel (R281, R282). Over a VOID value the states are held. -/
def State.halfValue (s : State) (c slot flags v : Nat) : State :=
  let fs := (s.chan c).fs
  if fs = 0 then s.onChan c fun h => { h with rFlags := flags }
  else if bit flags 1 then
    let void := fun (e : VoltEvent) => if e.active then { e with halves := e.halves + 1, flags := e.flags ||| 1 } else e
    s.onChan c fun h => { h with rFlags := flags, sag := void h.sag, swell := void h.swell, intr := void h.intr }
  else
    let r := roundDivN (10000 * v * fs) (2 ^ 22 * s.declaredMv c)
    let s := s.onChan c fun h => { h with rHalf := min r 0xFFFF, rFlags := flags }
    (List.range 3).foldl (fun s k => s.detValue c k slot r flags) s

/-! ## Frequency (R279, R280) -/

/-- The slot at which a channel's running 10 s window ends: at a device time that is a multiple of 10 s, or short at a clock
step. -/
def State.f10Fin (s : State) (c : Nat) : Nat :=
  let h := s.chan c
  match h.f10Cut with
  | some x => x
  | none => s.instantOf ((s.timeOf h.f10From / 655360 + 1) * 655360)

/-- A positive-going crossing at the detector (R279). A cycle that a predicted gate or a lost crossing bounds is left out of
the 10 s value. -/
def State.freqCross (s : State) (c x : Nat) : State :=
  let fin := 256 * s.f10Fin c
  s.onChan c fun h =>
    let u : FreqUndo := { cross := h.pqCross, freq := h.freqCycle }
    match h.pqCross with
    | none => { h with pqCross := some x, pqUndo := some u }
    | some p =>
      let d := x - p
      let counts := decide (0 < d) && decide (d ≤ 3200 * 256) && decide (256 * h.f10From ≤ p)
      let here := counts && decide (x < fin)
      let next := counts && decide (fin ≤ p)
      { h with
        pqCross := some x, freqCycle := if d = 0 then h.freqCycle else roundDivN (128000 * 256 * 1000) d
        f10Count := h.f10Count + b2n here, f10Sum := h.f10Sum + (if here then d else 0)
        f10NextCount := h.f10NextCount + b2n next, f10NextSum := h.f10NextSum + (if next then d else 0)
        pqUndo := some { u with delta := if here || next then d else 0, next := next } }

/-- A crossing withdrawn (R276, R279): what it counted is taken back. -/
def State.freqWithdraw (s : State) (c x : Nat) : State :=
  s.onChan c fun h =>
    match h.pqUndo with
    | none => h
    | some u =>
      if h.pqCross ≠ some x then h
      else
        let n := b2n (decide (0 < u.delta))
        if u.next then { h with pqCross := u.cross, freqCycle := u.freq, pqUndo := none
                                f10NextCount := h.f10NextCount - n, f10NextSum := h.f10NextSum - u.delta }
        else { h with pqCross := u.cross, freqCycle := u.freq, pqUndo := none
                      f10Count := h.f10Count - n, f10Sum := h.f10Sum - u.delta }

/-- FREQUENCY_WINDOW_END (R279, R280): 4 rounds after the window's end, when every item has reached the detector. -/
def execFrequencyWindowEnd (c : Nat) (s : State) : Host.Outcome State Fault Refusal :=
  .next (
    let h := s.chan c
    let fin := s.f10Fin c
    if h.set.role ≠ 1 ∨ s.metering = false ∨ s.now < fin + 1024 then s
    else
      let void := h.f10Count == 0
      let f := if void then 0 else roundDivN (h.f10Count * 32768000000) h.f10Sum
      let t := s.timeOf fin
      let s := s.onChan c fun h => { h with
        f10 := f, f10From := fin, f10Cut := none, f10Count := h.f10NextCount, f10Sum := h.f10NextSum
        f10NextCount := 0, f10NextSum := 0 }
      if void then s
      else
        let nom := 1000 * s.nominalHz
        let l := s.parN 0x203
        let out := decide (f + bits l 0 16 < nom) || decide (nom + bits l 16 16 < f)
        if out = h.freqLimit then s
        else
          let s := s.onChan c fun h => { h with freqLimit := out }
          s.report (s.group fin 27 1 c (le 2 c ++ le 4 f ++ time6 t) (!out)) 7 (s.vsrc c) (s.pointsOf c) [c]
            ((f : Int) - nom) c)

/-! ## Items (R278) -/

/-- A slot of 18 bits extended from the detector's copy of the sample index. -/
def extend18 (now x : Nat) : Nat := if now < x then x else now - (now - x) % 2 ^ 18

/-- Items lost to a gap word (R26, R278): the detector does not know whose they were, so that every voltage channel's next
cycle is left out of frequency and its half-cycle value is VOID. -/
def State.itemsLost (s : State) : State :=
  (List.range s.nChan).foldl (fun s c =>
    if (s.chan c).set.role = 1 then (s.onChan c fun h => { h with pqCross := none, pqUndo := none }).halfValue c s.now 2 0 else s) s

/-- The next item of Q9 taken by the detector; `upsets` names the bits of its words that are inverted on the way (R23, R278, R282).
A poisoned word 0 discards the item; a poisoned word 1 makes the value VOID or removes the crossing. A withdrawal without its
fraction takes back the crossing of its slot. -/
def State.takeItem (s : State) (upsets : List (Nat × Nat)) : State :=
  match s.pq.q9 with
  | [] => s
  | w0 :: r =>
    if w0.gap then ((s.onPq fun p => { p with q9 := r }).gapped 9).itemsLost
    else
      let ws := crossing 32 upsets (w0 :: r.take 1)
      let bad := fun i => (ws.getD i {}).poison
      let d := fun i => (ws.getD i {}).data
      let s := (s.onPq fun p => { p with q9 := r.drop 1 }).poisonedN 9 (ws.filter fun w => w.poison).length
      if bad 0 then s
      else
        let k := bits (d 0) 0 2
        let c := bits (d 0) 2 9
        let slot := extend18 s.now (bits (d 0) 14 18)
        if (s.chan c).set.role ≠ 1 then s
        else if k = 0 then s.halfValue c slot (if bad 1 then 2 else bits (d 0) 11 3) (d 1)
        else if k = 2 then s
        else if k = 1 then
          if bad 1 then s.onChan c fun h => { h with pqCross := none, pqUndo := none } else s.freqCross c (256 * slot + d 1 % 256)
        else
          let last := (s.chan c).pqCross.getD 0
          s.freqWithdraw c (if bad 1 && last / 256 == slot then last else 256 * slot + d 1 % 256)

/-- PQ_ITEM (R278, R282). -/
def execPqItem (upsets : List (Nat × Nat)) (s : State) : Host.Outcome State Fault Refusal := .next (s.takeItem upsets)

/-- Every item of Q9 taken. -/
def State.drainItems (s : State) : State := (List.range s.pq.q9.length).foldl (fun s _ => s.takeItem []) s

/-! ## Harmonics (R286 to R289) -/

/-- The bin k of a window (R286): real and imaginary parts. -/
def binOf (zs : List Int) (k : Nat) : Int × Int :=
  let n := zs.length
  let js := List.range n
  ((List.zipWith (fun z j => roundDiv (z * cw ((k * j) % n) n) (2 ^ 22)) zs js).foldl (· + ·) 0,
   -(List.zipWith (fun z j => roundDiv (z * sw ((k * j) % n) n) (2 ^ 22)) zs js).foldl (· + ·) 0)

/-- c2[k] of a bin (R286). -/
def powerOfBin (k n : Nat) (b : Int × Int) : Nat :=
  if k = 0 then (roundDiv (b.1 * b.1) (n * n)).toNat else (roundDiv (2 * (b.1 * b.1 + b.2 * b.2)) (n * n)).toNat

/-- Twice G_h² of an order over the powers of the bins (R286): 0 when a bin of its group lies at or above n div 2 (R287). -/
def orderGroup (c2 : List Nat) (n half : Nat) (sub : Bool) (h : Nat) : Nat :=
  if h = 0 then 2 * c2.getD 0 0
  else
    let k := 2 * half * h
    let reach := if sub then k + 1 else k + half
    if n / 2 ≤ reach then 0
    else if sub then 2 * (c2.getD (k - 1) 0 + c2.getD k 0 + c2.getD (k + 1) 0)
    else
      let mid := ((List.range (2 * half - 1)).map fun d => c2.getD (k + d + 1 - half) 0).sum
      c2.getD (k - half) 0 + 2 * mid + c2.getD (k + half) 0

/-- The band code of an order (R287). -/
def bandOf (n half nom rate : Nat) (sub : Bool) (h : Nat) : Nat :=
  if h != 0 && decide (n / 2 ≤ if sub then 2 * half * h + 1 else 2 * half * h + half) then 2
  else if decide (4 * rate < 10 * ((2 * h + 1) * nom) / 2) then 1 else 0

/-- THD over orders 2 to a last one, in 0.01 %, from twice the G_h² (R287). -/
def thdOf (g2 : List Nat) (last : Nat) : Nat :=
  let g1 := roundSqrt (g2.getD 1 0) 2
  if g1 = 0 then 0xFFFF
  else min 0xFFFE (roundSqrt (((List.range (last - 1)).map fun i => g2.getD (i + 2) 0).sum * 10000 ^ 2) (2 * g1 ^ 2))

/-- The analysis of a complete window (R286, R287). -/
def State.analyse (s : State) (c : Nat) (w : HarmWin) : HarmResult :=
  let sub := bit (s.parN 0x200) 1
  let n := w.outs.length
  let len := w.fin - w.start
  let half := s.windowCycles / 2
  let base := 8 * b2n sub + 4 * b2n w.ovl
  let freq := roundDivN (128000000 * s.windowCycles) (max 1 len)
  if n = 0 ∨ w.outs.any (fun o => o.isNone) then
    { flags := base + 1 + 2 * b2n (w.outs.any fun o => o.isNone), windowEnd := w.fin, nOut := n, freq := freq }
  else
    let zs := w.outs.map fun o => o.getD 0
    let top := min (63 * 2 * half + half) (n / 2 - 1)
    let bs := (List.range (top + 1)).map (binOf zs)
    let c2 := (List.range (top + 1)).map fun k => powerOfBin k n (bs.getD k (0, 0))
    let at_ := fun h => bs.getD (2 * half * h) (0, 0)
    let g2 := (List.range 64).map (orderGroup c2 n half sub)
    let g := (List.range 64).map fun h =>
      (roundSqrt (g2.getD h 0) 2, phaseOf (at_ h).2 (at_ h).1, bandOf n half s.nominalHz (128000 / s.chanPeriod c) sub h)
    { flags := base, windowEnd := w.fin, nOut := n, freq := freq, thd50 := thdOf g2 50, thd63 := thdOf g2 63, orders := g
      xr := (List.range 64).map fun h => (at_ h).1, xi := (List.range 64).map fun h => (at_ h).2 }

/-- The 3 s value of a channel and EV_HARMONIC_LIMIT (R289). -/
def State.thdLimit (s : State) (c : Nat) : State :=
  let l := (s.chan c).thdLog
  if l.length < 15 then s
  else
    let v := roundSqrt ((l.map fun x => x * x).sum) 15
    let s := s.onChan c fun h => { h with thdLog := [] }
    let lim := s.parN 0x204 % 65536
    let on := (s.chan c).harmLimit
    if on = false ∧ lim < v then
      (s.onChan c fun h => { h with harmLimit := true }).report (s.group s.now 28 1 c (le 2 c ++ le 4 v)) 7 (s.vsrc c)
        (s.pointsOf c) [c] v c
    else if on = true ∧ v + 50 ≤ lim then
      (s.onChan c fun h => { h with harmLimit := false }).report (s.group s.now 28 1 c (le 2 c ++ le 4 v) true) 7 (s.vsrc c)
        (s.pointsOf c) [c] v c
    else s

/-- ke of an element (R254). -/
def keOf (fsV fsI : Nat) : Nat := roundDivN (fsV * fsI * 2 ^ 20) 1800000000

/-- The harmonic powers of a point, once all its channels have completed their windows (R288): those of an element are one window. With
different full scales in its elements the terms of p_h carry each its ke, and the sum is rounded once: DESIGN CHOICE, log entry
181. -/
def State.pointHarm (s : State) (m : Nat) : State :=
  let p := s.point m
  match p.bind with
  | none => s
  | some b =>
    let res := fun c => (s.chan c).harm
    let ends := b.chans.map fun c => (res c).windowEnd
    if !(b.chans.all fun c => s.harmEnabled c) || ends.any (fun e => decide (e ≤ p.harmEnd))
        || b.elements.any fun e => (res e.1).windowEnd != (res e.2).windowEnd then s
    else
      let flags := b.chans.foldl (fun f c => f ||| (res c).flags) 0
      let ph := (List.range 64).map fun h =>
        let terms := b.elements.map fun e =>
          let u := res e.1
          let i := res e.2
          let x := u.xr.getD h 0 * i.xr.getD h 0 + u.xi.getD h 0 * i.xi.getD h 0
          let n := (res e.1).nOut
          roundDiv ((if h = 0 then 1 else 2) * x) (256 * n * n) * keOf (s.chan e.1).fs (s.chan e.2).fs
        roundDiv (terms.foldl (· + ·) 0 * 1800000) (2 ^ 56)
      s.onPoint m fun p => { p with harmP := if bit flags 0 then List.replicate 64 0 else ph, harmFlags := flags
                                    harmEnd := ends.foldl max 0 }

/-- HARMONIC_WINDOW_END (R286): the harmonic island completes the oldest window of a channel. -/
def execHarmonicWindowEnd (c : Nat) (s : State) : Host.Outcome State Fault Refusal :=
  .next (match (s.chan c).harmReady with
    | [] => s
    | w :: r =>
      if s.hasHarm = false then s
      else
        let x := s.analyse c w
        let s := s.onChan c fun h => { h with harmReady := r, harm := x }
        let s := if bit x.flags 0 then s.onChan c fun h => { h with thdLog := [] }
          else if (s.chan c).set.role = 1 then (s.onChan c fun h => { h with thdLog := h.thdLog ++ [x.thd50] }).thdLimit c
          else s
        (s.pointsOf c).foldl State.pointHarm s)

/-- The harmonic windows that run are discarded (R73, R285): at PFAIL and at the temperature reduction. -/
def State.pauseHarm (s : State) : State :=
  (s.onPq fun p => { p with harmPaused := true }).eachChan fun h => { h with winHarm := false, winOuts := [] }

/-! ## READ_PQ and READ_HARMONICS (R297, R298) -/

/-- The record of a channel. -/
def State.pqChannel (s : State) (c : Nat) : List Byte :=
  let h := s.chan c
  if h.set.role ≠ 1 then le 2 c ++ zeros 30
  else
    le 2 c ++ le 1 (b2n h.sag.active + 2 * b2n h.swell.active + 4 * b2n h.intr.active + 8 * b2n h.noCross + 16 * b2n h.harmLimit
        + 32 * b2n h.freqLimit)
      ++ le 1 (s.vsrc c) ++ le 4 h.f10 ++ le 4 h.freqCycle ++ le 2 h.rHalf ++ le 2 h.rExtreme ++ le 4 h.sags ++ le 4 h.swells
      ++ le 4 h.intrs ++ le 2 h.harm.thd50 ++ le 2 h.rFlags

/-- The record of a point. -/
def State.pqPoint (s : State) (m : Nat) : List Byte :=
  let p := s.point m
  if p.bind.isNone then le 1 m ++ zeros 31
  else
    let v := fun k i => (p.pqOf k).getD i 0
    le 1 m ++ le 1 p.pqState ++ le 2 (v 0 2) ++ le 4 (v 0 0) ++ le 4 (v 0 1) ++ le 4 (v 1 0) ++ le 4 (v 1 1) ++ le 4 (v 2 0)
      ++ le 4 (v 2 1) ++ le 2 (v 1 2) ++ zeros 2

/-- READ_PQ (R297). -/
def cmdReadPq (s : State) (r : Request) : Except Deny State := do
  len r 4
  let k := byteAt r 0
  let n := byteAt r 1
  let first := fieldAt r 2 2
  need (decide (k ≤ 1) && within 1 126 n && decide (first + n ≤ if k = 0 then 512 else 256)) .badParameter
  need (decide (first + n ≤ if k = 0 then s.nChan else s.nMp)) .unitAbsent
  needChans s (if k = 0 then (List.range n).map fun i => first + i else [])
  needPriv s r 0x0601
  modeResp s false
  let f := if k = 0 then s.pqChannel else s.pqPoint
  .ok (s.replyOk r (le 2 n ++ zeros 6 ++ ((List.range n).map fun i => f (first + i)).flatten))

/-- READ_HARMONICS (R298). -/
def cmdReadHarmonics (s : State) (r : Request) : Except Deny State := do
  len r 4
  let k := byteAt r 0
  let i := fieldAt r 2 2
  need (decide (k ≤ 1) && decide (i < if k = 0 then 512 else 256)) .badParameter
  reserved r 1 1
  need s.hasHarm .unitAbsent
  need (decide (i < if k = 0 then s.nChan else s.nMp)) .unitAbsent
  needChans s (if k = 0 then [i] else [])
  needPriv s r 0x0602
  modeResp s false
  if k = 0 then
    need (s.harmEnabled i) .badParameter
    let x := (s.chan i).harm
    .ok (s.replyOk r (le 2 i ++ le 2 x.flags ++ sample8 x.windowEnd ++ le 2 x.nOut ++ zeros 2 ++ le 4 x.freq ++ le 2 x.thd50
      ++ le 2 x.thd63 ++ ((List.range 64).map fun h =>
        let o := x.orders.getD h (0, 0, 0)
        le 4 o.1 ++ le 2 o.2.1 ++ le 1 o.2.2 ++ zeros 1).flatten))
  else
    let p := s.point i
    match p.bind with
    | none => .error { status := .badParameter }
    | some b =>
      need (b.chans.all fun c => s.harmEnabled c) .badParameter
      let v := fun h => p.harmP.getD h 0
      .ok (s.replyOk r (le 1 i ++ zeros 1 ++ le 2 p.harmFlags ++ sample8 p.harmEnd
        ++ leI 4 (((List.range 62).map fun h => v (h + 2)).foldl (· + ·) 0) ++ ((List.range 64).map fun h => leI 4 (v h)).flatten))

end Sys2Proof.Machine
end

