-- ==== Sys2Proof/Machine/Capture.lean ====
section
/-! DEFINITION. Waveform capture (R290 to R292, R299, R300): its states, ARM_CAPTURE, READ_CAPTURE and CAPTURE_COMPLETE. -/
namespace Sys2Proof.Machine

/-- The capture changed. -/
def State.onCapture (s : State) (f : Capture → Capture) : State := s.onPq fun p => { p with capture := f p.capture }

/-- The number of a capture state (R292). -/
def CaptureState.num : CaptureState → Nat
  | .idle => 0
  | .armed => 1
  | .suspended => 2
  | .post => 3
  | .held => 4

/-- The rings start empty at a round boundary. -/
def Capture.restart (c : Capture) (at_ : Nat) : Capture :=
  { c with from_ := at_, endStamp := 0, tracks := c.tracks.map fun t => { t with start := 0, data := [] } }

/-- Entry to HELD: the header is completed with its valid mark (R291). -/
def State.holdCapture (s : State) (truncated : Bool) : State :=
  (s.onCapture fun c => { c with
    state := .held, flags := c.flags ||| b2n truncated, seq := incSat 32 c.seq, valid := true }).raise 30 0 0 []

/-- PFAIL, temperature reduction, or another end of full work (R291). -/
def State.stopCapture (s : State) : State :=
  match s.pq.capture.state with
  | .post => s.holdCapture true
  | .armed => s.onCapture fun c => { c with state := .suspended }
  | _ => s

/-- The return of full work (R291): the rings of a suspended capture restart empty from the next round boundary. -/
def State.resumeCapture (s : State) : State :=
  if s.pq.capture.state = .suspended then s.onCapture fun c => { c.restart s.nextRound with state := .armed } else s

/-- A change of the rate or the role of a channel (R291). A suspended capture goes on with the new rate when its rings restart. -/
def State.captureChanged (s : State) (c : Nat) : State :=
  let x := s.pq.capture
  if !x.chans.contains c then s
  else
    let rate := if (s.chan c).set.single then 6 else (s.bank (s.chan c).set.bank).k
    match x.state with
    | .post => s.holdCapture true
    | .armed => s.onCapture fun x =>
        let y := x.restart s.now
        { y with flags := y.flags ||| 4, tracks := y.tracks.map fun t => if t.ch = c then { t with rate := rate } else t }
    | .suspended => s.onCapture fun x =>
        { x with tracks := x.tracks.map fun t => if t.ch = c then { t with rate := rate } else t }
    | _ => s

/-- An adjournment (R291): an armed capture is given up, one in POST is completed as it stands. -/
def State.dropCapture (s : State) : State :=
  match s.pq.capture.state with
  | .post => s.holdCapture true
  | .armed | .suspended => s.onCapture fun c => { c with state := .idle }
  | _ => s

/-- The outputs that a track holds: 2 s of its rate (R292). -/
def Track.size (t : Track) : Nat := 256000 / trackRate t.rate

/-- The position of a stamp in its track (R292). -/
def Track.position (t : Track) (stamp : Nat) : Nat := (stamp - t.start) / trackRate t.rate % t.size

/-- The 12 bytes of a track in the header (R292). -/
def Track.bytes (t : Track) : List Byte :=
  le 2 t.ch ++ le 1 t.rate ++ zeros 1
    ++ le 4 (match t.data with
      | d :: _ => t.position d.1
      | [] => 0)
    ++ le 4 t.data.length

/-- The 256 bytes of the header (R292): the valid mark stands only once the capture is complete. -/
def Capture.header (c : Capture) : List Byte :=
  let body := le 2 0x00CA ++ le 1 c.state.num ++ le 1 c.flags ++ le 1 c.cause ++ le 1 c.tracks.length ++ le 2 c.source
    ++ sample8 c.trig ++ leI 6 c.trigTime ++ zeros 2 ++ sample8 c.endStamp ++ le 4 c.seq ++ le 2 c.ignored ++ zeros 2
    ++ padTo 192 (c.tracks.map Track.bytes).flatten ++ zeros 16
  let mark := frameMark body
  body ++ mark.take 4 ++ if c.valid then mark.drop 4 else zeros 4

/-- The three bytes at a position of a track; what nothing has written there is free. -/
def Track.output (t : Track) (free : List Byte) (k : Nat) : List Byte :=
  match t.data.find? fun d => t.position d.1 == k with
  | some d => leI 3 d.2
  | none => free

/-- One byte of the tracks, from offset 256 on. -/
def trackByte (free : List Byte) : List Track → Nat → Byte
  | [], _ => 0
  | t :: r, i => if i < 3 * t.size then (t.output free (i / 3)).getD (i % 3) 0 else trackByte free r (i - 3 * t.size)

/-- The length of the capture in bytes (R292). -/
def Capture.length (c : Capture) : Nat := 256 + ((c.tracks.map fun t => 3 * t.size).foldl (· + ·) 0)

/-- CAPTURE_COMPLETE (R291): the last output of the span has been written on every track. -/
def execCaptureComplete (s : State) : Host.Outcome State Fault Refusal :=
  .next (
    let c := s.pq.capture
    if c.state = .post ∧ (c.tracks.all fun t => decide (c.trig + 128000 ≤ (s.chan t.ch).detAt)) = true
    then s.holdCapture false else s)

/-- ARM_CAPTURE (R291, R299). In SUSPENDED the capture stays suspended with its new list. -/
def cmdArmCapture (s : State) (r : Request) : Except Deny State := do
  let f := byteAt r 0
  let n := byteAt r 2
  let bare := bit f 0 || bit f 3
  need (decide (4 ≤ r.params.length) && r.params.length == 4 + 2 * n) .badParameter
  flagsWithin f 4
  let t := byteAt r 1
  need (t % 2 == 0 && decide (t < 64)) .badParameter
  need (if bare then n == 0 else within 1 16 n) .badParameter
  reserved r 3 1
  let cs := (List.range n).map fun i => fieldAt r (4 + 2 * i) 2
  need (decide cs.Nodup && cs.all fun c => decide (c ≤ 511)) .badParameter
  need s.hasCapt .unitAbsent
  need (cs.all fun c => decide (c < s.nChan)) .unitAbsent
  need (cs.all fun c => s.islOn (c / 64)) .unitRetired
  needPriv s r 0x0603
  modeAll s
  need (cs.all fun c => (s.chan c).set.role != 0) .badParameter
  let x := s.pq.capture
  need (x.state != .post && (x.state != .held || bit f 1) && (!bit f 3 || x.state == .armed)) .resourceBusy
  let s :=
    if bit f 0 then
      match x.state with
      | .armed => s.onCapture fun c => { c with state := .idle }
      | .held => s.onCapture fun c => { seq := c.seq }
      | _ => s
    else if bit f 3 then
      let t := nextMul s.now 256
      s.onCapture fun c => { c with
        state := .post, cause := 0, source := 0xFFFF, trig := t, trigTime := s.timeOf t
        flags := c.flags ||| (2 * b2n (decide (t < c.from_ + 128000))) }
    else
      let rate := fun c => if (s.chan c).set.single then 6 else (s.bank (s.chan c).set.bank).k
      s.onCapture fun c => {
        state := if x.state = .suspended then .suspended else .armed
        triggers := t, any := bit f 2, seq := c.seq, from_ := s.nextRound
        tracks := cs.map fun k => { ch := k, rate := rate k } }
  .ok (s.replyOk r (le 1 s.pq.capture.state.num ++ zeros 3 ++ sample8 s.pq.capture.from_))

/-- READ_CAPTURE (R300). -/
def cmdReadCapture (s : State) (r : Request) : Except Deny State := do
  len r 8
  let off := fieldAt r 0 4
  let n := fieldAt r 4 2
  let f := byteAt r 6
  need (within 1 4000 n) .badParameter
  flagsWithin f 1
  reserved r 7 1
  need s.hasCapt .unitAbsent
  needPriv s r 0x0604
  modeResp s false
  let c := s.pq.capture
  need (c.state == .held || (decide (off + n ≤ 256) && f == 0)) .resourceBusy
  need (decide (off + n ≤ c.length)) .badParameter
  let x := s.drawBytes 3
  let h := c.header
  let bs := (List.range n).map fun i =>
    if off + i < 256 then h.getD (off + i) 0 else trackByte x.1 c.tracks (off + i - 256)
  let s := x.2.replyOk r (le 4 off ++ le 2 n ++ bs)
  .ok (if bit f 0 then s.onCapture fun c => { seq := c.seq } else s)

end Sys2Proof.Machine
end

