-- ==== Sys2Proof/Machine/Checks.lean ====
section
/-! DEFINITION. The check state of a channel (R179): the record of its changes, recovery from FAILED, and the fresh state after
a start, a role change or a changed correction. -/
namespace Sys2Proof.Machine

/-- The outcomes of a second: the DETAIL codes of R184, then BUSY, UNIT_RETIRED, and a request that is discarded. -/
inductive Outcome where
  | match_ | mismatch | void | unverified | busy | retired | discarded
  deriving DecidableEq, Repr

/-- DETAIL of an outcome (R184). -/
def Outcome.num : Outcome → Nat
  | .match_ => 0
  | .mismatch => 1
  | .void => 2
  | _ => 3

/-- EV_CHECKER_FAULT of a channel: the channel, the outcome, M1 and M2. -/
def State.checkerFault (s : State) (c : Nat) (x : Outcome) (m1 m2 : Nat) : State :=
  s.report (s.group s.now 16 1 c (le 2 c ++ le 4 x.num ++ le 4 m1 ++ le 4 m2)) 3 (c / 64) (s.pointsOf c) [c]
    ((m1 : Int) - m2).natAbs c

/-- A channel leaves FAILED: cause [0] of its points ends at their next cycle boundary unless another channel is FAILED. -/
def State.channelRecovers (s : State) (c : Nat) : State :=
  (s.pointsOf c).foldl (fun s m => match (s.point m).bind with
    | some b => if b.chans.any fun k => (s.chan k).check == .failed then s else s.endCause m 0
    | none => s) s

/-- The check state after a change of a channel's gain or corrections, or at a start (R179). -/
def State.freshCheck (s : State) (c : Nat) : CheckState :=
  let i := s.isl (c / 64)
  if i.a.failed && i.b.failed then .unverified else .unchecked

/-- A channel's check state begins afresh (R179). A channel that was FAILED leaves that state, which is recorded. -/
def State.resetCheck (s : State) (c : Nat) : State :=
  let was := (s.chan c).check == .failed
  let s := s.onChan c fun h => { h with check := s.freshCheck c, mismatches := 0, matchRun := 0 }
  if was then (s.checkerFault c .unverified 0 0).channelRecovers c else s

end Sys2Proof.Machine
end

