-- ==== Sys2Proof/Machine/Cycle.lean ====
section
/-! DEFINITION. Pending slots of the points (R227, R228), their contributions with cycle-hold (R237, R250, R251), and the
settings that take effect at a channel's cycle boundary (R35, R203, R208, R219). -/
namespace Sys2Proof.Machine

/-! ## Cycles of a point (R227, R239, R248, R249) -/

/-- The full-scale values of a point's elements (R254). -/
def State.elementFs (s : State) (b : Binding) : List (Nat × Nat) :=
  b.elements.map fun e => ((s.chan e.1).fs, (s.chan e.2).fs)

/-- The causes under which a cycle that begins at a slot is held (R239, R416): [0] to [2], and [4] when an alarm in force at
that slot asks for it, or one that had not cleared by then. -/
def State.heldAt (s : State) (m at_ : Nat) : Nat :=
  let c := (s.point m).causes
  let p := s.point m
  let clears := bit p.estEnd 4 && decide (at_ ≤ p.estEndAt)
  c % 8 + 16 * b2n (bit c 4 && (clears || s.tamper.alarms.any fun a => bit a.word 2 && decide (a.from_ ≤ at_) && s.inScope a m))

/-- The causes that end at a cycle boundary (R239): cause [1] only once settling is over. -/
def State.endCauses (s : State) (m at_ : Nat) : State :=
  let p := s.point m
  match p.bind with
  | none => s
  | some b =>
    let busy := b.chans.any fun c => decide ((s.chan c).settleFrom ≤ at_) && decide (at_ < (s.chan c).settleTo)
    let gone := if at_ < p.estEndAt then 0 else if busy then p.estEnd &&& 29 else p.estEnd
    s.onPoint m fun p => { p with causes := p.causes &&& (31 - gone), estEnd := p.estEnd &&& (31 - gone) }

/-- EN_START_THRESHOLD for a cycle that begins at a slot: a change of it holds from the point's first cycle boundary at or after its
hand-over (R274). -/
def State.startFor (s : State) (at_ : Nat) : Nat := if at_ < s.engine.startAt then s.engine.startOld else s.parN 0x141

/-- The first cycle of a point begins: the boundaries before it do not affect the point, whose rate is that in force at its first
slot (R258) and whose subinterval and profile interval start there (R320). -/
def State.firstOpened (s : State) (m at_ : Nat) (b : Binding) : State :=
  let gone := fun (c : Commit) => c.waiting.contains m && decide (c.instant < at_)
  let out := s.tariff.commits.filter gone
  let leave := fun (c : Commit) => { c with waiting := c.waiting.filter fun k => k != m, points := c.points - 1 }
  (s.onTariff fun t => { t with commits := t.commits.map fun c => bif gone c then leave c else c }).onPoint m fun p =>
      { out.foldl (fun p c => p.takeState m b.plan c) p with subTime := s.timeOf at_, profTime := s.timeOf at_ }

/-- A cycle boundary of the first voltage channel for a point: the open cycle closes, and the next one opens unless the point
is leaving (R249) or has not started (R248). -/
def State.openCycle (s : State) (m at_ : Nat) (gate : Bool) (number : Nat) : State :=
  let p := s.point m
  match p.bind with
  | none => s
  | some b =>
    let isOpen := p.slots.any fun x => x.close.isNone
    let late := match p.unbindAt with
      | some u => decide (u < at_)
      | none => false
    if isOpen = false ∧ (at_ < b.start ∨ late = true) then s
    else
      let s := if p.unopened then s.firstOpened m at_ b else s
      let s := s.endCauses m at_
      let close := fun (x : PendSlot) =>
        if x.close.isSome then x
        else { x with close := some at_, synthetic := gate, provis := !gate
                      contribs := x.contribs.filter fun c => decide (c.stamp < at_) }
      let moved := (p.slots.map fun x => if x.close.isNone then x.contribs.filter fun c => decide (at_ ≤ c.stamp) else []).flatten
      let held := s.heldAt m at_
      let new : PendSlot := { cycle := number, first := at_, held := held, per := s.chanPeriod b.v1, fs := s.elementFs b
                              est := (s.point m).causes != 0, start := s.startFor at_
                              contribs := if held % 8 = 0 then moved else [] }
      s.onPoint m fun p => { p with slots := p.slots.map close ++ if late then [] else [new] }

/-- Two slots on either side of a withdrawn crossing added into one (R227). -/
def mergeSlots (at_ : Nat) : List PendSlot → List PendSlot
  | [] => []
  | [x] => if x.first = at_ then [] else if x.close = some at_ then [{ x with close := none, provis := false }] else [x]
  | x :: y :: r =>
    if x.close = some at_ then
      { x with close := y.close, provis := y.provis, synthetic := y.synthetic, contribs := x.contribs ++ y.contribs
               takenBack := x.takenBack || y.takenBack, est := x.est || y.est, held := x.held ||| y.held
               cuts := x.cuts ++ y.cuts.filter fun t => !x.cuts.contains t } :: r
    else x :: mergeSlots at_ (y :: r)

/-- The pending recomputations of a point after the cycle that begins at a slot has been added to the one before it. -/
def redoMerged (m : Nat) (gone kept : Option Nat) (l : List (Nat × Nat)) : List (Nat × Nat) :=
  (l.filterMap fun x => if x.1 = m ∧ some x.2 = gone then kept.map fun k => (m, k) else some x).eraseDups

/-- A crossing of the first voltage channel withdrawn: the slots on either side of it become one, with the recomputation that one of
them has pending. -/
def State.withdrawCycle (s : State) (m at_ : Nat) : State :=
  let p := s.point m
  let gone := (p.slots.find? fun x => x.first == at_).map fun x => x.cycle
  let kept := (p.slots.find? fun x => x.close == some at_).map fun x => x.cycle
  (s.onPoint m fun p => { p with slots := mergeSlots at_ p.slots }).onEngine fun e => { e with
    redo := redoMerged m gone kept e.redo
    carried := e.carried.filterMap fun x => match x.slice with
      | .redo k n => if k = m ∧ some n = gone then kept.map fun y => { x with slice := .redo m y } else some x
      | _ => some x }

/-- A crossing of the first voltage channel confirmed. -/
def State.confirmCycle (s : State) (m at_ : Nat) : State :=
  s.onPoint m fun p => { p with slots := p.slots.map fun x => if x.close = some at_ then { x with provis := false } else x }

/-- The boundary events of a voltage channel for the points that follow it; `no` is the number of the cycle that the first
event opens. -/
def State.pointEvents (s : State) (pts : List Nat) : Nat → List CrossEv → State
  | _, [] => s
  | no, e :: r =>
    match e with
    | .opened at_ g => State.pointEvents (pts.foldl (fun s m => s.openCycle m at_ g (no % 2 ^ 32)) s) pts (no + 1) r
    | .withdrawn at_ => State.pointEvents (pts.foldl (fun s m => s.withdrawCycle m at_) s) pts (no - 1) r
    | .confirmed at_ => State.pointEvents (pts.foldl (fun s m => s.confirmCycle m at_) s) pts no r

/-! ## Overload in two consecutive cycles (R170) -/

/-- The cycle boundaries that stand: confirmed crossings and predicted gates. -/
def standing (evs : List CrossEv) : List Nat :=
  evs.filterMap fun e => match e with
    | .confirmed at_ => some at_
    | .opened at_ true => some at_
    | _ => none

/-- A cycle of a channel's gate reference that ends at a slot judged for flagged samples (R170): a request is owed after two flagged
cycles in a row, at most once every 10 s. A crossing that is withdrawn ends no cycle. -/
def State.flagCycle (s : State) (c at_ : Nat) : State :=
  let h := s.chan c
  let cur := match h.flagFrom with
    | some f => h.flagRuns.any fun r => decide (r.1 < at_) && decide (f < r.2)
    | none => false
  let free := match h.verifyAt with
    | some t => decide (t + 1280000 ≤ s.now)
    | none => true
  let ask := cur && h.flaggedPrev && free && s.bound c
  let s := s.onChan c fun h => { h with
    flagFrom := some at_, flaggedPrev := cur, verifyAt := if ask then some s.now else h.verifyAt }
  if ask then s.onEngine fun e => { e with overPending := union e.overPending [c] } else s

/-! ## Contributions (R237, R250, R251) -/

/-- Whether an output of a stamp is still in the retained window of a point's channels (R201). -/
def inWindow (per now stamp : Nat) : Bool := decide (now ≤ stamp + (if per = 64 then 6144 else 5120))

/-- The contribution of a point at a stamp as the outputs give it: not ok when an output it uses is excluded or missing. -/
def State.measured (s : State) (b : Binding) (per t : Nat) : Contrib :=
  let es := b.elements.map fun e =>
    match (s.chan e.1).partner per t, (s.chan e.2).outFor (t - 31 * per) with
    | some (u, h, bad, ovl), some i => (u, i.z, h, !bad && !i.excluded, ovl || i.ovl)
    | _, _ => (0, 0, 0, false, false)
  let nt := match b.neutral with
    | some c => match (s.chan c).outFor (t - 31 * per) with
      | some o => o.z
      | none => 0
    | none => 0
  { stamp := t, u := es.map fun e => e.1, i := es.map fun e => e.2.1, h := es.map fun e => e.2.2.1, nt := nt
    ok := es.all fun e => e.2.2.2.1, ovl := es.any fun e => e.2.2.2.2 }

/-- A contribution with cycle-hold: an excluded one takes that of the same position in the previous cycle when it is there and
in the window; otherwise it holds no outputs, and the previous cycle's mean sums stand for it (R237). -/
def holdContrib (c : Contrib) (per now k : Nat) (prev : List Contrib) : Contrib :=
  if c.ok then c
  else match prev[k]? with
    | some q => if q.ok && inWindow per now q.stamp then { q with stamp := c.stamp, ok := false, ovl := false }
      else { stamp := c.stamp, ok := false }
    | none => { stamp := c.stamp, ok := false }

/-- Contributions added to a slot for the stamps from one on, with the contributions of the cycle before it. -/
def State.addTo (s : State) (b : Binding) (prev : List Contrib) (x : PendSlot) (from_ upTo : Nat) : PendSlot :=
  (stampsIn x.per from_ upTo).foldl (fun x t =>
    { x with contribs := x.contribs ++ [holdContrib (s.measured b x.per t) x.per s.now x.contribs.length prev] }) x

/-- The stamp after the last contribution of a slot. -/
def PendSlot.nextStamp (x : PendSlot) : Nat :=
  match x.contribs.getLast? with
  | some c => c.stamp + 1
  | none => x.first

/-- Every slot of a point brought up to a slot index, with its cuts (R228); `prev` are the contributions of the cycle before. -/
def State.fillSlots (s : State) (m : Nat) (b : Binding) (upTo : Nat) : List Contrib → List PendSlot → List PendSlot
  | _, [] => []
  | prev, x :: r =>
    let fin := min upTo (x.close.getD upTo)
    let x := if x.held % 8 = 0 then
        let y := s.addTo b prev x x.nextStamp fin
        { y with cuts := s.cutsFrom m b x x.nextStamp fin }
      else { x with cuts := s.cutsFrom m b x x.first fin }
    x :: s.fillSlots m b upTo x.contribs r

/-- The slot index up to which the slices of a point's channels have run. -/
def State.pointReady (s : State) (b : Binding) : Nat :=
  b.chans.foldl (fun t c => if s.sampled c then min t (s.chan c).outAt else t) s.now

/-- The pending slots of a point brought up to a slot index. -/
def State.fillPoint (s : State) (m upTo : Nat) : State :=
  match (s.point m).bind with
  | none => s
  | some b => s.onPoint m fun p => { p with slots := s.fillSlots m b (min upTo (s.pointReady b)) p.prev p.slots }

/-- The slice of a point (R217): the contributions of its pending slots. -/
def State.pointSlice (s : State) (m : Nat) : State := s.fillPoint m s.now

/-- A takeback recomputation (R233): the contributions of one pending cycle computed again from the retained window, split at the
instants now in the table. -/
def State.redoSlot (s : State) (m cycle : Nat) : State :=
  (s.onPoint m fun p => { p with slots := p.slots.map fun x =>
    if x.cycle = cycle then { x with contribs := [], cuts := [] } else x }).fillPoint m s.engine.runAhead

/-- The output period and the full-scale values of the cycles of a point that begin at or after a slot follow the settings in force
(R251, R254). -/
def State.rescale (s : State) (m from_ : Nat) : State :=
  match (s.point m).bind with
  | none => s
  | some b => s.onPoint m fun p => { p with slots := p.slots.map fun x =>
      if from_ ≤ x.first then { x with per := s.chanPeriod b.v1, fs := s.elementFs b } else x }

/-- The contributions of a point from a slot index on computed again from the retained window. -/
def State.rebuild (s : State) (m from_ : Nat) : State :=
  let cut := fun (x : PendSlot) =>
    if x.close.any (fun c => decide (c ≤ from_)) then x
    else { x with contribs := x.contribs.filter fun k => decide (k.stamp < from_) }
  ((s.rescale m from_).onPoint m fun p => { p with slots := p.slots.map cut }).pointSlice m

/-- A poisoned output of a channel takes back each pending cycle that it lies in, once (R233, third row). -/
def State.poisonedOut (s : State) (c stamp : Nat) : State :=
  let holds := fun (x : PendSlot) => decide (x.first ≤ stamp) && decide (stamp < x.close.getD (stamp + 1)) && !x.poisoned
  let pts := (s.pointsOf c).filter fun m => (s.point m).slots.any holds
  if pts.isEmpty then s
  else
    let s := s.takeback 2 (fun m => pts.contains m) fun a b => decide (a ≤ stamp) && decide (stamp < b)
    let mark := fun (x : PendSlot) => if holds x then { x with poisoned := true } else x
    pts.foldl (fun s m => s.onPoint m fun p => { p with slots := p.slots.map mark }) s

/-- The poisoned outputs that a round has brought, in the order of their stamps. -/
def State.poisonTrigger (s : State) (c from_ : Nat) : State :=
  ((s.chan c).outs.filter fun o => decide (from_ ≤ o.stamp) && o.poison).reverse.foldl (fun s o => s.poisonedOut c o.stamp) s

/-! ## Committed parameter sets (R35, R502, R506) -/

/-- Parameter sets of which nothing is left to take effect: their operation completes; the reply of a set that has been
handed over is released (R502, R505, R506). -/
def State.settleSets (s : State) : State :=
  s.engine.commits.foldl (fun s k =>
    if s.engine.effects.any (fun e => e.set == k.id && e.handed.isNone) then s
    else
      let left := (s.engine.effects.any fun e => e.set == k.id) || k.banks.any fun n => !(s.bank n).pending.isEmpty
      let s := match k.port with
        | some p =>
          let s := if k.flagByte then s.onWaiting p .round fun r => { r with payload := r.payload.take 2 ++ [BitVec.ofNat 8 (2 * b2n left), 0] }
            else s
          s.onWaiting p .round fun r => { r with wait := .none, baud := (s.port 1).baudNext.isSome }
        | none => s
      let s := match k.op with
        | some o => if left then s else s.finish o .ok k.detail k.result
        | none => s
      s.onEngine fun e => { e with
        commits := if left && k.op.isSome then e.commits.map fun x => if x.id = k.id then { x with port := none } else x
          else e.commits.filter fun x => x.id != k.id }) s

/-! ## Settings at a cycle boundary (R35, R203, R207, R208, R219) -/

/-- The channel and the parameter of an item: 8 stands for the full-scale value. -/
def EffItem.chan? : EffItem → Option (Nat × Nat)
  | .pid n _ => chanPid n
  | .fs c _ => some (c, 8)
  | .bank _ _ _ _ => none

/-- The handed items of a channel, with the boundary of their hand-over. -/
def State.stepItems (s : State) (c : Nat) : List Effect :=
  s.engine.effects.filter fun e => e.handed.isSome && match e.item.chan? with
    | some (k, _) => k == c
    | none => false

/-- The settings of a channel once its handed items have taken effect. -/
def State.stepSettings (s : State) (c : Nat) : Settings :=
  (s.stepItems c).foldl (fun (t : Settings) e => match e.item with
    | .pid pid v => match chanPid pid with
      | some (_, p) => t.put p v
      | none => t
    | _ => t) (s.chan c).set

/-- Whether a channel's pending switch of a bank or its items change its output rate. -/
def State.rateChanges (s : State) (c : Nat) : Bool := s.periodOf (s.stepSettings c) != s.chanPeriod c

/-- The voltage channel whose cycle boundary is a channel's step instant (R203, R208): none for fixed windows. -/
def State.stepRef (s : State) (c : Nat) : Option Nat :=
  match s.pointsOf c with
  | m :: _ =>
    if s.rateChanges c then
      match (s.point m).bind with
      | some b => some b.v1
      | none => s.gateRef c
    else s.gateRef c
  | [] => s.gateRef c

/-- The banks that a channel has still to switch to. -/
def State.bankWaits (s : State) (c : Nat) : Option Bank :=
  let b := s.bank (s.chan c).set.bank
  if b.pending.contains c then some b else none

/-- The step instant of a channel that waits since a slot, when it lies in the rounds processed (R208). -/
def State.stepInstant (s : State) (c since : Nat) : Option Nat :=
  match s.stepRef c with
  | some v => (((s.chan v).marks.filter fun m => m.full && !m.provis && decide (since ≤ m.at_)).map fun m => m.at_).min?
  | none => let t := nextMul since 2560; if t ≤ s.now then some t else none

/-- The parts of two settings that make a change a step for settling (R208). -/
def Settings.stepPart (t : Settings) : Nat × Nat × Nat × Bool × Nat := (t.frac, t.int, t.bank, t.single, t.pga)

/-- A bank that a channel no longer waits for. -/
def Bank.served (b : Bank) (c : Nat) : Bank :=
  let p := b.pending.filter fun k => k != c
  { b with pending := p, old := if p.isEmpty then none else b.old }

/-- The slot values of a channel from a slot on formed again after a change of its integer delay or an island step: slots before
it follow the old delay (R187, R188). What was poisoned stays poisoned. -/
def State.redelay (s : State) (c at_ old : Nat) : State :=
  let h := s.chan c
  let comp := (s.isl (c / 64)).compressed
  let from_ := blockStart comp at_
  let vs := h.slotValues old (s.now - 1) from_ at_ (s.tapAt c) ++ h.slotValues h.set.int (s.now - 1) at_ s.now (s.tapAt c)
  let was := h.values s.now from_ s.now
  let vs := List.zipWith (fun (v w : Sample) => if w.poison then lostSample else v) (carried comp from_ vs) was
  s.onChan c fun h => { h with hist := vs.reverse ++ h.hist.drop (s.now - from_) }

/-- The outputs of a channel from a slot on formed again, as far as its slices have run, with the envelope as it stood before the
first of them (R215). -/
def State.rerun (s : State) (c at_ : Nat) : State :=
  let h := s.chan c
  let env := match (h.outs.filter fun o => decide (at_ ≤ o.stamp)).getLast? with
    | some o => o.env
    | none => h.env
  (s.onChan c fun h => { h with outs := h.outs.filter (fun o => decide (o.stamp < at_)), env := env }).runSlice c at_ h.outAt

/-- What waits for a channel's step takes effect at a slot (R35, R208, R219): settings, and with `banked` its bank; the settling
span, the check state, and for a changed correction the takeback of R233. In lean metering a change of corrections alone leaves
the outputs computed before it as they are (R231). -/
def State.stepChannel (s : State) (c at_ : Nat) (items : List Effect) (banked : Bool) : State :=
  let old := s.chan c
  let p := s.chanPeriod c
  let s := (items.map fun e => e.item).foldl State.putItem s
  let new := s.chan c
  let s := s.onEngine fun e => { e with
    effects := e.effects.filter fun x => !items.contains x
    banks := if banked then upd e.banks old.set.bank fun b => b.served c
      else if old.set.bank = new.set.bank then e.banks else upd e.banks old.set.bank fun b => b.served c }
  let pga := old.set.pga != new.set.pga
  let stepped := banked || old.set.stepPart != new.set.stepPart
  let corrected := old.set.gcorr != new.set.gcorr || old.set.off != new.set.off
  let s := if stepped then
      let l := settleLen new.set.single (s.bankFor c).1 (if pga then 3 else 0)
      s.onChan c fun h => { h with settleFrom := at_, settleTo := at_ + l, islSettle := pga }
    else s
  let s := if corrected || pga then
      s.resetCheck c else s
  let s := if s.chanPeriod c = p then s else s.captureChanged c
  let s := if old.set.int != new.set.int || pga then s.redelay c at_ old.set.int else s
  let s := if old.fs = new.fs then s else s.endEvents 16 c
  let pts := s.pointsOf c
  let s := if stepped || !s.power.lean then s.rerun c at_ else s
  let s := if corrected then s.takeback 4 (fun m => pts.contains m) fun _ b => decide (at_ < b) else s
  pts.foldl (fun s m => if stepped then s.rebuild m at_ else s.rescale m at_) s

/-- The step of one channel, when its instant has come: each item and each switch of a bank at the first boundary from its own
hand-over or load on (R207, R208). -/
def State.stepDue (s : State) (c : Nat) : State :=
  let items := s.stepItems c
  let bank := s.bankWaits c
  let since := (items.map fun e => e.handed.getD 0) ++ bank.toList.map fun b => b.from_
  match since.min? with
  | none => s
  | some t =>
    if meteringRole (s.chan c).set.role then
      match s.stepInstant c t with
      | some x => s.stepChannel c x (items.filter fun e => decide (e.handed.getD 0 ≤ x))
          (bank.any fun b => decide (b.from_ ≤ x))
      | none => s
    else s.stepChannel c s.now items (bank.any fun b => decide (b.from_ ≤ s.now))

/-- The provisional boundary at which what waits for a channel's step would take effect, while it may still be withdrawn: its slot
(R208). -/
def State.stepExpected (s : State) (c : Nat) : Option Nat :=
  let since := ((s.stepItems c).map fun e => e.handed.getD 0) ++ (s.bankWaits c).toList.map fun b => b.from_
  match since.min?, s.stepRef c with
  | some t, some v =>
    if meteringRole (s.chan c).set.role then
      (((s.chan v).marks.filter fun m => m.full && m.provis && decide (t ≤ m.at_)).map fun m => m.at_).min?
    else none
  | _, _ => none

/-- The samples of the round taken by a channel's overload logic and comparator; those from a boundary on at which a step may still
take effect wait. CH_STATE shows the settling that such a step would begin (R211). -/
def State.takeUp (s : State) (c : Nat) : State :=
  match s.stepExpected c with
  | none => (s.takeSamples c s.now).onChan c fun h => { h with settleAhead := none }
  | some x =>
    let h := s.chan c
    let t := s.stepSettings c
    let stepped := (s.bankWaits c).isSome || t.stepPart != h.set.stepPart
    let l := settleLen t.single (s.bank t.bank).taps (if t.pga = h.set.pga then 0 else 3)
    (s.takeSamples c (min x s.now)).onChan c fun h => { h with settleAhead := if stepped then some (x, x + l) else none }

/-- The steps of all channels at a round boundary, and the samples that the round has delivered. -/
def State.stepsDue (s : State) : State :=
  let s := (List.range s.nChan).foldl State.stepDue s
  (List.range s.nChan).foldl (fun s c => if s.sampled c then s.takeUp c else s) s

end Sys2Proof.Machine
end

