-- ==== Sys2Proof/Machine/Seconds.lean ====
section
/-! DEFINITION. The checking converters (R175 to R184): gates, rotation, urgent requests, comparisons, self-tests, and the
outcomes that the engine and the tamper logic take (R170, R233, R432). -/
namespace Sys2Proof.Machine

/-! ## One second of an island -/

/-- Second A or B of an island. -/
def Island.second (i : Island) (b : Bool) : Second := if b then i.b else i.a

/-- One second changed. -/
def State.onSecond (s : State) (n : Nat) (b : Bool) (f : Second → Second) : State :=
  s.onIsland n fun i => if b then { i with b := f i.b } else { i with a := f i.a }

/-- The second that serves a channel (R176, R181): that of its half, or the other one when it has failed. -/
def Island.serving (i : Island) (c : Nat) : Bool :=
  let half := decide (32 ≤ c % 64)
  if (i.second half).failed then !half else half

/-- Both seconds have failed. -/
def Island.blind (i : Island) : Bool := i.a.failed && i.b.failed

/-! ## Gates in the sampling domain (R177, R277) -/

/-- The centroid of a channel's filter as a fraction (R277): numerator and denominator. -/
def State.centroid (s : State) (c : Nat) : Int × Nat :=
  if (s.chan c).set.single then (65, 2)
  else
    let b := (s.bankFor c).2.2
    let sum := b.foldl (· + ·) 0
    let num := (List.zipWith (fun (x : Int) (l : Nat) => x * l) b (List.range b.length)).foldl (· + ·) 0
    if sum = 0 then (0, 1) else if sum < 0 then (-num, sum.natAbs) else (num, sum.natAbs)

/-- A stamp in 1/256 slot moved into the sampling domain and rounded (R277). -/
def State.samplingGate (s : State) (v x : Nat) : Nat :=
  let g := s.centroid v
  let t := (s.chan v).set
  let shift : Int := x - 256 * t.int - t.frac - 256
  (roundDiv (shift * g.2 - 256 * g.1) (256 * g.2)).toNat

/-- The first gate, by its number from k on, at or after a slot. -/
def firstGate (g : Nat → Nat) (from_ : Nat) : Nat → Nat → Nat
  | 0, k => k
  | n + 1, k => if from_ ≤ g k then k else firstGate g from_ n (k + 1)

/-- The first gate at or after a sample that the engine predicts for a voltage channel: its last measured crossing and its
last measured period, or the nominal period from its start (R177). -/
def State.aheadGate (s : State) (v from_ : Nat) : Nat :=
  let h := s.chan v
  let per := s.gatePeriod v
  let base := if h.lastCross.isNone && h.nextGate == 0 then 256 * h.settleFrom else h.gateBase
  let g := fun k => s.samplingGate v (base + k * per)
  g (firstGate g from_ 8 ((256 * from_ - base) / per))

/-- The first sample at which a gate after the last one sent may lie: no two gates of a channel are nearer than half a
period. -/
def State.gateFloor (s : State) (v : Nat) : Nat :=
  match (s.chan v).gates.getLast? with
  | some g => g + s.gatePeriod v / 512 + 1
  | none => 0

/-- The gate that a voltage channel's islands receive at a round boundary: one that lies 256 to 511 samples ahead, so that it is
sent 2 ms before it (R177). -/
def State.sendGate (s : State) (v : Nat) : State :=
  if (s.chan v).set.role ≠ 1 then s
  else
    let g := s.aheadGate v (max (s.now + 256) (s.gateFloor v))
    if g < s.now + 512 then s.onChan v fun h => { h with gates := (h.gates.filter fun x => decide (s.now ≤ x + 4096)) ++ [g] } else s

/-- The gate at or after a sample for a channel (R177): one already sent, the one predicted now, or a multiple of 2 560. -/
def State.checkGate (s : State) (c from_ : Nat) : Nat :=
  match s.gateRef c with
  | none => nextMul from_ 2560
  | some v =>
    match (s.chan v).gates.find? fun g => decide (from_ ≤ g) with
    | some g => g
    | none => s.aheadGate v (max from_ (s.gateFloor v))

/-! ## Rotation (R176) -/

/-- The channels that a second walks, in its order. -/
def State.rotation (s : State) (n : Nat) (b : Bool) : List Nat :=
  let i := s.isl n
  let all := (i.second !b).failed
  let own := (s.unitsOf n).filter fun c => all || decide (32 ≤ c % 64) == b
  let gated := (List.range s.nChan).map fun v => own.filter fun c => s.gateRef c == some v
  gated.flatten ++ own.filter fun c => (s.gateRef c).isNone

/-- The channel after another in a list, from its start again; the first one when there is none before it. -/
def nextIn (l : List Nat) (c : Option Nat) : Option Nat :=
  match c with
  | none => l.head?
  | some c =>
    match (l.dropWhile fun x => x != c).drop 1 with
    | x :: _ => some x
    | [] => l.head?

/-- Both gates of an integration fixed from what is known now (R177): a gate less than 256 samples ahead has been sent and
stays; `prev` is the end of the integration before it. -/
def State.refit (s : State) (prev : Nat) (r : Integ) : Integ :=
  let a := if r.start < s.now + 256 then r.start else s.checkGate r.ch (max r.from_ prev)
  let b := if r.endGate < s.now + 256 then r.endGate else s.checkGate r.ch (a + 800)
  { r with start := a, endGate := b }

/-- The integrations of a second with their gates fixed anew, in order. -/
def State.refits (s : State) : Nat → List Integ → List Integ
  | _, [] => []
  | prev, r :: l => let x := s.refit prev r; x :: s.refits x.endGate l

/-- A channel given to a second at a slot (R177): it starts at the first gate at least 16 samples ahead at which the integration
before it has ended. -/
def State.assign (s : State) (n : Nat) (b : Bool) (c : Nat) (u : Option Urgent) : State :=
  let from_ := ((s.isl n).second b).runs.foldl (fun t r => max t r.endGate) (s.now + 16)
  let a := s.checkGate c from_
  s.onSecond n b fun x => { x with
    runs := x.runs ++ [{ ch := c, from_ := from_, start := a, endGate := s.checkGate c (a + 800), urgent := u }] }

/-- The integrations of a second that have not ended. -/
def Second.live (x : Second) (now : Nat) : List Integ := x.runs.filter fun r => decide (now < r.endGate)

/-- Whether a second decides on its next work now: nothing waits for a gate, and what runs ends before the round boundary after
this one could decide. -/
def Second.open_ (x : Second) (now : Nat) : Bool :=
  x.testAt.isNone && (x.live now).all fun r => decide (r.start ≤ now) && decide (r.endGate < now + 272)

/-- The next work of a second (R182): urgent requests, a restart, its self-test, rotation. A failed second only tests itself; no
self-test starts during an island fault, or before the integration under way has ended. -/
def State.nextWork (s : State) (n : Nat) (b : Bool) : State :=
  let i := s.isl n
  let x := i.second b
  let test := x.selfDue && !s.islFault n
  let begin_ := fun (s : State) =>
    if (x.live s.now).isEmpty then s.onSecond n b fun x => { x with testAt := some s.now, selfDue := false } else s
  if x.open_ s.now = false ∨ s.islOn n = false ∨ s.clock.refLost = true then s
  else if x.failed then (if test then begin_ s else s)
  else
    match i.urgents.find? fun u => i.serving u.ch == b with
    | some u => (s.onIsland n fun i => { i with urgents := i.urgents.filter fun v => v.ch != u.ch }).assign n b u.ch (some u)
    | none =>
      match x.restart with
      | some c => s.assign n b c none
      | none =>
        if test then begin_ s
        else match nextIn (s.rotation n b) x.last with
          | some c => s.assign n b c none
          | none => s

/-! ## Answers to requesters (R181, R184, R432, R238) -/

/-- A SPOT_CHECK answered (R184). -/
def State.answerSpot (s : State) (o : OpRef) (x : Outcome) (m1 m2 : Nat) : State :=
  match x with
  | .busy => s.finish o .resourceBusy 0 0
  | .retired => s.finish o .unitRetired 0 0
  | .discarded => s
  | .unverified => s.finish o .ok 3 0
  | _ => s.finish o .ok x.num (65536 * m1 + m2)

/-- The confirmation of type 13 for a point (R432). -/
def State.answerTamper (s : State) (m : Nat) (x : Outcome) : State :=
  let s := s.onPoint m fun p => { p with ask13 := false }
  match x with
  | .match_ | .unverified => s.raiseAlarm 13 m
  | .mismatch | .retired => s.onPoint m fun p => { p with n13 := 0 }
  | _ => s.onPoint m fun p => { p with n13 := 0, block13 := s.now + 1280000 }

/-- A request answered: a measured M2 with its span goes to an overload verification (R238). -/
def State.answerUrgent (s : State) (u : Urgent) (x : Outcome) (m1 m2 a b : Nat) : State :=
  let s := u.spot.foldl (fun s o => s.answerSpot o x m1 m2) s
  let s := u.tamper.foldl (fun s m => s.answerTamper m x) s
  if u.verify && (x == .match_ || x == .mismatch || x == .void) && decide (a < b) then
    s.onChan u.ch fun h => { h with overM2 := some (m2, a, b) }
  else s

/-- A request without a measurement answered. Its RESULT is 0: DESIGN CHOICE for a VOID answer, whose M1 and M2 R184 does not
state (log entry 163). -/
def State.answerEmpty (s : State) (x : Outcome) (u : Urgent) : State := s.answerUrgent u x 0 0 0 0

/-! ## URGENT_REQUEST (R181, R182) -/

/-- The producer of a request in Q28 (R31): control core, engine, commit island. -/
def Urgent.unit (u : Urgent) : Nat := if !u.spot.isEmpty then 0 else if u.verify then 1 else 2

/-- A request sent into Q28. -/
def State.ask (s : State) (u : Urgent) : State := s.onQ28 fun q => q ++ [u]

/-- Two requests for one channel merged. -/
def Urgent.merge (a b : Urgent) : Urgent :=
  { a with spot := a.spot ++ b.spot, tamper := a.tamper ++ b.tamper, verify := a.verify || b.verify }

/-- A request merged into the pending one for its channel. -/
def Island.merge (i : Island) (u : Urgent) : Island :=
  let one := fun (r : Integ) => if r.begun then r else { r with urgent := r.urgent.map fun v => if v.ch = u.ch then v.merge u else v }
  { i with urgents := i.urgents.map fun v => if v.ch = u.ch then v.merge u else v
           a := { i.a with runs := i.a.runs.map one }, b := { i.b with runs := i.b.runs.map one } }

/-- What a second does when an urgent request for channel c arrives (R182): cases 1 to 3 abort a rotation channel or a restart, case
4 keeps an urgent integration, case 5 gives up a channel that waits for its gate, case 6 aborts a self-test. -/
def Second.abort (x : Second) (c now : Nat) : Second :=
  let over_ := x.runs.filter fun r => decide (r.endGate ≤ now)
  let urgent := (x.live now).filter fun r => r.urgent.isSome
  if x.testAt.isSome then { x with testAt := none, selfDue := true }
  else match (x.live now).find? fun r => r.begun && r.urgent.isNone with
    | some r => { x with runs := over_ ++ urgent, restart := if r.ch = c then none else some r.ch }
    | none => { x with runs := over_ ++ urgent }

/-- A request at its island (R181). -/
def State.urgentArrives (s : State) (u : Urgent) : State :=
  let n := u.ch / 64
  let i := s.isl n
  if s.islOn n = false then s.answerEmpty .retired u
  else if (s.chan u.ch).set.role = 0 then s.answerEmpty .void u
  else if i.blind then s.answerEmpty .unverified u
  else if i.waiting.any fun v => v.ch == u.ch then s.onIsland n fun i => i.merge u
  else if 8 ≤ i.waiting.length then s.answerEmpty .busy u
  else
    let b := i.serving u.ch
    let s := s.onIsland n fun i => { i with urgents := i.urgents ++ [u] }
    (s.onSecond n b fun x => x.abort u.ch s.now).nextWork n b

/-- URGENT_REQUEST (R181): the next request of Q28 reaches its island. A word that arrives damaged is counted and not used (R24):
what it asked for is answered as discarded, or, for SPOT_CHECK, as VOID (log entry 164). -/
def execUrgentRequest (s : State) (upset : Bool := false) : Host.Outcome State Fault Refusal :=
  .next (match takeable (fun _ => 1) (s.creditsMax 28) s.q28 with
    | none => s
    | some u =>
      let y := refill (fun _ => 1) Urgent.unit (s.creditsMax 28) (s.queue 28).turn s.q28
      let s := (s.onQ28 fun _ => y.1).onQueue 28 fun x => { x with turn := y.2 }
      if upset then (s.poisoned 28).answerEmpty .void u else s.urgentArrives u)

/-! ## Comparisons (R178, R179) -/

/-- A channel enters FAILED (R179): pending cycles that overlap or follow the span are taken back and held under cause [0]
(R233, R239). -/
def State.channelFailed (s : State) (c a : Nat) : State :=
  let pts := s.pointsOf c
  let s := s.takeback 3 (fun m => pts.contains m) fun _ b => decide (a < b)
  pts.foldl (fun s m =>
    let hold := fun (x : PendSlot) =>
      if a < x.close.getD (s.now + 1) then { x with held := x.held ||| 1, contribs := [] } else x
    let s := if s.power.lean then s else s.onPoint m fun p => { p with slots := p.slots.map hold }
    s.setCause m 0 (c / 64) [c]) s

/-- One outcome of a comparison on a channel's check state (R179). A MISMATCH that leaves the channel in SUSPECT is no transition to
it and raises nothing: DEDUCED, log entry 163. -/
def State.compared (s : State) (c : Nat) (ok : Bool) (m1 m2 a : Nat) : State :=
  let h := s.chan c
  let x : Outcome := if ok then .match_ else .mismatch
  let s := s.onChan c fun h => { h with checkAt := some s.now }
  match h.check with
  | .unchecked | .good =>
    if ok then s.onChan c fun h => { h with check := .good, mismatches := 0 }
    else (s.onChan c fun h => { h with check := .suspect, mismatches := 1 }).checkerFault c x m1 m2
  | .suspect =>
    if ok then s.onChan c fun h => { h with check := .good, mismatches := 0 }
    else if h.mismatches < 3 then s.onChan c fun h => { h with mismatches := h.mismatches + 1 }
    else ((s.onChan c fun h => { h with check := .failed, mismatches := 0, matchRun := 0 }).checkerFault c x m1 m2).channelFailed c a
  | .failed =>
    if !ok then s.onChan c fun h => { h with matchRun := 0 }
    else if h.matchRun < 7 then s.onChan c fun h => { h with matchRun := h.matchRun + 1 }
    else ((s.onChan c fun h => { h with check := .good, mismatches := 0, matchRun := 0 }).checkerFault c x m1 m2).channelRecovers c
  | .unverified => s

/-- The comparison of R178 over an integration that has ended with a count: M1 and M2 in units of 2^-16 of full scale, whether it
is void, and whether it matches. M1 and M2 are rounded half to even: DESIGN CHOICE, log entry 163. -/
def State.comparison (s : State) (r : Integ) (count : Nat) (upset : Bool) : Nat × Nat × Bool × Bool :=
  let len := r.endGate - r.start
  let tol := s.parN (0x1000 + 8 * r.ch + 6)
  let diff := ((count * 2 ^ 20 : Nat) - (r.sum : Int)).natAbs
  (min 0xFFFF (roundDivN r.sum (1024 * len)), min 0xFFFF (roundDivN (count * 1024) len),
   r.void || upset || s.islFault (r.ch / 64) || !within 1600 3200 len,
   decide (diff * 100000 ≤ bits tol 0 16 * r.sum + bits tol 16 16 * 2 ^ 26 * len))

/-- SECOND_INTEGRATION_END (R178): the second of an island delivers its count for the oldest span that has ended, of which the
comparator has taken every sample; `count` is the trimmed count. A word of Q29 that arrives damaged makes the result VOID (R24). -/
def execSecondIntegrationEnd (n : Nat) (b : Bool) (count : Nat) (s : State) (upset : Bool := false) : Host.Outcome State Fault Refusal :=
  .next (match ((s.isl n).second b).runs with
    | [] => s
    | r :: rest =>
      if s.now < r.endGate + (s.chan r.ch).set.int ∨ (s.chan r.ch).takenAt < r.endGate + (s.chan r.ch).set.int then s
      else
        let s := if upset then s.poisoned 29 else s
        let (m1, m2, void, ok) := s.comparison r count upset
        let only := match r.urgent with
          | some u => u.verify && u.spot.isEmpty && u.tamper.isEmpty
          | none => false
        let s := s.onSecond n b fun x => { x with runs := rest }
        let s := if void || only then s
          else (s.onIsland n fun i => { i with comparisons := (i.comparisons + 1) % 65536
                                               mismatches := (i.mismatches + b2n (!ok)) % 65536 }).compared r.ch ok m1 m2 r.start
        let s := match r.urgent with
          | some u => s.answerUrgent u (if void then .void else if ok then .match_ else .mismatch) m1 m2 r.start r.endGate
          | none => s
        s.nextWork n b)

/-! ## Self-tests (R180) -/

/-- EV_CHECKER_FAULT of an island (R172, R180): the fault kind (0 reference, 1 supply, 2 second A, 3 second B) and the worst
deviation in ppm, or the count of a failed self-test. The codes and the unit are a DESIGN CHOICE, log entry 45. -/
def State.islandFault (s : State) (n kind value : Nat) : State :=
  s.report (s.group s.now 16 3 n (le 1 kind ++ le 4 value)) 3 n [] [] value 0xFFFF

/-- Every channel of an island changed. -/
def State.onIslandChans (s : State) (n : Nat) (f : Channel → Channel) : State :=
  (List.range 64).foldl (fun s i => s.onChan (64 * n + i) f) s

/-- SECOND_SELF_TEST (R180): the counts of both integrations of 2 560 samples. -/
def execSecondSelfTest (n : Nat) (b : Bool) (cHalf cZero : Nat) (s : State) : Host.Outcome State Fault Refusal :=
  .next (
    let x := (s.isl n).second b
    if x.testAt.isNone ∨ s.now < x.testAt.getD 0 + 5120 then s
    else
      let pass := decide (1000 * ((cHalf : Int) - 81920).natAbs ≤ 163840) && decide (1000 * cZero ≤ 163840)
      let s := s.onSecond n b fun x => { x with testAt := none, failed := !pass }
      let s := if pass then s.onIslandChans n fun h =>
          if h.check = .unverified then { h with check := .unchecked, mismatches := 0 } else h
        else
          let s := s.islandFault n (2 + b2n b) cHalf
          if (s.isl n).blind then
            let was := (List.range 64).filter fun i => (s.chan (64 * n + i)).check == .failed
            let s := s.onIslandChans n fun h => { h with check := .unverified }
            was.foldl (fun s i => (s.checkerFault (64 * n + i) .unverified 0 0).channelRecovers (64 * n + i)) s
          else s
      s.nextWork n b)

/-- Whether an instant base + k period lies in the round that ends now. -/
def periodEnds (now base per : Nat) : Bool :=
  decide (base + per ≤ now) && decide ((now - 256 - base) / per < (now - base) / per)

/-- Work on channels whose role has become OFF ends without a result, and requests for them are answered with VOID (R183). -/
def State.dropOff (s : State) (n : Nat) : State :=
  let off := fun c => (s.chan c).set.role == 0
  let i := s.isl n
  let gone := ((i.a.runs ++ i.b.runs).filter fun r => off r.ch).filterMap (fun r => r.urgent) ++ i.urgents.filter fun u => off u.ch
  let keep := fun (x : Second) => { x with
    runs := x.runs.filter fun r => !off r.ch, restart := x.restart.filter fun c => !off c }
  gone.foldl (fun s u => s.answerEmpty .void u)
    (s.onIsland n fun i => { i with urgents := i.urgents.filter fun u => !off u.ch, a := keep i.a, b := keep i.b })

/-- What a second has begun by a slot: a rotation channel becomes the last one of the rotation, and a restart is no longer
owed. -/
def Second.begin_ (x : Second) (now : Nat) : Second :=
  match x.runs.find? fun r => !r.begun && decide (r.start ≤ now) with
  | none => x
  | some r =>
    let x := { x with runs := x.runs.map fun y => if decide (y.start ≤ now) then { y with begun := true } else y }
    if r.urgent.isSome then x else { x with last := some r.ch, restart := x.restart.filter fun c => c != r.ch }

/-- The second of an island at a round boundary: due self-tests are noted, gates are fixed anew, integrations begin, and the
next work is decided. -/
def State.roundSecond (s : State) (n : Nat) (b : Bool) : State :=
  let per := s.parN (0x700 + 32 * n + 3) * slotsPerS
  let due := periodEnds s.now ((s.isl n).selfAt + if b then per / 2 else 0) per
    || (b && decide (s.now - 256 < (s.isl n).selfAt + per / 2) && decide ((s.isl n).selfAt + per / 2 ≤ s.now))
  let s := if due then s.onSecond n b fun x => { x with selfDue := true } else s
  (s.onSecond n b fun x => { x with runs := s.refits 0 x.runs }.begin_ s.now).nextWork n b

/-- The seconds of every island at a round boundary, with the gates that the engine sends ahead. -/
def State.roundSeconds (s : State) : State :=
  let s := (List.range s.nChan).foldl State.sendGate s
  (List.range s.nIsl).foldl (fun s n => ((s.dropOff n).roundSecond n false).roundSecond n true) s

/-- The seconds of an island stop without a result (R183): what was under way is returned. -/
def State.stopSeconds (s : State) (n : Nat) : State × List Urgent :=
  let i := s.isl n
  let stop := fun (x : Second) => { x with runs := [], restart := none, testAt := none, selfDue := x.selfDue || x.testAt.isSome }
  (s.onIsland n fun i => { i with a := stop i.a, b := stop i.b }, (i.a.runs ++ i.b.runs).filterMap fun r => r.urgent)

/-- The seconds of an island that leaves service: every request is answered with UNIT_RETIRED (R183). -/
def State.retireSeconds (s : State) (n : Nat) : State :=
  let x := s.stopSeconds n
  let us := x.2 ++ (s.isl n).urgents
  us.foldl (fun s u => s.answerEmpty .retired u) (x.1.onIsland n fun i => { i with urgents := [] })

/-- The seconds at reference loss (R183): integrations stop, requests stay pending. -/
def State.haltSeconds (s : State) (n : Nat) : State :=
  let x := s.stopSeconds n
  x.1.onIsland n fun i => { i with urgents := x.2 ++ i.urgents }

/-! ## Overload (R169, R170, R184) -/

/-- The overload verifications that are owed, sent through Q28 (R170). -/
def State.askVerifications (s : State) : State :=
  let cs := s.engine.overPending
  cs.foldl (fun s c => s.ask { ch := c, verify := true }) (s.onEngine fun e => { e with overPending := [] })

/-- OVERLOAD_EPISODE_END (R169): the end record of the oldest episode that has ended carries the duration, the largest |x|, and M2
with its span when a verification served the episode (R238). -/
def execOverloadEpisodeEnd (c : Nat) (s : State) : Host.Outcome State Fault Refusal :=
  .next (match (s.chan c).overEnds with
    | [] => s
    | e :: _ =>
      let m2 := match e.m2 with
        | some x => le 4 x.1 ++ sample7 x.2.1 ++ sample7 x.2.2
        | none => []
      let g := s.group e.fin 17 1 c (le 4 (e.fin - e.start) ++ le 4 e.max ++ m2) true
      (s.onChan c fun h => { h with overEnds := h.overEnds.drop 1 }).report g 3 (c / 64) (s.pointsOf c) [c] e.max c)

/-- SPOT_CHECK (R184): the request enters Q28 at acceptance, its commit point. -/
def cmdSpotCheck (s : State) (r : Request) : Except Deny State := do
  len r 4
  let c := fieldAt r 0 2
  need (decide (c ≤ 511)) .badParameter
  reserved r 2 2
  needChan s c
  needPriv s r 0x0703
  modeAll s
  need ((s.chan c).set.role != 0) .badParameter
  match s.accept r 0x0703 true with
  | none => .error { status := .noHandle }
  | some (s, o) => .ok (s.ask { ch := c, spot := [o] })

end Sys2Proof.Machine
end

