-- ==== Sys2Proof/Machine/Commit.lean ====
section
/-! DEFINITION. The commit of a cycle (R228 to R232, R237 to R239, R250 to R255) and the electrical signatures that a committed
cycle shows (R428 to R432). -/
namespace Sys2Proof.Machine

/-! ## Sums of a cycle (R251) -/

/-- One contribution with outputs added to the sums of element e; `w` are cw[k] and sw[k] of its position. -/
def ElemSum.add (a : ElemSum) (c : Contrib) (e : Nat) (w : Int × Int) : ElemSum :=
  let u := c.u.getD e 0
  let i := c.i.getD e 0
  { sp := a.sp + roundDiv (u * i) 256, sq := a.sq + roundDiv (c.h.getD e 0 * i) 256
    su := a.su + (roundDiv (u * u) 256).toNat, si := a.si + (roundDiv (i * i) 256).toNat
    uc := a.uc + roundDiv (u * w.1) (2 ^ 22), us := a.us + roundDiv (u * w.2) (2 ^ 22)
    ic := a.ic + roundDiv (i * w.1) (2 ^ 22), is := a.is + roundDiv (i * w.2) (2 ^ 22) }

/-- Two sums together. -/
def ElemSum.plus (a b : ElemSum) : ElemSum :=
  { sp := a.sp + b.sp, sq := a.sq + b.sq, su := a.su + b.su, si := a.si + b.si
    uc := a.uc + b.uc, us := a.us + b.us, ic := a.ic + b.ic, is := a.is + b.is }

/-- A cycle's sums divided by its number of outputs: what stands for an output that nothing can replace (R237). -/
def ElemSum.mean (a : ElemSum) (n : Nat) : ElemSum :=
  { sp := roundDiv a.sp n, sq := roundDiv a.sq n, su := roundDivN a.su n, si := roundDivN a.si n
    uc := roundDiv a.uc n, us := roundDiv a.us n, ic := roundDiv a.ic n, is := roundDiv a.is n }

/-- The contributions of a cycle, each with cw[k] and sw[k] of its position k of n (R251). -/
def PendSlot.terms (x : PendSlot) : List (Contrib × Int × Int) :=
  let n := x.contribs.length
  List.zipWith (fun c k => (c, cw k n, sw k n)) x.contribs (List.range n)

/-- The sums of element e over contributions; those without outputs take the previous cycle's mean. -/
def sumTerms (e : Nat) (mean : ElemSum) (l : List (Contrib × Int × Int)) : ElemSum :=
  l.foldl (fun a t => if t.1.u.isEmpty then a.plus mean else a.add t.1 e t.2) {}

/-- The fundamental active sum of an element (R252). -/
def ElemSum.fundamental (a : ElemSum) (n : Nat) : Int := roundDiv (2 * (a.uc * a.ic + a.us * a.is)) (256 * n)

/-- Whether an element is gated off for the cycle (R253). -/
def ElemSum.gatedOff (a : ElemSum) (st n : Nat) : Bool := decide (a.si * 10 ^ 10 < st ^ 2 * 2 ^ 35 * n)

/-- What one element adds to act, rea, app, fun and sqa of a segment of ns outputs (R254). -/
def quantities (p gq n ns : Nat) (fs : Nat × Nat) (whole seg : ElemSum) : List Int :=
  let ke := keOf fs.1 fs.2
  let ki := keOf fs.2 fs.2
  [roundDiv (seg.sp * p * ke) (2 ^ 32), roundDiv (seg.sq * gq * p * ke) (2 ^ 56),
   roundDiv ((roundSqrt (seg.su * seg.si) 1 : Nat) * (p * ke : Nat)) (2 ^ 32),
   roundDiv (whole.fundamental n * ns * p * ke) (n * 2 ^ 32), roundDiv ((seg.si * p * ki : Nat) : Int) (2 ^ 32)]

/-- Two lists of quantities added. -/
def addLists (a b : List Int) : List Int := List.zipWith (· + ·) a b

/-- gq of a cycle (R250): a PARTIAL one takes f_c from the last complete cycle that its voltage channel measured, or the nominal
frequency when there is none. -/
def State.gainOf (s : State) (b : Binding) (x : PendSlot) (fin : Nat) : Nat :=
  let n := (s.chan b.v1).measuredLen
  (if !x.partialCycle then hilbertGain x.per (fin - x.first) 1
   else if n = 0 then hilbertGain x.per 128000 s.nominalHz
   else hilbertGain x.per n 1).toNat

/-! ## Segments (R228, R319) -/

/-- The instants that split a point's cycle, ascending, with the commits they belong to. -/
def State.splits (s : State) (m first fin : Nat) : List (Nat × Nat) :=
  let l := (s.owed m).map fun c => (s.splitOf c m, c.seq)
  (l.filter fun x => decide (first < x.1) && decide (x.1 < fin)).mergeSort fun a b => decide (a.1 ≤ b.1)

/-- The instants of commits at which a cycle is not split (R228, R231): their steps run after the cycle as for a late entry, and EXEC is
the latest closing slot of the cycles so affected. -/
def State.lateSplits (s : State) (cuts : List Nat) (l : List (Nat × Nat)) (fin : Nat) : State :=
  (l.filter fun x => !cuts.contains x.1).foldl (fun s x =>
    s.onCommit x.2 fun c => { c with flags := c.flags ||| 1, exec := max c.exec fin }) s

/-- The spans of a cycle between its splits. -/
def spans (first fin : Nat) : List Nat → List (Nat × Nat)
  | [] => [(first, fin)]
  | t :: r => (first, t) :: spans t fin r

/-! ## Electrical signatures (R428 to R432) -/

/-- The count of consecutive cycles after one more: cycles that show, and that do not show, a signature. -/
def countShow (show_ : Bool) (n c : Nat) : Nat × Nat := if show_ then (min 255 (n + 1), 0) else (0, min 255 (c + 1))

/-- Type 13 (R430): the neutral comparison over a cycle of n outputs. Phasors are compared times n 2^22 / sqrt 2. -/
def showsNeutral (abs rel n : Nat) (sum neu : Int × Int) : Bool :=
  let sq := fun (v : Int × Int) => (v.1 * v.1 + v.2 * v.2).toNat
  let d2 := sq (sum.1 - neu.1, sum.2 - neu.2)
  let m2 := max (sq sum) (sq neu)
  let k := 100 * abs * n * 2 ^ 22
  let l : Int := 2 * ((10000 * d2 : Nat) - (rel * rel * m2 : Nat)) - (k * k : Nat)
  decide (0 < l) && decide (((8 * rel * rel * k * k * m2 : Nat) : Int) < l * l)

/-- The last value of a channel's cycles that end by a slot. -/
def Channel.cycleBy (h : Channel) (fin : Nat) : Option CycVal := h.cycVals.find? fun v => decide (v.fin ≤ fin)

/-- Type 16 (R430) on one current channel. -/
def showsSaturation (w : Nat) (v : CycVal) : Bool :=
  let rms := v.rms.v.toNat
  let hi := max v.pos v.neg
  decide ((bits w 24 8 * 2 ^ 22) ^ 2 ≤ 2 * (100 * rms) ^ 2)
    && decide ((bits w 0 8 : Int) * hi ≤ 100 * ((v.pos - v.neg).natAbs : Int)) && decide ((bits w 8 8 * rms : Nat) ≤ 10 * hi)

/-- Type 13 of a point after a counted cycle (R430, R432). -/
def State.neutralSign (s : State) (m : Nat) (b : Binding) (x : PendSlot) (sums : List ElemSum) : State :=
  match b.neutral with
  | none => s
  | some c =>
    let w := s.parN 0x602
    let need_ := max 1 (bits w 24 8)
    let n := x.contribs.length
    let neu := x.terms.foldl (fun (a : ElemSum) t => a.add { i := [t.1.nt] } 0 t.2) {}
    let fsN := (s.chan c).fs
    let sum := (List.zipWith (fun (e : ElemSum) (f : Nat × Nat) => (e.ic * f.2, e.is * f.2)) sums x.fs).foldl
      (fun a v => (a.1 + v.1, a.2 + v.2)) (0, 0)
    let shown := showsNeutral (bits w 0 16) (bits w 16 8) n sum (neu.ic * fsN, neu.is * fsN)
    let p := s.point m
    let k := countShow shown p.n13 p.c13
    let s := s.onPoint m fun p => { p with n13 := k.1, c13 := k.2 }
    if s.alarmOn 13 m then (if need_ ≤ k.2 then s.clearAlarm 13 m else s)
    else if need_ ≤ k.1 ∧ p.ask13 = false ∧ p.block13 ≤ s.now then
      (s.onPoint m fun p => { p with ask13 := true }).ask { ch := b.ch.getD 3 0, tamper := [m] }
    else s

/-- Type 14 of a point after a counted cycle (R430): `on` are the elements that are not gated off. -/
def State.noVoltSign (s : State) (m : Nat) (b : Binding) (on : List Nat) (fin : Nat) : State :=
  let w := s.parN 0x603
  let need_ := max 1 (bits w 16 8)
  let shown := on.any fun e =>
    let c := (b.elements.getD e (0, 0)).1
    match (s.chan c).cycleBy fin with
    | some v => decide (roundDivN (10000 * v.rms.v.toNat * (s.chan c).fs) (2 ^ 22 * s.declaredMv c) < bits w 0 16)
    | none => false
  let p := s.point m
  let k := countShow shown p.n14 p.c14
  let s := s.onPoint m fun p => { p with n14 := k.1, c14 := k.2 }
  if s.alarmOn 14 m then (if need_ ≤ k.2 then s.clearAlarm 14 m else s)
  else if need_ ≤ k.1 then s.raiseAlarm 14 m else s

/-- Type 16 of a point after a counted cycle (R430): the raising cycles are counted per current channel. -/
def State.saturationSign (s : State) (m : Nat) (b : Binding) (fin : Nat) : State :=
  let w := s.parN 0x605
  let need_ := max 1 (bits w 16 8)
  let shown := b.elements.map fun e => match (s.chan e.2).cycleBy fin with
    | some v => showsSaturation w v
    | none => false
  let p := s.point m
  let n := (List.range 3).map fun e => if shown.getD e false then min 255 (p.n16.getD e 0 + 1) else 0
  let c := if shown.any id then 0 else min 255 (p.c16 + 1)
  let s := s.onPoint m fun p => { p with n16 := n, c16 := c }
  if s.alarmOn 16 m then (if need_ ≤ c then s.clearAlarm 16 m else s)
  else if n.any fun k => decide (need_ ≤ k) then s.raiseAlarm 16 m else s

/-- The signatures of a committed cycle that counts (R428); none on the cell (R440). -/
def State.signatures (s : State) (m : Nat) (b : Binding) (x : PendSlot) (sums : List ElemSum) (on : List Nat) (fin : Nat) :
    State :=
  if s.onCell || x.contribs.isEmpty || x.contribs.any (fun c => !c.ok) || (s.point m).causes % 8 != 0 then s
  else ((s.neutralSign m b x sums).noVoltSign m b on fin).saturationSign m b fin

/-! ## The commit of one slot (R229, R237, R239, R254, R255) -/

/-- The flags of R232 but for HELD and ESTIMATED. -/
def State.cycleFlags (s : State) (x : PendSlot) : Nat :=
  4 * b2n x.partialCycle + 8 * b2n x.synthetic + 16 * b2n (x.contribs.any fun c => c.ok && c.ovl) + 32 * b2n x.takenBack
    + 64 * b2n s.power.lean

/-- The segments of a cycle that is committed as measured, with the elements that are gated off. -/
def State.segments (s : State) (m : Nat) (b : Binding) (x : PendSlot) (fin flags : Nat) (cuts : List Nat)
    (means : List ElemSum) (sums : List ElemSum) (on : List Nat) : List SegRec :=
  let n := x.contribs.length
  let ts := x.terms
  let gq := s.gainOf b x fin
  let gates := maskOf ((List.range sums.length).filter fun e => !on.contains e)
  let sp := spans x.first fin cuts
  (List.range sp.length).map fun j =>
    let g := sp.getD j (0, 0)
    let l := ts.filter fun t => decide (g.1 ≤ t.1.stamp) && decide (t.1.stamp < g.2)
    let q := (on.map fun e =>
      quantities x.per gq n l.length (x.fs.getD e (0, 0)) (sums.getD e {}) (sumTerms e (means.getD e {}) l)).foldl
        addLists [0, 0, 0, 0, 0]
    { mp := m, idx := j, last := j + 1 == sp.length, flags := flags, cycle := x.cycle, sFirst := g.1, sEnd := g.2
      gates := gates, act := q.getD 0 0, rea := q.getD 1 0, app := q.getD 2 0, fund := q.getD 3 0, sqa := q.getD 4 0 }

/-- The segments of a HELD cycle (R239). -/
def State.heldSegments (s : State) (m : Nat) (x : PendSlot) (fin flags : Nat) (cuts : List Nat) : List SegRec :=
  let sp := spans x.first fin cuts
  (List.range sp.length).map fun j =>
    let g := sp.getD j (0, 0)
    s.heldSeg { mp := m, idx := j, last := j + 1 == sp.length, flags := flags, cycle := x.cycle, sFirst := g.1, sEnd := g.2
                gates := 0, act := 0, rea := 0, app := 0, fund := 0, sqa := 0 }

/-- The oldest pending slot of a point committed with its closing slot: its segments go through Q8, its contributions stay as
the previous cycle, and the signatures see it. -/
def State.commitSlot (s : State) (m : Nat) (b : Binding) (x : PendSlot) (fin : Nat) : State :=
  let p := s.point m
  let n := x.contribs.length
  let filled := (x.contribs.filter fun c => !c.ok).length
  let byCause := x.held != 0
  let all := decide (0 < n) && filled == n
  let held := byCause || all
  let means := (List.range b.elements.length).map fun e => (p.prevSums.getD e {}).mean p.prevN
  let ts := x.terms
  let sums := (List.range b.elements.length).map fun e => sumTerms e (means.getD e {}) ts
  let on := (List.range b.elements.length).filter fun e => !(sums.getD e {}).gatedOff x.start n
  let l := s.splits m x.first fin
  let cuts := x.cuts.filter fun t => decide (x.first < t) && decide (t < fin)
  let est := held || decide (0 < filled) || x.est || p.snapEst
  let flags := s.cycleFlags x + b2n est + 2 * b2n held
  let segs := if held then s.heldSegments m x fin flags cuts
    else s.segments m b x fin flags cuts means sums on
  let s := s.lateSplits cuts l fin
  let s := s.onQ8 fun q => q ++ (segs.map SegRec.words).flatten
  let s := s.onEngine fun e => { e with
    excluded := satN 32 (e.excluded + if x.held % 8 = 0 then filled else 0)
    redo := e.redo.filter fun y => y != (m, x.cycle)
    carried := e.carried.filter fun y => y.slice != .redo m x.cycle }
  let s := s.onPoint m fun p => { p with
    slots := p.slots.drop 1
    prev := if x.held % 8 = 0 then x.contribs else []
    prevSums := if x.held % 8 = 0 && !all && decide (0 < n) then sums else p.prevSums
    prevN := if x.held % 8 = 0 && !all && decide (0 < n) then n else p.prevN
    recent := (x.cycle, x.first, fin) :: p.recent }
  s.signatures m b x sums on fin

/-- The words that Q8 still takes (R25). -/
def State.q8Room (s : State) : Nat := s.credits 8

/-- The confirmation horizon of a cycle (R229). -/
def PendSlot.horizon (x : PendSlot) (fin : Nat) : Nat := nextMul (fin + max 512 (31 * x.per)) 256

/-- Whether the contributions of a slot reach its closing slot. -/
def PendSlot.complete (x : PendSlot) (fin : Nat) : Bool := x.held % 8 != 0 || (stampsIn x.per x.nextStamp fin).isEmpty

/-! ## The mirror of the pending slots (R228, R260) -/

/-- The active energy of a pending slot so far, in 2^-32 mWh: that of a HELD cycle is the held value over its slots. -/
def State.pendAct (s : State) (m : Nat) (b : Binding) (x : PendSlot) : Int :=
  if x.held % 8 = 0 then
    let mean := fun e => ((s.point m).prevSums.getD e {}).mean (s.point m).prevN
    ((List.range b.elements.length).map fun e =>
      let f := x.fs.getD e (0, 0)
      roundDiv ((sumTerms e (mean e) x.terms).sp * x.per * keOf f.1 f.2) (2 ^ 32)).foldl (· + ·) 0
  else ((s.point m).held (x.close.getD s.now - x.first)).getD 0 0

/-- PEND_IMP and PEND_EXP of a point (R260), with what an abandoned start has left in them (R100). -/
def State.mirrorPoint (s : State) (m : Nat) : State :=
  match (s.point m).bind with
  | none => s
  | some b =>
    let as := (s.point m).slots.map (s.pendAct m b)
    let sum := fun (l : List Int) => satN 32 (roundDivN ((l.map Int.natAbs).sum) (2 ^ 16))
    s.onPoint m fun p => { p with
      pendImp := satN 32 (p.carryImp + sum (as.filter fun a => decide (0 ≤ a)))
      pendExp := satN 32 (p.carryExp + sum (as.filter fun a => decide (a < 0))) }

/-- The pending slots of every bound point mirrored into the retention SRAM, at a round boundary (R228). -/
def State.mirrorSlots (s : State) : State := s.boundPoints.foldl State.mirrorPoint s

/-- Whether a recomputation of a point's cycle is pending, carried ones included (R229). -/
def State.redoPending (s : State) (m cycle : Nat) : Bool :=
  s.engine.redo.contains (m, cycle) || s.engine.carried.any fun x => x.slice == .redo m cycle

/-- CYCLE_COMMIT (R229, R231): the oldest closed cycle of a point commits once its horizon is reached, the slices that read the
data before it have finished, its crossing stands and no takeback is pending; in lean metering as soon as its outputs are
computed. -/
def execCycleCommit (m : Nat) (s : State) : Host.Outcome State Fault Refusal :=
  .next (
    let p := s.point m
    match p.bind, p.slots.head? with
    | some b, some x =>
      match x.close with
      | some fin =>
        let ready := if s.power.lean then decide (fin ≤ s.pointReady b) && x.complete fin
          else decide (x.horizon fin ≤ s.now) && decide (x.horizon fin ≤ s.pointReady b) && !x.provis && x.complete fin
            && !s.redoPending m x.cycle
        if s.storeOn && ready && decide (32 ≤ s.q8Room) then s.commitSlot m b x fin else s
      | none => s
    | _, _ => s)

/-- The contributions of a slot brought up to its closing slot, outputs that are missing included (R230). A recomputation that has not
run by then is made from what the retained window holds: DESIGN CHOICE, log entry 166. -/
def State.completeSlot (s : State) (b : Binding) (m : Nat) (x : PendSlot) (fin : Nat) : PendSlot :=
  let x := if s.redoPending m x.cycle then { x with contribs := [], cuts := [] } else x
  let y := if x.held % 8 = 0 then s.addTo b (s.point m).prev x x.nextStamp fin else x
  { y with cuts := s.cutsFrom m b x (if x.held % 8 = 0 then x.nextStamp else x.first) fin }

/-- The oldest closed cycle of a point commits when its deadline has come; outputs still missing are excluded (R230). -/
def State.commitDeadline (s : State) (m : Nat) : State :=
  let p := s.point m
  match p.bind, p.slots.head? with
  | some b, some x =>
    match x.close with
    | some fin =>
      if s.storeOn && decide (fin + 3072 ≤ s.now) && decide (32 ≤ s.q8Room) then
        s.commitSlot m b (s.completeSlot b m x fin) fin else s
    | none => s
  | _, _ => s

/-- CYCLE_COMMIT_DEADLINE (R230): a cycle that has not committed by S_close + 3 072 slots commits. -/
def execCycleCommitDeadline (m : Nat) (s : State) : Host.Outcome State Fault Refusal := .next (s.commitDeadline m)

/-- A point has 4 pending slots (R228): with more, the oldest, whose deadline has passed by then, commits at the round boundary. -/
def State.boundSlots (s : State) (m : Nat) : State := if (s.point m).slots.length ≤ 4 then s else s.commitDeadline m

end Sys2Proof.Machine
end

