-- ==== Sys2Proof/Machine/Modes.lean ====
section
/-! DEFINITION. Changes of the operating mode (R97, R98, R101 to R105, R520), the debug level (R109, R110, R474) and the CAL_LINK
input (R130). -/
namespace Sys2Proof.Machine

/-! ## Changes at a round boundary (R97) -/

/-- A mode change that takes effect at the next round boundary. -/
def State.requestMode (s : State) (q : ModeReq) : State :=
  if q.cause = 0 ∨ (s.mode.changes.any fun x => x.cause == q.cause) = false then
    s.onMode fun m => { m with changes := m.changes ++ [q] }
  else s

/-- The mode becomes another one: what it ends, and its record (R114, R520). -/
def State.enterMode (s : State) (new : Mode) (cause : Nat) : State :=
  let old := s.mode.mode
  if new = old then s
  else
    let s := s.onMode fun m => { m with mode := new }
    let s := s.allOutstanding.foldl (fun s o => s.modeHits new o) s
    s.raise 1 0 0 (le 4 old.num ++ le 4 new.num ++ le 4 cause ++ sample7 s.now)

/-- One requested change applied (R97, R98, R101). -/
def State.applyMode (s : State) (q : ModeReq) : State :=
  let m := s.mode.mode
  let plain := m == .commission || m == .meter
  match q.target with
  | .degraded =>
    if s.degradation && (plain || m == .calibrate) then
      (s.onMode fun x => { x with base := if m = .calibrate then x.ret else m }).enterMode .degraded q.cause
    else s
  | .calibrate =>
    if plain then (s.onMode fun x => { x with ret := m, calSince := s.now }).enterMode .calibrate q.cause else s
  | t =>
    if q.cause = 4 then (if m = .degraded ∧ s.degradation = false then s.enterMode s.mode.base 4 else s)
    else if q.cause = 1 ∨ q.cause = 2 then (if m = .calibrate then s.enterMode s.mode.ret q.cause else s)
    else if m = .degraded then s.onMode fun x => { x with base := t }
    else if m = .calibrate ∨ plain = true then s.enterMode t q.cause
    else s

/-- The reply of SET_MODE (R104). -/
def State.modeReply (s : State) : List Byte :=
  le 1 s.mode.mode.num ++ le 1 s.life.num ++ sample8 s.now ++ le 2 s.modeState

/-- The mode changes of a round boundary, with the replies that wait for them; the configuration record follows (R98). -/
def State.applyModes (s : State) : State :=
  if s.mode.changes.isEmpty then s
  else
    let qs := s.mode.changes
    let s := qs.foldl State.applyMode (s.onMode fun m => { m with changes := [] })
    let s := (s.onMode fun m => { m with stored := m.mode }).configWrite
    qs.foldl (fun s q => match q.port with
      | some p => s.onWaiting p .round fun r => { r with payload := s.modeReply, wait := .none }
      | none => s) s

/-- The degradation conditions as they stand request DEGRADED or the return to the base mode (R97). -/
def State.judgeDegradation (s : State) : State :=
  if s.degradation then
    if s.mode.mode = .commission ∨ s.mode.mode = .calibrate ∨ s.mode.mode = .meter then
      s.requestMode { target := .degraded, cause := 3 } else s
  else if s.mode.mode = .degraded then s.requestMode { target := s.mode.base, cause := 4 } else s

/-! ## SET_MODE (R104, R105) -/

/-- The anchor that SET_MODE needs in the lifecycle in force (R105). -/
def State.modeAnchor (s : State) (target : Nat) : Option Nat :=
  if s.life ≠ .sealed then none
  else match target with
    | 2 =>
      let m := s.mode.mode
      if m = .meter ∨ (m = .degraded ∧ s.mode.base = .meter) ∨ (m = .calibrate ∧ s.mode.ret = .meter) then some 1 else none
    | 3 => some 2
    | 0 => some 1
    | _ => none

/-- SET_MODE (R104). -/
def cmdSetMode (s : State) (r : Request) : Except Deny State := do
  let auth ← authField r 4
  let t := byteAt r 0
  let f := byteAt r 1
  need (t == 0 || within 2 4 t) .badParameter
  need (decide (f ≤ 1) && (f == 0 || t == 0)) .badParameter
  reserved r 2 2
  let s ← order5 s s.time r 0x0003 (s.modeAnchor t) 4 auth false (t == 3)
  need (!(t == 3 && s.life == .sealed && s.lockOn)) .authorityRequired
  need67 (!(t == 4 && s.life == .manufacture) && !(s.life == .retired && (t == 3 || t == 4))) .lifecycleForbids
  modeAll s
  need67 (!(t == 3 && s.mode.mode == .degraded)) .notInMode
  need (!(t == 3 && s.life == .sealed && !s.tamper.calLink)) .sealed
  if t = 0 then
    let s := s.onMode fun m => { m with armed := f == 0 }
    let s := (if f = 0 then s.onPower fun p => { p with ckptNow := true } else s).configWrite
    .ok (s.replyOk r s.modeReply)
  else
    let target : Mode := if t = 2 then .commission else if t = 3 then .calibrate else .meter
    let now := if s.mode.mode = .degraded then s.mode.base else s.mode.mode
    if target = now then .ok (s.replyOk r s.modeReply)
    else
      let s := s.requestMode { target := target, cause := 0, port := some r.port }
      .ok (s.replyOk r [] .round)

/-! ## CAL_LINK and the timeout (R101, R130) -/

/-- One 1 ms sample of CAL_LINK (R130): the third in a row at the other level changes the filtered state. Its opening discards a partial
calibration package (R465). -/
def State.calSample (s : State) (shorted : Bool) : State :=
  if shorted = s.tamper.calLink then s.onTamper fun t => { t with calLinkRun := 0 }
  else if s.tamper.calLinkRun < 2 then s.onTamper fun t => { t with calLinkRun := t.calLinkRun + 1 }
  else
    let s := if shorted then s else s.onSec fun x => { x with calPart := none }
    s.onTamper fun t => { t with
      calLink := shorted, calLinkRun := 0, calOpenAt := if shorted then t.calOpenAt else s.now }

/-- CAL_LINK (R130). -/
def execCalLink (samples : List Bool) (s : State) : Host.Outcome State Fault Refusal := .next (samples.foldl State.calSample s)

/-- CAL_LINK_OPEN_TIMEOUT (R101): 100 ms continuously open end CALIBRATE in SEALED. -/
def execCalLinkOpenTimeout (s : State) : Host.Outcome State Fault Refusal :=
  .next (
    if s.mode.mode = .calibrate ∧ s.life = .sealed ∧ s.tamper.calLink = false ∧ s.tamper.calOpenAt + 12800 ≤ s.now then
      s.requestMode { target := s.mode.ret, cause := 1 }
    else s)

/-- CALIBRATE_TIMEOUT (R101): MODE_CAL_TIMEOUT minutes since the entry or the last accepted command of group 0x07xx, at the
coming round boundary. -/
def execCalibrateTimeout (s : State) : Host.Outcome State Fault Refusal :=
  .next (
    let t := s.parN 0x10
    if s.mode.mode = .calibrate ∧ t ≠ 0 ∧ s.mode.calSince + t * 60 * slotsPerS ≤ s.nextRound then
      s.requestMode { target := s.mode.ret, cause := 2 }
    else s)

/-! ## Debug level (R109, R110) -/

/-- Entry to D2 (R110). -/
def State.enterD2 (s : State) : State :=
  if s.life = .retired then s.onMode fun m => { m with d2Entered := true }
  else
    let s := s.onMode fun m => { m with d2Entered := true, d2Trace := true }
    let s := s.onSec fun x => { x with opsSession := none, metSession := none }
    let s := s.boundPoints.foldl (fun s m => s.setCause m 3) s
    if s.life = .sealed then s.evidenceIncrement 1 else s

/-- The level granted for this round boundary (R474): every entry to D1 or D2 is recorded. -/
def State.applyDebug (s : State) : State :=
  match s.mode.debugReq with
  | none => s
  | some q =>
    let s := s.onMode fun m => { m with
      debugReq := none, debug := q.level, debugEnd := if q.seconds = 0 then 0 else s.now + q.seconds * slotsPerS }
    let s := if q.level = .d0 then s else s.raise 58 0 0 []
    if q.level = .d2 then s.enterD2 else s

/-- The level falls to D0 (R109, R111, R474). A halted control core runs again (log entry 171). -/
def State.closeDebug (s : State) : State :=
  (s.onMode fun m => { m with debug := .d0, debugEnd := 0, debugReq := none }).onCp fun c => { c with halted := false }

/-- DEBUG_LEVEL_EXPIRY (R474). -/
def execDebugLevelExpiry (s : State) : Host.Outcome State Fault Refusal :=
  .next (if s.mode.debugEnd ≠ 0 ∧ s.mode.debugEnd ≤ s.now then s.closeDebug else s)

end Sys2Proof.Machine
end

