-- ==== Sys2Proof/Machine/Store.lean ====
section
/-! DEFINITION. The store as commands and events see it (R369 to R397): the writer's jobs, the scrubber, checkpoints, and the
reads of profiles, snapshots and the host-reserved region. -/
namespace Sys2Proof.Machine

/-! ## Record layouts (R327, R330) -/

/-- The 16 bytes of a profile record (R330). -/
def Profile.bytes (p : Profile) : List Byte :=
  let body := le 4 p.endTime ++ le 3 p.imp ++ le 3 p.exp ++ le 2 p.flags
  body ++ le 4 (crc32c body).toNat

/-- The 512 bytes of a snapshot (R327). -/
def Snapshot.bytes (x : Snapshot) : List Byte :=
  framed (le 2 0xB1 ++ le 2 512 ++ le 1 x.mp ++ le 1 x.plan ++ le 1 x.cause ++ le 1 x.flags ++ le 4 x.billCount
    ++ le 4 x.bindSeq ++ time6 x.startTime ++ zeros 2 ++ time6 x.endTime ++ zeros 2 ++ sample8 x.endSample ++ le 4 x.bcSeq
    ++ le 4 x.estCycles ++ ((List.range 29).map fun i => le 8 (x.reg.getD i 0)).flatten ++ le 8 (x.legal.getD 0 0)
    ++ le 8 (x.legal.getD 1 0) ++ le 2 (x.legal.getD 2 0) ++ le 2 (x.legal.getD 3 0)
    ++ ((List.range 9).map fun i => le 4 (x.maxDem.getD i (0, 0)).1 ++ le 4 (x.maxDem.getD i (0, 0)).2).flatten
    ++ leI 8 x.credit ++ le 4 x.h ++ le 4 x.creditFlags ++ le 4 x.sseq ++ zeros 112)

/-! ## The writer (R369 to R372) -/

/-- What the confirmation of a job releases: a reply, the completion of an operation, and the record of a token (R353). -/
def State.jobReleases (s : State) (j : StoreJob) : State :=
  let s := match j.reply with
    | some p => s.releaseAsIs p
    | none => s
  let s := match j.op with
    | some o => s.finish o .ok 0 0
    | none => s
  match j.token with
  | some m => s.raise 40 2 m []
  | none => s

/-- A record of the running checkpoint confirmed; with the last one the checkpoint ends (R387, R388). -/
def State.ckptRecord (s : State) (j : StoreJob) : State :=
  if !j.ckpt then s
  else
    let n := j.recs.countP fun r => match r with
      | .point _ _ => true
      | _ => false
    let s := s.onPower fun p => { p with ckptDone := p.ckptDone + n }
    if s.store.jobs.any fun j => j.ckpt then s
    else
      let s' := s.power.ckptRun.foldl (fun s o => s.finish o .ok 0 s.power.ckptDone) s
      s'.onPower fun p => { p with ckptRun := [] }

/-- The first job written in full and confirmed (R369, R370). -/
def State.confirmFirst (s : State) : State :=
  match s.store.jobs with
  | [] => s
  | j :: r =>
    let s := (s.onStore fun t => { t with jobs := r }).writeJob j
    (s.jobReleases j).ckptRecord j

/-- The first job waits (R372): where its words still pass the check, its void phase has ended. Each write that begins to wait counts in
DEFERRED (R393). -/
def State.deferFirst (s : State) (j : StoreJob) (r : List StoreJob) (vhold : Nat) : State :=
  let voids := s.mayWord vhold && !j.voided
  let s := if voids then j.recs.foldl State.voidRec s else s
  s.onStore fun t => { t with
    jobs := { j with wait := true, voided := j.voided || voids } :: r
    deferred := if j.wait && !voids then t.deferred else incSat 32 t.deferred }

/-- The energy check of the first job at a VHOLD (R371, R372): the job is confirmed, or it waits. -/
def State.tryFirst (s : State) (vhold : Nat) : State :=
  let s := s.onPower fun p => { p with vholdMv := vhold }
  match s.store.jobs with
  | [] => s
  | j :: r =>
    if s.mayWrite vhold then s.confirmFirst else s.deferFirst j r vhold

/-- STORE_JOB_CONFIRM (R369): the writer takes its first job. -/
def State.storeJobConfirm (s : State) (vhold : Nat) : State :=
  match s.store.jobs with
  | j :: _ => if s.storeOn && !j.wait then s.tryFirst vhold else s
  | [] => s

/-- WRITER_ENERGY_RECHECK (R372): a waiting job checks again. -/
def State.writerRecheck (s : State) (vhold : Nat) : State :=
  match s.store.jobs with
  | j :: _ => if s.storeOn && j.wait then s.tryFirst vhold else s
  | [] => s

/-! ## Checkpoints (R85, R387, R388) -/

/-- The power-quality counters of a point as its record holds them (R284), with the BIND_SEQ of the binding that they belong to: DESIGN
CHOICE, log entry 178. -/
def Point.pqCounters (p : Point) : List (List Nat) :=
  [p.pqSag, p.pqSwell, p.pqIntr, match p.bind with
    | some b => [b.seq]
    | none => []]

/-- A checkpoint begins: its records are handed to Q12 in order (R387). -/
def State.checkpoint (s : State) : State :=
  let ms := s.boundPoints
  let recs := (ms.map fun m => StoreRec.point m ((s.point m).record 0)) ++ (ms.map fun m => .pqCount m (s.point m).pqCounters)
    ++ [.device s.deviceRecord]
  let s := recs.foldl (fun s r => s.enqueue { recs := [r], ckpt := true }) s
  let s := ms.foldl (fun s m => s.onPoint m fun p => { p with e1 := 0 }) s
  s.onPower fun p => { p with
    ckptStart := s.now, ckptNow := false, ckptDone := 0, ckptRun := p.ckptOps, ckptOps := [] }

/-- CHECKPOINT (R85): the interval in force has elapsed, or a checkpoint has been asked for. None starts in lean metering, and
none while the previous one runs. -/
def execCheckpoint (s : State) : Host.Outcome State Fault Refusal :=
  .next (
    let due := s.power.ckptNow || decide (s.power.ckptStart + s.ckptInterval * slotsPerS ≤ s.now)
    if s.storeOn && due && !s.power.lean && !s.store.jobs.any (fun j => j.ckpt) then s.checkpoint else s)

/-- A point record of a checkpoint that is not written leaves its E1 to the next one (R85). -/
def State.keepLargest (s : State) (j : StoreJob) : State :=
  if !j.ckpt then s
  else j.recs.foldl (fun s r => match r with
    | .point m r => s.onPoint m fun p => { p with e1 := max p.e1 r.e1 }
    | _ => s) s

/-- A checkpoint in progress finishes the record it is writing and stops (R73, R77); it starts anew with the return of full
metering (R75). -/
def State.stopCheckpoint (s : State) : State :=
  let s := if s.store.jobs.any fun j => j.ckpt then
      s.onPower fun p => { p with ckptNow := true, ckptOps := p.ckptRun ++ p.ckptOps, ckptRun := [] } else s
  let s := (s.store.jobs.drop 1).foldl State.keepLargest s
  s.onStore fun t => match t.jobs with
    | [] => t
    | j :: r => { t with jobs := j :: r.filter fun k => !k.ckpt }

/-- CHECKPOINT_NOW (R388). -/
def cmdCheckpointNow (s : State) (r : Request) : Except Deny State := do
  len r 0
  needPriv s r 0x0508
  modeAll s
  match s.accept r 0x0508 true with
  | none => .error { status := .noHandle }
  | some (s, o) => .ok (s.onPower fun p => { p with ckptNow := true, ckptOps := p.ckptOps ++ [o] })

/-! ## The scrubber (R389 to R392) -/

/-- The status of a read at the normal reference, whose data are its own. -/
def normalRead : WordRead → WordRead
  | .goodOther => .good
  | .voidOther => .void
  | x => x

/-- EV_STORE_UNCORRECTABLE (R390): at most once per second, with the number found and the last address. -/
def State.uncorrectable (s : State) (addr : Nat) : State :=
  let n := s.events.uncorrCount + 1
  let due := match s.events.uncorrAt with
    | none => true
    | some t => decide (t + slotsPerS ≤ s.now)
  if due then
    (s.onEvents fun e => { e with uncorrAt := some s.now, uncorrCount := 0 }).raise 60 11 0 (le 4 n ++ le 4 addr)
  else s.onEvents fun e => { e with uncorrCount := n }

/-- A slot of a ring found damaged (R376). -/
def spoilRing {α : Type} (n slot : Nat) (l : List (Nat × Slot α)) : List (Nat × Slot α) :=
  l.map fun e => if e.1 % n = slot then (e.1, .torn) else e

/-- A location that holds something found damaged. -/
def Slot.spoil {α : Type} : Slot α → Slot α
  | .blank => .blank
  | _ => .torn

/-- One copy of a record found damaged. -/
def Dual.spoil {α : Type} (d : Dual α) (second : Bool) : Dual α :=
  if second then { d with b := d.b.spoil } else { d with a := d.a.spoil }

/-- One copy of a log's entry found damaged. -/
def spoilLog {α : Type} (n i : Nat) (second : Bool) (l : List (Nat × Dual α)) : List (Nat × Dual α) :=
  l.map fun e => if e.1 % n = i then (e.1, e.2.spoil second) else e

/-- The record that owns a damaged word, handled per R376 and R382: a ring's slot or a signature is lost, a copy of a state record is
replaced at once by a write from the live value, and a log's entry keeps its other copy. -/
def State.damage (s : State) (addr : Nat) : State :=
  let priv := addr - 0x06800000
  if addr < 0x05000000 then
    let m := addr / (16 * s.ringLen)
    s.onStore fun t => { t with profiles := upd t.profiles m (spoilRing s.ringLen (addr / 16 % s.ringLen)) }
  else if addr < 0x06000000 then s.onStore fun t => { t with ring := spoilRing 524288 ((addr - 0x05000000) / 32) t.ring }
  else if addr < 0x06320000 then
    let o := addr - 0x06000000
    s.onStore fun t => { t with snaps := upd t.snaps (o / 12800) (spoilRing 25 (o % 12800 / 512)) }
  else if addr < 0x06520000 then
    let o := addr - 0x06320000
    s.onStore fun t => { t with sigs := t.sigs.filter fun e => !(e.1 == o / 8192 && e.2.1 % 2 == o % 8192 / 4096) }
  else if addr < 0x06800000 ∨ 0x06A00000 ≤ addr then s
  else if priv < 0x80000 then
    let m := priv / 2048
    if (s.point m).bind.isNone && (s.store.points.getD m {}).newest.isNone then s
    else (s.onStore fun t => { t with points := upd t.points m fun d => d.spoil (decide (1024 ≤ priv % 2048)) }).writePoint m 5
  else if priv < 0x88000 then
    let m := (priv - 0x80000) / 128
    if (s.store.relayRecs.getD m {}).newest.isNone then s
    else (s.onStore fun t => { t with relayRecs := upd t.relayRecs m fun d => d.spoil (decide (64 ≤ priv % 128)) }).writeRelayRec m
  else if priv < 0x90000 then
    let m := (priv - 0x88000) / 128
    if (s.store.pqRecs.getD m {}).newest.isNone then s
    else (s.onStore fun t => { t with pqRecs := upd t.pqRecs m fun d => d.spoil (decide (64 ≤ priv % 128)) }).q12
      [.pqCount m (s.point m).pqCounters]
  else if priv < 0x91000 then
    (s.onStore fun t => { t with seqRec := t.seqRec.spoil (decide (0x800 ≤ priv % 0x1000)) }).writeSequencer
  else if priv < 0x92000 then
    (s.onStore fun t => { t with sealRec := t.sealRec.spoil (decide (0x800 ≤ priv % 0x1000)) }).writeSeal
  else if priv < 0x93000 then
    (s.onStore fun t => { t with evidRec := t.evidRec.spoil (decide (0x800 ≤ priv % 0x1000)) }).writeEvidence
  else if priv < 0x95000 then
    (s.onStore fun t => { t with deviceRec := t.deviceRec.spoil (decide (0x94000 ≤ priv)) }).q12 [.device s.deviceRecord]
  else if priv < 0xA0000 then s
  else if priv < 0xA8000 then
    s.onStore fun t => { t with markers := spoilLog 256 (priv / 64 % 256) (decide (0xA4000 ≤ priv)) t.markers }
  else if priv < 0xB0000 then
    s.onStore fun t => { t with runs := spoilLog 256 (priv / 64 % 256) (decide (0xAC000 ≤ priv)) t.runs }
  else if priv < 0x100000 then s
  else s.onStore fun t => { t with bcs := spoilLog 8192 (priv / 64 % 8192) (decide (0x180000 ≤ priv)) t.bcs }

/-- A rewrite of a word, and its read at margin again: a word still weak is reported (R390). -/
def State.rewriteWord (s : State) (addr : Nat) (value again : WordRead) : State :=
  if again = value then s else s.raise 59 11 0 (le 4 addr)

/-- What the scrubber does with one word (R390). -/
def State.scrubAct (s : State) (addr : Nat) (normal margin again : WordRead) : State :=
  match normalRead normal with
  | .uncorrectable =>
    let s := s.onStore fun t => { t with
      uncorr := incSat 32 t.uncorr, lastBad := addr, scrub := { t.scrub with uncorr := t.scrub.uncorr + 1 } }
    (s.uncorrectable addr).damage addr
  | .corrected =>
    (s.onStore fun t => { t with
      corrected := incSat 32 t.corrected, scrub := { t.scrub with corrected := t.scrub.corrected + 1 } }).rewriteWord
        addr .good again
  | x =>
    if margin = x then s
    else
      (s.onStore fun t => { t with
        weak := incSat 32 t.weak, scrub := { t.scrub with weak := t.scrub.weak + 1 } }).rewriteWord addr x again

/-- The end of a pass (R390, R392): its counts are reported, and the next pass begins at normal pace. -/
def State.endPass (s : State) : State :=
  let x := s.store.scrub
  let s := if s.parN 0x500 ≤ x.weak then s.raise 59 11 0 (le 4 x.weak ++ le 4 x.corrected ++ le 4 x.uncorr) else s
  let s := match x.nowOp with
    | some o => (s.commitOp o).finish o .ok (min 65535 x.uncorr) x.weak
    | none => s
  s.onStore fun t => { t with
    passes := incSat 32 t.passes
    scrub := { x.restart s.time with passWeak := x.weak, passCorrected := x.corrected, passUncorr := x.uncorr } }

/-- Every hour the pace follows the highest die temperature of the hour before (R389). -/
def State.scrubPace (s : State) : State :=
  if s.now < s.store.scrub.hourAt + 3600 * slotsPerS then s
  else
    let t16 := s.clock.maxTempC16
    let s := s.onStore fun t => { t with
      scrub := { t.scrub with theta := t16, hourAt := s.now, k := ((t16 - 1120) / 240).toNat } }
    s.onClock fun c => { c with maxTempC16 := c.tempC16 }

/-- SCRUB_WORD (R390): the word at the scrubber's position. -/
def execScrubWord (normal margin again : WordRead) (s : State) : Host.Outcome State Fault Refusal :=
  .next (
    if s.storeOn && !s.store.scrub.paused then
      let s := s.scrubPace
      let pos := s.store.scrub.pos
      let s := s.scrubAct (8 * pos) normal margin again
      if pos + 1 < storeWords then s.onStore fun t => { t with scrub := { t.scrub with pos := pos + 1 } } else s.endPass
    else s)

/-- SCRUB_NOW (R392). -/
def cmdScrubNow (s : State) (r : Request) : Except Deny State := do
  len r 0
  needPriv s r 0x0507
  modeAll s
  need s.store.scrub.nowOp.isNone .resourceBusy
  match s.accept r 0x0507 with
  | none => .error { status := .noHandle }
  | some (s, o) =>
    .ok (s.onStore fun t => { t with scrub := { t.scrub.restart s.time with nowOp := some o, full := true } })

/-- Scrubbing pauses; a pass of SCRUB_NOW is stopped by PFAIL (R73, R392). -/
def State.pauseScrub (s : State) : State :=
  let s := match s.store.scrub.nowOp with
    | some o => (s.onStore fun t => { t with scrub := t.scrub.restart s.time }).finish o .abortedPower 0 0
    | none => s
  s.onStore fun t => { t with scrub := { t.scrub with paused := true } }

/-- STORE_STATUS (R394). -/
def cmdStoreStatus (s : State) (r : Request) : Except Deny State := do
  len r 0
  needPriv s r 0x0506
  modeResp s false
  let x := s.store.scrub
  .ok (s.replyOk r (s.storeBlock ++ time6 x.passStart ++ zeros 2 ++ le 4 x.passWeak ++ le 4 x.passCorrected
    ++ le 4 x.passUncorr ++ le 4 (if x.full then 10 else 604800 / 2 ^ x.k) ++ le 4 s.store.lastBad ++ leI 2 x.theta ++ zeros 2))

/-! ## READ_PROFILE and READ_SNAPSHOT (R395, R396) -/

/-- READ_PROFILE (R395). -/
def cmdReadProfile (s : State) (r : Request) : Except Deny State := do
  len r 12
  let m := byteAt r 0
  let ack := bit (byteAt r 1) 0
  let want := fieldAt r 2 2
  let seq := fieldAt r 8 4
  flagsWithin (byteAt r 1) 1
  need (decide (want ≤ 253)) .badParameter
  needPoint s m
  needPriv s r 0x0501
  modeResp s false
  let p := s.point m
  need (!(ack && decide (p.pseq < seq + 1))) .badParameter
  let moves := ack && decide (p.pmark < seq + 1)
  let mark := if moves then seq + 1 else p.pmark
  let oldest := p.pseq - s.ringLen
  let first := max (fieldAt r 4 4) oldest
  let n := min want (p.pseq - first)
  let ring := s.store.profiles.getD m []
  let bytes := (List.range n).map fun i => match ringAt ring (first + i) with
    | some x => x.bytes
    | none => zeros 16
  let s := s.countTorn (ringTorn ring first n)
  let reply := le 1 m ++ zeros 1 ++ le 2 n ++ le 4 oldest ++ le 4 p.pseq ++ le 4 first ++ le 4 mark ++ bytes.flatten
  if moves then
    let s := s.onPoint m fun p => { p with pmark := mark, wrapRaised := false }
    .ok ((s.enqueue { recs := [.point m ((s.point m).record 7)], reply := some r.port }).replyOk r reply .store)
  else .ok (s.replyOk r reply)

/-- READ_SNAPSHOT (R396). -/
def cmdReadSnapshot (s : State) (r : Request) : Except Deny State := do
  len r 4
  let m := byteAt r 0
  let age := byteAt r 1
  need (decide (age ≤ 23)) .badParameter
  flagsWithin (byteAt r 2) 1
  reserved r 3 1
  needPoint s m
  needPriv s r 0x0502
  modeResp s false
  let p := s.point m
  let q := p.sseq - age
  let ring := s.store.snaps.getD m []
  let snap := if age < p.snapCount then ringAt ring q else none
  let sig := if bit (byteAt r 2) 0 && decide (age ≤ 1) && snap.isSome then
      match s.store.sigs.find? fun e => e.1 == m && e.2.1 == q with
      | some e => e.2.2
      | none => []
    else []
  let s := if age < p.snapCount then s.countTorn (ringTorn ring q 1) else s
  .ok (s.replyOk r (le 1 m ++ le 1 age ++ le 1 (b2n snap.isSome + 2 * b2n (!sig.isEmpty)) ++ zeros 1 ++ le 2 sig.length
    ++ zeros 2 ++ (match snap with
      | some x => x.bytes
      | none => zeros 512) ++ sig))

/-! ## HOST_AREA (R397) -/

/-- The bytes of the host-reserved region from an offset. -/
def readHost (l : List Host.Cell) (off : Nat) : Nat → List Byte
  | 0 => []
  | n + 1 => readCell l off :: readHost l (off + 1) n

/-- HOST_AREA (R397). -/
def cmdHostArea (s : State) (r : Request) : Except Deny State := do
  need (decide (12 ≤ r.params.length)) .badParameter
  let write := bit (byteAt r 0) 0
  let off := fieldAt r 4 4
  let n := fieldAt r 8 2
  flagsWithin (byteAt r 0) 1
  reserved r 1 3
  reserved r 10 2
  need (decide (1 ≤ n) && (write || decide (n ≤ 4000)) && r.params.length == (if write then 12 + n else 12)
    && decide (off + n ≤ 3145728)) .badParameter
  needPriv s r 0x0509 false (!write)
  modeAll s
  if write then
    .ok ((s.enqueue { prio := 3, recs := [.host off (r.params.drop 12)], reply := some r.port }).replyOk r
      (le 4 off ++ le 2 n ++ zeros 2) .store)
  else .ok (s.replyOk r (le 4 off ++ le 2 n ++ zeros 2 ++ readHost s.store.host off n))

end Sys2Proof.Machine
end

