-- ==== Sys2Proof/Machine/Security.lean ====
section
/-! DEFINITION. Calibration under seal (R464 to R468), keys and anchors (R446 to R449, R460 to R463), the lifecycle commands
(R469, R475), attestation and statements (R470 to R473), and DEBUG_AUTH (R474). -/
namespace Sys2Proof.Machine

/-! ## CAL_WRITE (R464 to R467) -/

/-- The end of a job's operation. -/
def State.jobEnd (s : State) (j : SecJob) (st : Status) (detail result : Nat) : State :=
  match j.op with
  | some o => s.finish o st detail result
  | none => s

/-- The items of a calibration package (R466): kind and data; none for a list that does not parse, with the index reached. -/
def calItems : Nat → Nat → List Byte → Except Nat (List (Nat × List Byte))
  | 0, i, bs => if bs.isEmpty then .ok [] else .error i
  | fuel + 1, i, bs =>
    if bs.isEmpty then .ok []
    else
      let n := fld bs 2 2
      if bs.length < 4 + n ∨ isZero bs 1 1 = false then .error i
      else do
        let l ← calItems fuel (i + 1) (bs.drop (4 + n))
        .ok ((fld bs 0 1, sub bs 4 n) :: l)

/-- One item read (R466): its effect, or the status that its form gives. -/
def State.calItem (s : State) (k : Nat) (d : List Byte) : Except Status EffItem :=
  match k with
  | 1 =>
    let pid := fld d 0 2
    if d.length ≠ 8 ∨ isZero d 2 2 = false ∨ pidInRange pid = false then .error .badParameter
    else if s.pidAbsent pid then .error .unitAbsent
    else if s.pidRetired pid then .error .unitRetired
    else .ok (.pid pid (BitVec.ofNat 32 (fld d 4 4)))
  | 2 =>
    let c := fld d 0 2
    if d.length ≠ 8 ∨ isZero d 2 2 = false ∨ 511 < c then .error .badParameter
    else if s.nChan ≤ c then .error .unitAbsent
    else if (s.isl (c / 64)).retired then .error .unitRetired
    else .ok (.fs c (fld d 4 4))
  | 3 =>
    let n := fld d 0 1
    let t := fld d 2 2
    if d.length < 8 ∨ d.length ≠ 8 + 3 * t ∨ 15 < n ∨ within 1 5 (fld d 1 1) = false ∨ within 1 320 t = false
        ∨ isZero d 4 4 = false then .error .badParameter
    else .ok (.bank n t (fld d 1 1) (readCoeff (d.drop 8) t))
  | _ => .error .badParameter

/-- The items of a package, or the index and status of the first that fails. -/
def State.readItems (s : State) : Nat → List (Nat × List Byte) → Except (Nat × Status) (List EffItem)
  | _, [] => .ok []
  | i, x :: r =>
    match s.calItem x.1 x.2 with
    | .error st => .error (i, st)
    | .ok e =>
      match s.readItems (i + 1) r with
      | .error f => .error f
      | .ok l => .ok (e :: l)

/-- The rules of one item's owning chapter (R466), in the configuration before the set and with the whole set. -/
def State.calRule (s : State) (before after : State) : EffItem → Option Status
  | .pid pid v =>
    let sealed_ := before.access pid == some .rwS || after.access pid == some .rwS || s.groupChange pid v
    if !sealed_ || !s.reservedOk pid v || !s.valueOk pid v then some .badParameter
    else match itemFails before after pid, chanPid pid with
      | some st, _ => some st
      | none, some (c, p) =>
        if (p = 4 ∨ p = 5) ∧ (after.pointsOf c).any (rateBreaks before after) = true then some .resourceBusy else none
      | none, none => none
  | .fs _ _ => none
  | .bank n _ _ _ =>
    if !(s.bank n).pending.isEmpty then some .resourceBusy
    else if after.boundPoints.any (rateBreaks before after) then some .resourceBusy
    else if capacityFails before after then some .capacity
    else none

/-- The first item whose rule fails. -/
def State.calFails (s : State) (before after : State) : Nat → List EffItem → Option (Nat × Status)
  | _, [] => none
  | i, x :: r =>
    match s.calRule before after x with
    | some st => some (i, st)
    | none => s.calFails before after (i + 1) r

/-- The conditions of a sealed move that do not concern the package (R465). -/
def State.moveFails (s : State) : Option Status :=
  if !s.tamper.calLink then some .sealed
  else if s.mode.mode ≠ .meter ∧ s.mode.mode ≠ .degraded ∧ s.mode.mode ≠ .calibrate then some .notInMode
  else if s.lockOn then some .authorityRequired
  else none

/-- The banks that a set reloads. -/
def banksOf : List EffItem → List Nat
  | [] => []
  | .bank n _ _ _ :: r => n :: banksOf r
  | _ :: r => banksOf r

/-- The old and the new EN_LEGAL_FORMAT and the number of LEGAL_REBASE records, when the set changes the format (R467). -/
def State.formatFields (s : State) (items : List EffItem) : List Byte :=
  let old := s.parN 0x140
  let new := items.foldl (fun v e => match e with
    | .pid 0x140 x => x.toNat
    | _ => v) old
  if old = new then [] else le 4 old ++ le 4 new ++ le 4 s.boundPoints.length

/-- The commit point of a calibration package (R467): `move` for a sealed move. -/
def State.calCommit (s : State) (j : SecJob) (pk : Package) (items : List EffItem) (move : Bool) : State :=
  let unsigned := bit pk.flags 1
  let fields := s.formatFields items
  let s := if move then s.evidenceIncrement 0 else s
  let s := if unsigned then s else s.takeSeq 2 pk.seq
  let time := s.time
  let s := if unsigned then s else s.onSec fun x => { x with
    sealSt := { x.sealSt with moves := x.sealSt.moves + b2n move, lastSeq := pk.seq, lastVersion := pk.version
                              lastTime := time, lastDigest := shake256 j.data 64 } }
  let s := s.configWrite
  let s := if unsigned then s else s.writeSeal
  let s := if move then
      s.raise 57 12 0 (le 4 pk.seq ++ le 4 pk.version ++ le 4 items.length ++ le 4 (s.evidCount 0) ++ fields) else s
  let s := match j.op with
    | some o => s.commitOp o
    | none => s
  s.onEngine fun e =>
    let n := e.setSeq + 1
    { e with setSeq := n
             effects := e.effects ++ items.map fun i => { item := i, set := n, sealMove := move }
             commits := e.commits ++ [{ id := n, op := j.op, detail := items.length
                                        result := if move then s.security.sealSt.moves else 0, banks := banksOf items }] }

/-- The end of CAL_WRITE's verification (R467). -/
def State.calDone (s : State) (j : SecJob) (poisoned : Bool) : State :=
  let move := s.life == .sealed
  if poisoned then (s.authFail 1 j.port).jobEnd j .signatureInvalid 0 0
  else match verifyPackage s s.time j.data [4] (fun _ => 2) (s.life == .manufacture || s.life == .unsealed) with
    | .error e =>
      if e.order = 1 then s.jobEnd j .badParameter 0xFFFF 0 else (s.pkgFail e j.port).jobEnd j e.status 0 0
    | .ok pk =>
      match if move then s.moveFails else none with
      | some st => s.jobEnd j st 0 0
      | none =>
        match calItems (pk.payload.length / 4) 0 pk.payload with
        | .error i => s.jobEnd j .badParameter i 0
        | .ok l =>
          match s.readItems 0 l with
          | .error (i, st) => s.jobEnd j st i 0
          | .ok items =>
            match s.calFails s.configured (s.withItems items) 0 items with
            | some (i, st) => s.jobEnd j st i 0
            | none => s.calCommit j pk items move

/-- CAL_WRITE (R467). -/
def cmdCalWrite (s : State) (r : Request) : Except Deny State := do
  need (decide (13 ≤ r.params.length)) .badParameter
  let total := fieldAt r 8 4
  flagsWithin (byteAt r 0) 1
  reserved r 1 3
  need (within 1 65536 total) .badParameter
  needPriv s r 0x0701
  need (!(s.life == .sealed && s.lockOn)) .authorityRequired
  notRetired s
  modeAll s
  need67 (!(s.life == .sealed && s.mode.mode == .commission)) .notInMode
  need (!(s.life == .sealed && !s.tamper.calLink)) .sealed
  match joinFragment s.security.calPart (bit (byteAt r 0) 0) (fieldAt r 4 4) total (r.params.drop 12) r.port 0 with
  | none => .error { status := .badParameter }
  | some q =>
    if q.data.length < total then .ok ((s.onSec fun x => { x with calPart := some q }).replyOk r (le 4 q.data.length))
    else match s.accept r 0x0701 with
      | none => .error { status := .noHandle }
      | some (s, o) =>
        .ok (s.onSec fun x => { x with
          calPart := none, jobs := x.jobs ++ [{ kind := .cal, op := some o, data := q.data, port := r.port }] })

/-- CAL_MEASURE (R468). -/
def cmdCalMeasure (s : State) (r : Request) : Except Deny State := do
  len r 12
  let read := bit (byteAt r 0) 0
  let c := fieldAt r 2 2
  let ref := fieldAt r 4 2
  let n := fieldAt r 6 2
  flagsWithin (byteAt r 0) 1
  reserved r 1 1
  reserved r 10 2
  need (read || (decide (c ≤ 511) && (decide (ref ≤ 511) || ref == 0xFFFF) && within 1 250 n)) .badParameter
  needChans s (if read then [] else if ref = 0xFFFF then [c] else [c, ref])
  needPriv s r 0x0702
  need67 (s.mode.mode == .calibrate) .notInMode
  if read then
    match (s.port r.port).calResults.find? fun e => e.1 == fieldAt r 8 2 with
    | some e => .ok (s.replyOk r e.2)
    | none => .error { status := .badParameter }
  else do
    need (meteringRole (s.chan c).set.role && (ref == 0xFFFF || (s.chan ref).set.role == 1)) .badParameter
    match s.accept r 0x0702 with
    | none => .error { status := .noHandle }
    | some (s, o) =>
      .ok (s.onSec fun x => { x with
        measures := x.measures ++ [{ op := o, ch := c, ref := if ref = 0xFFFF then none else some ref, cycles := n, from_ := s.now }] })

/-! ## LOAD_KEYS (R462, R463) -/

/-- The anchor of a rotation package as far as the bytes received show it: a utility anchor until its byte has arrived. -/
def rotationUtility (bs : List Byte) : Bool := decide (bs.length ≤ 3) || fld bs 3 1 != 0

/-- LOAD_KEYS (R463). -/
def cmdLoadKeys (s : State) (r : Request) : Except Deny State := do
  need (decide (13 ≤ r.params.length)) .badParameter
  let f := byteAt r 0
  let first := bit (byteAt r 1) 0
  let total := fieldAt r 8 4
  let data := r.params.drop 12
  need (decide (f ≤ 4) && within 1 16384 total) .badParameter
  flagsWithin (byteAt r 1) 1
  reserved r 2 2
  let old := match s.security.keyPart with
    | some p => if p.func = f then some p else none
    | none => none
  let seen := match old with
    | some p => if first then data else p.data ++ data
    | none => data
  needPriv s r 0x0803 (f == 0 || (f == 3 && rotationUtility seen))
  notRetired s
  need67 (!(f == 2 && s.life != .manufacture)) .lifecycleForbids
  modeAll s
  match joinFragment old first (fieldAt r 4 4) total data r.port f with
  | none => .error { status := .badParameter }
  | some q =>
    if q.data.length < total then .ok ((s.onSec fun x => { x with keyPart := some q }).replyOk r (le 4 q.data.length))
    else match s.accept r 0x0803 with
      | none => .error { status := .noHandle }
      | some (s, o) =>
        .ok (s.onSec fun x => { x with
          keyPart := none, jobs := x.jobs ++ [{ kind := .key f, op := some o, data := q.data, port := r.port }] })

/-- One entry of a key package (R462). -/
structure KeyEntry where
  type : Nat
  index : Nat
  param : Nat
  key : List Byte
  deriving DecidableEq, Repr

/-- The entries of a decrypted body; none when one is malformed. -/
def readEntries : Nat → List Byte → Option (List KeyEntry)
  | 0, _ => some []
  | n + 1, bs =>
    let e : KeyEntry := { type := fld bs 0 1, index := fld bs 1 1, param := fld bs 4 4, key := sub bs 16 32 }
    let ok := isZero bs 2 2 && isZero bs 8 8
      && (if e.type = 1 then decide (e.index ≤ 3) && decide (e.param ≤ 90)
          else (e.type == 3 || e.type == 4) && e.index == 0 && within 60 86400 e.param)
    if ok then match readEntries n (bs.drop 48) with
      | some l => some (e :: l)
      | none => none
    else none

/-- One entry applied at the commit point (R462, R492). -/
def State.applyKey (s : State) (e : KeyEntry) : State :=
  if e.type = 1 then s.onSec fun x => { x with
    vending := upd x.vending e.index fun v => { key := some e.key, prev := v.key, prevEnd := s.now + e.param * 11059200000 } }
  else
    let k : Session := { key := e.key, end_ := s.now + e.param * slotsPerS }
    s.onSec fun x => if e.type = 3 then { x with opsSession := some k } else { x with metSession := some k }

/-- The layout of a key package's payload (R462): the number of entries, or none. -/
def keyLayout (pl : List Byte) : Option Nat :=
  let n := fld pl 1116 1
  if within 1 16 n && isZero pl 1117 3 && pl.length == 1120 + 48 * n then some n else none

/-- The decryption of a key package (R462): its body, none when the tag fails or the device has no transport key. -/
def State.decryptKeys (s : State) (pk : Package) : Option (List Byte) :=
  match s.otp.transportSeed with
  | some seed =>
    if !s.security.transportKey then none
    else
      let ss := Config.mlKemDecaps seed (pk.payload.take 1088)
      let k := kmac256 ss (s.fuses.deviceId ++ le 4 pk.seq) 32 "OVP-KEYPKG"
      Config.aesGcmDecrypt k (sub pk.payload 1088 12) pk.header (pk.payload.drop 1120) (sub pk.payload 1100 16)
  | none => none

/-- The verification of a key package ends (R456): its decryption follows as the next job. -/
def State.keyVerified (s : State) (j : SecJob) : State :=
  match verifyPackage s s.time j.data [5] (fun _ => 1) false with
  | .error e => if e.order = 1 then s.jobEnd j .badParameter 1 0 else (s.pkgFail e j.port).jobEnd j e.status 0 0
  | .ok pk =>
    match keyLayout pk.payload with
    | none => s.jobEnd j .badParameter 1 0
    | some _ => s.onSec fun x => { x with jobs := { j with kind := .decrypt } :: x.jobs }

/-- The decryption of a key package ends: every entry takes effect, or none (R462, R463). -/
def State.keysDecrypted (s : State) (j : SecJob) : State :=
  match verifyPackage s s.time j.data [5] (fun _ => 1) false with
  | .error e => (s.pkgFail e j.port).jobEnd j e.status 0 0
  | .ok pk =>
    let n := (keyLayout pk.payload).getD 0
    match s.decryptKeys pk with
    | none => (s.authFail 1 j.port).jobEnd j .signatureInvalid 0 0
    | some body =>
      match readEntries n body with
      | none => s.jobEnd j .badParameter 1 0
      | some es => (((es.foldl State.applyKey (s.takeSeq 1 pk.seq)).configWrite).writeSeal).jobEnd j .ok 0 n

/-- A digest programmed into the next slot of an anchor (R446). -/
def State.programAnchor (s : State) (a : Nat) (d : List Byte) : State :=
  s.onOtp fun o => if d == zeros 32 then o else match a with
    | 0 => { o with vendorAnchors := o.vendorAnchors ++ [d] }
    | 1 => { o with opsAnchors := o.opsAnchors ++ [d] }
    | _ => { o with metAnchors := o.metAnchors ++ [d] }

/-- The slots of an anchor that are programmed, and its number of slots (R446). -/
def State.anchorSlots (s : State) (a : Nat) : Nat × Nat :=
  match a with
  | 0 => (s.otp.vendorAnchors.length, 2)
  | 1 => (s.otp.opsAnchors.length, 4)
  | _ => (s.otp.metAnchors.length, 4)

/-- A public key installed in the configuration region (R447). -/
def State.installKey (s : State) (a : Nat) (k : List Byte) : State :=
  (s.onSec fun x => { x with pubKeys := upd x.pubKeys a fun _ => k }).configWrite

/-- FUNCTION 1 of LOAD_KEYS: a public key that its digest authenticates. -/
def State.loadPublic (s : State) (j : SecJob) : State :=
  let a := fld j.data 0 1
  let k := j.data.drop 4
  if j.data.length ≠ 1956 ∨ 2 < a ∨ isZero j.data 1 3 = false then s.jobEnd j .badParameter 1 0
  else match s.anchorSlot a with
    | some (_, d) => if shake256 k 32 == d then (s.installKey a k).jobEnd j .ok 1 0 else s.jobEnd j .signatureInvalid 0 0
    | none => s.jobEnd j .signatureInvalid 0 0

/-- FUNCTION 2 of LOAD_KEYS: slot 0 of a utility anchor, in MANUFACTURE. -/
def State.loadAnchor (s : State) (j : SecJob) : State :=
  let a := fld j.data 0 1
  if j.data.length ≠ 36 ∨ a = 0 ∨ 2 < a ∨ isZero j.data 1 3 = false then s.jobEnd j .badParameter 1 0
  else if (s.anchorSlots a).1 ≠ 0 then s.jobEnd j .resourceBusy 0 0
  else (s.programAnchor a (sub j.data 4 32)).jobEnd j .ok 2 0

/-- FUNCTION 3 of LOAD_KEYS: a rotation programs the next slot and installs the new key. -/
def State.rotateAnchor (s : State) (j : SecJob) : State :=
  match verifyPackage s s.time j.data [7] id false with
  | .error e => if e.order = 1 then s.jobEnd j .badParameter 1 0 else (s.pkgFail e j.port).jobEnd j e.status 0 0
  | .ok pk =>
    let a := fld pk.payload 0 1
    if pk.payload.length ≠ 1988 ∨ isZero pk.payload 1 3 = false ∨ 2 < a then s.jobEnd j .badParameter 1 0
    else if a ≠ pk.anchor then (s.authFail 1 j.port).jobEnd j .signatureInvalid 0 0
    else
      let n := s.anchorSlots a
      if n.2 ≤ n.1 then s.jobEnd j .resourceBusy 0 0
      else
        let s := if a = 0 then s else (s.takeSeq a pk.seq).writeSeal
        ((s.programAnchor a (sub pk.payload 4 32)).installKey a (pk.payload.drop 36)).jobEnd j .ok 3 n.1

/-- The identity public key, when the device holds the pair (R448). -/
def State.identityKey (s : State) : Option (List Byte) :=
  if s.security.idKey then s.otp.idSeed.map Config.mlDsaPublic else none

/-- FUNCTION 4 of LOAD_KEYS: the identity certificate. -/
def State.loadCertificate (s : State) (j : SecJob) : State :=
  match verifyPackage s s.time j.data [8] (fun _ => 0) false with
  | .error e => if e.order = 1 then s.jobEnd j .badParameter 1 0 else (s.pkgFail e j.port).jobEnd j e.status 0 0
  | .ok pk =>
    if pk.payload.length ≠ 64 ∨ isZero pk.payload 50 14 = false then s.jobEnd j .badParameter 1 0
    else match s.identityKey with
      | some k =>
        if shake256 k 32 == pk.payload.take 32 then
          ((s.onSec fun x => { x with cert := j.data }).configWrite).jobEnd j .ok 4 0
        else s.jobEnd j .signatureInvalid 0 0
      | none => s.jobEnd j .signatureInvalid 0 0

/-- The end of a LOAD_KEYS job (R451, R463): a poisoned verification counts as failed; a poisoned decryption runs once more. -/
def State.keyDone (s : State) (f : Nat) (j : SecJob) (poisoned : Bool) : State :=
  if poisoned then
    if f = 2 then s.jobEnd j .resourceBusy 0 0
    else (if f = 1 then s else s.authFail 1 j.port).jobEnd j .signatureInvalid 0 0
  else match f with
    | 0 => s.keyVerified j
    | 1 => s.loadPublic j
    | 2 => s.loadAnchor j
    | 3 => s.rotateAnchor j
    | _ => s.loadCertificate j

/-- The end of a decryption (R451). -/
def State.decryptDone (s : State) (j : SecJob) (poisoned : Bool) : State :=
  if poisoned then
    if j.rerun then s.jobEnd j .resourceBusy 0 0
    else s.onSec fun x => { x with jobs := { j with rerun := true } :: x.jobs }
  else s.keysDecrypted j

/-- SESSION_KEY_EXPIRY (R460). -/
def execSessionKeyExpiry (anchor : Nat) (s : State) : Host.Outcome State Fault Refusal :=
  .next (match s.session anchor with
    | some k =>
      if k.end_ ≤ s.now then
        s.onSec fun x => if anchor = 1 then { x with opsSession := none } else { x with metSession := none }
      else s
    | none => s)

/-- ENTROPY_FAILURE (R449). -/
def execEntropyFailure (s : State) : Host.Outcome State Fault Refusal :=
  .next (if s.security.entropyFailed then s
    else (s.onSec fun x => { x with entropyFailed := true }).authFail 3 0xFF)

/-! ## SEAL and ZEROISE (R469, R475, R106, R107) -/

/-- A lifecycle pair programmed, bit A and then bit B (R107). -/
def programmed : OtpPair := { a := true, b := true }

/-- A short command that needs the entropy source (R449). -/
def needEntropy (s : State) : Except Deny Unit := need (!s.security.entropyFailed) .resourceBusy

/-- SEAL (R469). -/
def cmdSeal (s : State) (r : Request) : Except Deny State := do
  let auth ← authField r 4
  let t := byteAt r 0
  need (decide (t ≤ 2)) .badParameter
  reserved r 1 3
  let s ← order5 s s.time r 0x0704 (if t = 2 then some 1 else none) 4 auth true
  need67 (s.life == (if t = 2 then .unsealed else .manufacture)) .lifecycleForbids
  need67 (t != 1 || ((s.anchorSlot 0).isSome && (s.anchorSlot 1).isSome && (s.anchorSlot 2).isSome && s.otp.idSeed.isSome))
    .lifecycleForbids
  need67 (s.mode.mode == .commission || s.mode.mode == .meter) .notInMode
  let reply := fun (s : State) (d : List Byte) => s.replyOk r (le 1 s.life.num ++ zeros 3 ++ d)
  if t = 0 then do
    needEntropy s
    need (s.otp.idSeed.isNone && s.otp.transportSeed.isNone) .resourceBusy
    let x := s.drawBytes 32
    let y := x.2.drawBytes 64
    .ok (reply (y.2.onOtp fun o => { o with idSeed := some x.1, transportSeed := some y.1 }) (zeros 32))
  else
    let s := s.onOtp fun o => if t = 1 then { o with l1 := programmed } else { o with l2 := programmed }
    let s := if t = 1 then s.onSec fun x => { x with idKey := true, transportKey := true } else s
    let s := s.raise 63 0 0 []
    .ok (reply s (match s.identityKey with
      | some k => shake256 k 32
      | none => zeros 32))

/-- Every seed bit programmed (R475, step 1 of R452). -/
def Otp.burnSeeds (o : Otp) : Otp :=
  { o with idSeed := some (List.replicate 32 0xFF), transportSeed := some (List.replicate 64 0xFF) }

/-- ZEROISE (R475). The mode goes per R99 at the next round boundary (R106). -/
def cmdZeroise (s : State) (r : Request) : Except Deny State := do
  let auth ← authField r 4
  need (fieldAt r 0 4 == 0x4F52455A) .badParameter
  let s ← order5 s s.time r 0x0806 (if s.life = .manufacture then none else some 1) 4 auth true
  notRetired s
  modeAll s
  let s := s.onOtp fun o => ({ o with l1 := programmed, l2 := programmed, l3 := programmed } : Otp).burnSeeds
  let s := s.onSec fun x => { x with
    opsSession := none, metSession := none, idKey := false, transportKey := false, vending := List.replicate 4 {}, cert := [] }
  let s := (s.configWrite).raise 63 0 0 []
  .ok ((s.requestMode { target := .commission, cause := 8 }).replyOk r [])

/-! ## ATTEST, SIGN_READING, GET_CERTS (R470 to R473) -/

/-- A hedged signature under the identity key (R450). -/
def State.sign (s : State) (ctx : String) (msg : List Byte) : List Byte × State :=
  let x := s.drawBytes 32
  (Config.mlDsaSign (s.otp.idSeed.getD []) (Keccak.ascii ctx) x.1 msg, x.2)

/-- A command refused in MANUFACTURE and RETIRED. -/
def needKeys (s : State) : Except Deny Unit := need67 (s.life != .manufacture && s.life != .retired) .lifecycleForbids

/-- The running control-core package and microcode package digested (R470). -/
def State.fwDigest (s : State) : List Byte :=
  if s.images.fwSlot = 0xFF then zeros 32 else shake256 (s.images.slot 0 s.images.fwSlot).package 32

/-- The same for the microcode: zero for the ROM microcode. -/
def State.ucodeDigest (s : State) : List Byte :=
  if s.engine.romUcode then zeros 32 else shake256 (s.images.slot 1 s.images.ucActive).package 32

/-- The 256-byte report of ATTEST (R470). The layout of the records that CAL_DIGEST covers is not stated (log entry 6). -/
def State.attestReport (s : State) (nonce cal : List Byte) : List Byte :=
  le 2 0xA7 ++ le 2 256 ++ le 2 s.fuses.variant.code ++ le 1 s.life.num ++ le 1 (DebugLevel.num s.mode.debug)
    ++ le 2 (b2n s.mode.d2Entered + 2 * b2n s.tamper.calLink + 4 * b2n s.clock.timeUnset + 8 * b2n s.inRecovery
        + 16 * b2n s.engine.romUcode)
    ++ le 1 s.rollbackCount ++ le 1 s.anchorsByte ++ le 4 (s.parN 0x600) ++ padTo 16 s.fuses.deviceId ++ s.fwDigest
    ++ s.ucodeDigest ++ cal ++ ((List.range 16).map fun n => le 2 (s.evidCount n)).flatten ++ le 4 s.security.sealSt.moves
    ++ le 4 s.images.fwVersion ++ le 4 s.images.ucVersion ++ le 4 s.fuses.romVersion ++ sample8 s.now ++ time6 s.time ++ zeros 2
    ++ nonce ++ le 4 s.clock.run ++ zeros 28

/-- ATTEST (R470). -/
def cmdAttest (s : State) (r : Request) : Except Deny State := do
  len r 32
  needPriv s r 0x0801
  needKeys s
  modeResp s false
  needEntropy s
  let x := s.drawBytes 32
  let report := s.attestReport r.params x.1
  let y := x.2.sign "OVP-ATTEST" report
  .ok (y.2.replyOk r (report ++ y.1))

/-- The header of a statement (R471). -/
def State.statementHeader (s : State) (kind m bodyLen : Nat) (nonce : List Byte) : List Byte :=
  le 2 0xC5 ++ le 2 (64 + bodyLen + 3309) ++ le 1 kind ++ le 1 m ++ le 2 bodyLen ++ padTo 16 s.fuses.deviceId
    ++ sample8 s.now ++ padTo 32 nonce

/-- SIGN_READING (R472). -/
def cmdSignReading (s : State) (r : Request) : Except Deny State := do
  len r 36
  let k := byteAt r 0
  let m := byteAt r 1
  let age := byteAt r 2
  need (decide (k ≤ 1) && (k == 1 || decide (age ≤ 23))) .badParameter
  reserved r 3 1
  needPoint s m
  needPriv s r 0x0802
  needKeys s
  modeResp s false
  let p := s.point m
  let body ← if k = 1 then .ok (s.registerRecord m)
    else
      let ring := s.store.snaps.getD m []
      match if age < p.snapCount then ringAt ring (p.sseq - age) else none with
      | some x => .ok x.bytes
      | none => .error { status := .badParameter, torn := if age < p.snapCount then ringTorn ring (p.sseq - age) 1 else 0 }
  needEntropy s
  let h := s.statementHeader k m body.length (r.params.drop 4)
  let y := s.sign "OVP-CRAISKIX" (h ++ body)
  .ok (y.2.replyOk r (h ++ body ++ y.1))

/-- The snapshot of a sequence: in the store, or on its way there (R328). -/
def State.findSnapshot (s : State) (m q : Nat) : Option Snapshot :=
  match ringAt (s.store.snaps.getD m []) q with
  | some x => some x
  | none => ((s.store.jobs.map fun j => j.recs).flatten).findSome? fun r => match r with
    | .snapshot x => if x.mp = m ∧ x.sseq = q then some x else none
    | _ => none

/-- BOUNDARY_SIGNING (R328): the oldest deferred snapshot is signed, in boundary order. -/
def execBoundarySigning (s : State) : Host.Outcome State Fault Refusal :=
  .next (match s.tariff.signQueue with
    | [] => s
    | (m, q) :: rest =>
      if s.cp.st ≠ .ready ∨ s.mode.mode.responding = false ∨ s.security.entropyFailed = true then s
      else
        let s := s.onTariff fun t => { t with signQueue := rest }
        match s.findSnapshot m q with
        | some x =>
          if !s.security.idKey then s
          else
            let h := s.statementHeader 0 m 512 (zeros 32)
            let y := s.sign "OVP-CRAISKIX" (h ++ x.bytes)
            y.2.q12 [.signature m q (h ++ y.1)]
        | none => s)

/-- GET_CERTS (R473). -/
def cmdGetCerts (s : State) (r : Request) : Except Deny State := do
  len r 4
  let i := byteAt r 0
  let n := byteAt r 1
  need (decide (i ≤ 3) && (i != 3 || decide (n ≤ 2))) .badParameter
  reserved r 2 2
  needPriv s r 0x0804
  if i ≤ 1 then needKeys s else .ok ()
  modeResp s false
  let d := match i with
    | 0 => s.identityKey.getD []
    | 1 => if s.security.transportKey then (s.otp.transportSeed.map Config.mlKemPublic).getD [] else []
    | 2 => s.security.cert
    | _ => s.security.pubKeys.getD n []
  .ok (s.replyOk r (le 1 i ++ le 1 n ++ le 2 d.length ++ d))

/-! ## DEBUG_AUTH (R109, R474) -/

/-- Whether a debug level is free in the lifecycle in force (R109). -/
def State.levelFree (s : State) (l : Nat) : Bool :=
  match s.life with
  | .manufacture | .retired => true
  | .unsealed => decide (l ≤ 1)
  | .sealed => l == 0

/-- The service certificate of a DEBUG_AUTH (R474): the state with its SEQ consumed, and its duration. -/
def debugCert (s : State) (level : Nat) (cert : List Byte) : Except Deny (State × Nat) := do
  need (!cert.isEmpty) .authorityRequired
  match verifyPackage s s.time cert [6] (fun _ => 1) false with
  | .error e => .error { status := e.status, authCause := if e.order = 1 then none else some 1 }
  | .ok pk => do
    let d := fld pk.payload 4 4
    need (pk.payload.length == 8 && isZero pk.payload 1 3 && within 60 86400 d) .badParameter
    need (decide (level ≤ fld pk.payload 0 1)) .authorityRequired
    .ok (s.takeSeq 1 pk.seq, d)

/-- The authority for a level: none where it is free (R474). -/
def debugRight (s : State) (level : Nat) (cert : List Byte) : Except Deny (State × Nat) :=
  if s.levelFree level then .ok (s, 0) else debugCert s level cert

/-- DEBUG_AUTH (R474). -/
def cmdDebugAuth (s : State) (r : Request) : Except Deny State := do
  need (decide (4 ≤ r.params.length)) .badParameter
  let l := byteAt r 0
  let cert := r.params.drop 4
  need (decide (l ≤ 2)) .badParameter
  reserved r 1 3
  need (!s.levelFree l || cert.isEmpty) .badParameter
  needPriv s r 0x0805
  let x ← debugRight s l cert
  need (l == 0 || !s.lockOn) .authorityRequired
  modeResp s false
  let s := x.1
  let fin := if x.2 = 0 then 0 else s.nextRound + x.2 * slotsPerS
  let s := if l = 0 then s.closeDebug
    else s.onMode fun m => { m with debugReq := some { level := if l = 1 then .d1 else .d2, seconds := x.2 } }
  .ok (s.replyOk r (le 1 l ++ zeros 3 ++ sample8 fin))

end Sys2Proof.Machine
end

