-- ==== Sys2Proof/Machine/Images.lean ====
section
/-! DEFINITION. Image slots (R477 to R485): loading, checking, and the switch of the engine microcode; and the end of a job of the
security engine (R451). -/
namespace Sys2Proof.Machine

/-! ## Slots -/

/-- Orders 2 to 6 of R456 on the package of a slot, and order 1 with them (R483, R485). A delivered package (R519) carries a
signature that is not stated; of it only ROLLBACK is judged (log entry 23). -/
def State.slotCheck (s : State) (target slot : Nat) : Except PkgFail Unit :=
  let i := s.images.slot target slot
  if !i.ok then .error ⟨.signatureInvalid, 3⟩
  else if i.factory then (if i.rollback < s.rollbackCount then .error ⟨.rollback, 6⟩ else .ok ())
  else match verifyPackage s s.time i.package [target + 1] (fun _ => 0) false with
    | .error e => .error e
    | .ok _ => .ok ()

/-- The slot verifies. -/
def State.slotPasses (s : State) (target slot : Nat) : Bool :=
  match s.slotCheck target slot with
  | .ok _ => true
  | .error _ => false

/-- The slot record written with one slot's OK bit cleared. -/
def State.clearSlot (s : State) (target slot : Nat) : State :=
  (s.onImages fun i => i.on target slot fun x => { x with ok := false }).configWrite

/-- EV_FW_ACTIVATED (R484): target, slot, VERSION and outcome. -/
def State.fwEvent (s : State) (target slot version outcome : Nat) : State :=
  s.raise 7 0 0 (le 4 target ++ le 4 slot ++ le 4 version ++ le 4 outcome)

/-- The rollback count brought to a value, pair by pair (R453). -/
def State.advanceRollback (s : State) (n : Nat) : State :=
  s.onOtp fun o => { o with rollback := o.rollback ++ List.replicate (min 64 n - s.rollbackCount) programmed }

/-- The slot of a target that is not active (R478). -/
def Images.spare (i : Images) (target : Nat) : Nat := 1 - if target = 0 then i.ccActive else i.ucActive

/-- A load session is open for a target. -/
def Images.loading (i : Images) (target : Nat) : Bool :=
  match i.session with
  | some x => x.target == target
  | none => false

/-! ## Loading (R478 to R481) -/

/-- IMAGE_BEGIN (R478). -/
def cmdImageBegin (s : State) (r : Request) : Except Deny State := do
  len r 8
  let t := byteAt r 0
  let total := fieldAt r 4 4
  need (decide (t ≤ 1) && within 3374 (if t = 0 then 4194304 else 524288) total) .badParameter
  reserved r 1 3
  needPriv s r 0x0901
  modeResp s true
  need s.images.session.isNone .resourceBusy
  let k := s.images.spare t
  let s := s.onImages fun i => { i with session := some { target := t, slot := k, port := r.port, total := total, last := s.now } }
  let s := (s.onImages fun i => i.on t k fun x => { x with ok := false, factory := false, package := [] }).configWrite
  .ok (s.replyOk r (le 1 k ++ zeros 3))

/-- IMAGE_DATA (R479). -/
def cmdImageData (s : State) (r : Request) : Except Deny State := do
  need (within 9 4080 r.params.length) .badParameter
  let t := byteAt r 0
  let data := r.params.drop 8
  need (decide (t ≤ 1)) .badParameter
  reserved r 1 3
  needPriv s r 0x0902
  modeResp s true
  match s.images.session with
  | none => .error { status := .badParameter }
  | some x => do
    need (x.port == r.port) .resourceBusy
    need (x.target == t && fieldAt r 4 4 == x.received && decide (x.received + data.length ≤ x.total)) .badParameter
    let n := x.received + data.length
    let s := s.onImages fun i => { i with session := some { x with received := n, last := s.now } }
    .ok ((s.enqueue { prio := 3, recs := [.image t x.slot x.received data], reply := some r.port }).replyOk r (le 4 n) .store)

/-- IMAGE_END (R481). -/
def cmdImageEnd (s : State) (r : Request) : Except Deny State := do
  len r 4
  let t := byteAt r 0
  need (decide (t ≤ 1)) .badParameter
  reserved r 1 3
  needPriv s r 0x0903
  modeResp s true
  match s.images.session with
  | none => .error { status := .badParameter }
  | some x => do
    need (x.target == t && x.received == x.total) .badParameter
    match s.accept r 0x0903 with
    | none => .error { status := .noHandle }
    | some (s, o) =>
      .ok (s.onSec fun y => { y with jobs := y.jobs ++ [{ kind := .image t x.slot, op := some o, port := r.port }] })

/-- The end of IMAGE_END's check (R481): the session closes with the completion. -/
def State.imageDone (s : State) (target slot : Nat) (j : SecJob) (poisoned : Bool) : State :=
  let s := s.onImages fun i => { i with session := none }
  if poisoned then (s.authFail 1 j.port).jobEnd j .signatureInvalid 0 0
  else match verifyPackage s s.time (s.images.slot target slot).package [target + 1] (fun _ => 0) false with
    | .error e => if e.order = 1 then s.jobEnd j .badParameter 1 0 else (s.pkgFail e j.port).jobEnd j e.status 0 0
    | .ok pk =>
      let s := s.onImages fun i => i.on target slot fun x => { x with ok := true, version := pk.version, rollback := pk.rollback }
      let s := match j.op with
        | some o => s.commitOp o
        | none => s
      s.configWrite.jobEnd j .ok 0 pk.version

/-- IMAGE_SESSION_TIMEOUT (R480): 600 s without an accepted IMAGE_DATA. -/
def execImageSessionTimeout (s : State) : Host.Outcome State Fault Refusal :=
  .next (match s.images.session with
    | some x => if x.last + 600 * slotsPerS ≤ s.now then s.onImages fun i => { i with session := none } else s
    | none => s)

/-! ## Activation (R482, R485) -/

/-- Order 9 that both activations share: the slot is verified and not active, no session loads its target, and its ROLLBACK is
not below c. -/
def needSlot (s : State) (target slot : Nat) : Except Deny Unit := do
  let i := s.images.slot target slot
  need (slot == s.images.spare target && i.ok) .badParameter
  need (!s.images.loading target) .resourceBusy
  need (decide (s.rollbackCount ≤ i.rollback)) .rollback

/-- IMAGE_ACTIVATE (R482). -/
def cmdImageActivate (s : State) (r : Request) : Except Deny State := do
  len r 4
  let k := byteAt r 0
  let force := bit (byteAt r 1) 0
  need (decide (k ≤ 1)) .badParameter
  flagsWithin (byteAt r 1) 1
  reserved r 2 2
  needPriv s r 0x0904
  modeResp s true
  needSlot s 0 k
  need (force || s.allOutstanding.isEmpty) .resourceBusy
  let s := (s.onImages fun i => { i with ccReq := some { slot := k, force := force, port := r.port, at_ := s.now } }).replyOk r []
  .ok (s.onPort r.port fun q => { q with replies := q.replies.modify (q.replies.length - 1) fun x => { x with switch := true } })

/-- UCODE_ACTIVATE (R485). -/
def cmdUcodeActivate (s : State) (r : Request) : Except Deny State := do
  len r 4
  let k := byteAt r 0
  need (decide (k ≤ 1)) .badParameter
  reserved r 1 3
  needPriv s r 0x0905
  modeResp s true
  needSlot s 1 k
  need s.images.ucReq.isNone .resourceBusy
  match s.accept r 0x0905 with
  | none => .error { status := .noHandle }
  | some (s, o) => .ok (s.onImages fun i => { i with ucReq := some { slot := k, op := o, from_ := s.now } })

/-- Whether a round boundary permits a switch of the microcode (R485): no slice is carried, no takeback recomputation is pending,
and R231 is not in force. -/
def State.switchPermitted (s : State) : Bool :=
  decide (s.now % 256 = 0) && s.engine.carried.isEmpty && s.engine.redo.isEmpty
    && !s.power.lean

/-- The engine runs the package of a microcode slot: harmonic analysis needs it (R90), and c advances (R453). -/
def State.switchMicrocode (s : State) (slot : Nat) : State :=
  let i := s.images.slot 1 slot
  let s := s.onImages fun x => { x with ucActive := slot, ucVersion := i.version, ucBoot := none }
  let s := s.onEngine fun e => { e with romUcode := false }
  let s := s.onPq fun q => { q with harmPaused := s.power.lean || s.power.leanTemp }
  if s.images.fwSlot = 0xFF then s
  else s.advanceRollback (min i.rollback (s.images.slot 0 s.images.fwSlot).rollback)

/-- The switch that UCODE_ACTIVATE asked for, at a permitted boundary. -/
def State.ucodeSwitch (s : State) (u : UcodeReq) : State :=
  let v := (s.images.slot 1 u.slot).version
  match s.slotCheck 1 u.slot with
  | .error e =>
    let s := ((s.onImages fun x => { x with ucReq := none }).clearSlot 1 u.slot).pkgFail e 0xFF
    s.finish u.op (if e.order = 1 then .signatureInvalid else e.status) 0 0
  | .ok _ =>
    let s := (((s.onImages fun x => { x with ucReq := none }).commitOp u.op).switchMicrocode u.slot).configWrite
    (s.fwEvent 1 u.slot v 0).finish u.op .ok 0 v

/-- UCODE_SWITCH (R485, R90): at a round boundary the engine changes to the microcode verified at the start, or to the one that
UCODE_ACTIVATE asked for; the latter gives up after 1 000 rounds without a permitted boundary. -/
def execUcodeSwitch (s : State) : Host.Outcome State Fault Refusal :=
  .next (
    match s.images.ucBoot, s.images.ucReq with
    | some k, _ => if s.cp.st = .ready ∧ s.switchPermitted = true then s.switchMicrocode k else s
    | none, some u =>
      if s.switchPermitted then s.ucodeSwitch u
      else if u.from_ + 256000 ≤ s.now then
        (s.onImages fun x => { x with ucReq := none }).finish u.op .resourceBusy 0 0
      else s
    | none, none => s)

/-! ## The security engine (R451) -/

/-- The first job of the security engine ends; `poisoned` tells that its result is. -/
def State.jobDone (s : State) (j : SecJob) (poisoned : Bool) : State :=
  match j.kind with
  | .plan p => s.planDone p j poisoned
  | .cal => s.calDone j poisoned
  | .key f => s.keyDone f j poisoned
  | .decrypt => s.decryptDone j poisoned
  | .image t k => s.imageDone t k j poisoned

/-- SECURITY_JOB_DONE (R451): jobs run one at a time, in order. A poisoned word of Q24 poisons the result. -/
def execSecurityJobDone (poisoned : Bool) (s : State) : Host.Outcome State Fault Refusal :=
  .next (match s.security.jobs with
    | [] => s
    | j :: rest =>
      if s.cp.st = .ready then
        let s := if poisoned then s.poisoned 24 else s
        (s.onSec fun x => { x with jobs := rest }).jobDone j poisoned
      else s)

end Sys2Proof.Machine
end

