-- ==== Sys2Proof/Machine/ControlPlane.lean ====
section
/-! DEFINITION. Control-plane resets (R32 to R36, R115 to R117), and the switch of the control core (R483, R484). -/
namespace Sys2Proof.Machine

/-! ## What a reset discards (R33) -/

/-- Requests that have been carried out in part no longer owe a reply to any port (R33, R137). -/
def State.forgetReplies (s : State) : State :=
  let s := s.onEngine fun e => { e with commits := e.commits.map fun c => { c with port := none } }
  let s := s.onTariff fun t => { t with closes := [], demReset := t.demReset.map fun d => (d.1, none) }
  let s := s.onStore fun t => { t with jobs := t.jobs.map fun j => { j with reply := none } }
  let s := s.onMode fun m => { m with changes := m.changes.map fun q => { q with port := none } }
  let s := s.onClock fun c => { c with setTimes := c.setTimes.map fun q => { q with port := 4 } }
  s.onRelays fun r => { r with commands := r.commands.map fun q => { q with port := 4 }
                               tokens := r.tokens.map fun q => { q with port := 4 } }

/-- A port at the entry of a control-plane reset: requests, replies, staged writes and stored measurements go (R33, R468, R503); a
line rate that waited for its reply applies. -/
def Port.cut (p : Port) : Port :=
  { p with rx := [], replies := [], pendingSet := [], calResults := [], out := [], resyncOwed := false, sending := false
           baud := p.baudNext.getD p.baud, baudNext := none }

/-- What leaves the control plane at the entry of a reset or an adjournment: operations, replies, security jobs, session keys,
partial packages and an open load session (R33, R144, R460, R480). -/
def State.cpDrop (s : State) : State :=
  let s := s.detachOps.forgetReplies
  let s := s.eachPort Port.cut
  let s := s.onSec fun x => { x with
    jobs := [], measures := [], opsSession := none, metSession := none, plans := [none, none, none, none]
    calPart := none, keyPart := none }
  let s := s.onImages fun i => { i with session := none, ccReq := none }
  s.onCp fun c => { c with resetReq := none }

/-- A control-plane reset with its cause (R115, R158), at which the P0 bank takes its levels from VDDIO_H (R51). It is held while
RESET_N is low. -/
def State.cpReset (s : State) (cause vddio : Nat) : State :=
  (s.cpDrop.onPower fun p => { p with vddioMv := vddio }).onCp fun c => { c with
    st := if c.resetNLow then .held else .starting, icache := none, halted := false, resetCause := cause
    watchdogMs := c.watchdogNext }

/-! ## RESET_N and the watchdog (R36, R116) -/

/-- The control plane has its supply and may run: outside ADJOURN, WATCH and DORMANT. -/
def State.cpRuns (s : State) : Bool := s.mode.mode.responding || (s.mode.mode == .boot && s.mode.bootStep != 0)

/-- RESET_N low for 1 us or more (R116). In BOOT the cause of the start stays. -/
def execResetN (s : State) (vddio : Nat := 3300) : Host.Outcome State Fault Refusal :=
  .next (if s.cpRuns && !s.cp.resetNLow then
      let s := s.onCp fun c => { c with resetNLow := true }
      s.cpReset (if s.mode.mode = .boot then s.cp.resetCause else 1) vddio
    else s)

/-- RESET_N high again (R116). Where the control plane does not run, it has no further effect. -/
def execResetNRelease (s : State) : Host.Outcome State Fault Refusal :=
  .next (if s.cp.resetNLow then
      s.onCp fun c => { c with resetNLow := false, st := if s.cpRuns ∧ c.st = .held then .starting else c.st }
    else s)

/-- RESET_CMD (R117). -/
def cmdResetCmd (s : State) (r : Request) : Except Deny State := do
  let auth ← authField r 4
  let full := bit (byteAt r 0) 0
  flagsWithin (byteAt r 0) 1
  reserved r 1 3
  need (full || auth.isEmpty) .badParameter
  let s ← order5 s s.time r 0x0004 (if full then s.opsWhenSealed else none) 4 auth true
  modeAll s
  let s := (s.onCp fun c => { c with resetReq := some full, resetAt := s.now }).replyOk r []
  .ok (s.onPort r.port fun q => { q with replies := q.replies.modify (q.replies.length - 1) fun x => { x with reset := true } })

/-! ## Switching the control core (R483, R484) -/

/-- The image that the control core runs from a slot; with none verified the recovery service (R452, R454). -/
def State.runSlot (s : State) (slot : Nat) : State :=
  if s.slotPasses 0 slot then
    (s.onImages fun i => { i with fwSlot := slot, fwVersion := (i.slot 0 slot).version }).onCp fun c => { c with recovery := false }
  else (s.onImages fun i => { i with fwSlot := 0xFF, fwVersion := 0 }).onCp fun c => { c with recovery := true }

/-- The new slot is given up: the old slot is recorded active, and the new one's OK bit is cleared (R484). -/
def State.giveUpTrial (s : State) : State :=
  let new := s.images.ccActive
  let v := (s.images.slot 0 new).version
  let s := s.onImages fun i => { i with ccActive := 1 - new, trial := false }
  (s.clearSlot 0 new).fwEvent 0 new v 1

/-- The second row of R484: the old image runs again after a second control-plane reset. -/
def State.fallBack (s : State) (cause vddio : Nat) : State :=
  let s := s.giveUpTrial
  (s.runSlot s.images.ccActive).cpReset cause vddio

/-- The reply of IMAGE_ACTIVATE has been read, or 10 ms have passed since it was ready (R482). -/
def State.switchDue (s : State) (q : CcReq) : Bool :=
  !((s.port q.port).replies.any fun r => r.switch) || decide (q.at_ + 1280 ≤ s.now)

/-- CONTROL_CORE_SWITCH (R483). -/
def execControlCoreSwitch (s : State) (vddio : Nat := 3300) : Host.Outcome State Fault Refusal :=
  .next (match s.images.ccReq with
    | none => s
    | some q =>
      if s.cp.st ≠ .ready ∨ s.switchDue q = false then s
      else
        let s := s.onImages fun i => { i with ccReq := none }
        let s := if q.force then s.detachOps.postOwed .cancelled else s
        let v := (s.images.slot 0 q.slot).version
        match s.slotCheck 0 q.slot with
        | .error e => ((s.clearSlot 0 q.slot).pkgFail e 0xFF).fwEvent 0 q.slot v 2
        | .ok _ =>
          let s := (s.onImages fun i => { i with ccActive := q.slot, trial := true, switchSlot := s.now }).configWrite
          (s.runSlot q.slot).cpReset 3 vddio)

/-- CONTROL_CORE_FALLBACK (R484): the control plane is not ready 50 ms after step 3. -/
def execControlCoreFallback (s : State) (vddio : Nat := 3300) : Host.Outcome State Fault Refusal :=
  .next (if s.images.trial && s.cpRuns && s.cp.st != .ready && decide (s.images.switchSlot + 6400 ≤ s.now) then s.fallBack 3 vddio
    else s)

/-- WATCHDOG_EXPIRY (R36); before the readiness of a new image it ends the trial (R484). -/
def execWatchdogExpiry (s : State) (vddio : Nat := 3300) : Host.Outcome State Fault Refusal :=
  .next (if s.cpRuns && (s.cp.st == .ready || s.cp.st == .starting) then
      let s := if s.images.trial && s.cp.st == .starting then s.fallBack 2 vddio else s.cpReset 2 vddio
      s.onCp fun c => { c with watchdogEvent := true }
    else s)

end Sys2Proof.Machine
end

