-- ==== Sys2Proof/Machine/Islands.lean ====
section
/-! DEFINITION. Lanes and islands in and out of service: lane tests and retirement (R240, R241, R491), islands dropped and
restored by admission (R242), retired and restored by command (R489, R490), the comparisons of R172, the adaptive operating
point (R223, R224), and remaps to a spare channel (R486, R487). -/
namespace Sys2Proof.Machine

/-- An operation passes its commit point: the SEQ of its authorisation is consumed, and the seal state written (R457). -/
def State.commitAuth (s : State) (o : OpRef) : State :=
  let s' := s.commitOp o
  match (s.entry o).bind HandleEntry.auth with
  | some (a, q) => ((s'.onEntry o fun e => { e with auth := none }).takeSeq a q).writeSeal
  | none => s'

/-! ## Channels of an island (R172, R187, R208) -/

/-- The points that use a channel of an island. -/
def State.pointsOnIsland (s : State) (n : Nat) : List Nat :=
  s.boundPoints.filter fun m => match (s.point m).bind with
    | some b => b.chans.any fun c => c / 64 == n
    | none => false

/-- The channels of an island restart as after a configuration step (R172, R187). -/
def State.restartIsland (s : State) (n : Nat) : State :=
  (s.unitsOf n).foldl (fun s c => s.restartChan c s.now true) s

/-! ## Islands out of and into service (R242, R489) -/

/-- An island has left the dispatch: its seconds stop, and its points enter cause [1]. -/
def State.leaveService (s : State) (n : Nat) : State :=
  let s := s.retireSeconds n
  let s := (s.pointsOnIsland n).foldl (fun s m => match (s.point m).bind with
    | some b => s.setCause m 1 n (b.chans.filter fun c => c / 64 == n)
    | none => s) s
  s.raise 18 3 n []

/-- An island re-enters the dispatch with an island step: its points leave cause [1] once no channel of theirs is out. -/
def State.enterService (s : State) (n : Nat) : State :=
  let s := s.restartIsland n
  (s.pointsOnIsland n).foldl (fun s m => match (s.point m).bind with
    | some b => if b.chans.all fun c => s.islOn (c / 64) then s.endCause m 1 else s
    | none => s) s

/-- EV_ADMISSION_CHANGE (R242): the lanes in service, the dropped set and the load before and after, in units of 1 000
lane-cycles per second. -/
def State.admissionChange (s : State) (before : Nat) : State :=
  s.raise 22 0 0 (le 1 (maskOf ((List.range 8).filter fun n => !(s.lane n).retired))
    ++ le 1 (maskOf ((List.range s.nIsl).filter fun n => (s.isl n).dropped)) ++ le 4 (before / 1000) ++ le 4 (s.load / 1000))

/-- The drop priority of an island (R243). -/
def State.priority (s : State) (n : Nat) : Nat := s.parN (0x700 + 32 * n + 10) % 256

/-- Of a list of islands the one that drops first: the lowest priority, among equals the highest number. -/
def State.dropFirst (s : State) : List Nat → Option Nat
  | [] => none
  | n :: r => match s.dropFirst r with
    | none => some n
    | some k => if s.priority n < s.priority k then some n else some k

/-- Islands dropped until the load fits (R242): at most k of them. -/
def State.dropIslands : Nat → State → State
  | 0, s => s
  | k + 1, s =>
    if s.load ≤ loadLimit s.lanesOn then s
    else match s.dropFirst ((List.range s.nIsl).filter s.islOn) with
      | none => s
      | some n => State.dropIslands k ((s.onIsland n fun i => { i with dropped := true }).leaveService n)

/-- The dropped islands in the order of their restoration: the reverse of the order of dropping. -/
def State.restoreOrder (s : State) : Nat → List Nat → List Nat
  | 0, _ => []
  | k + 1, l => match s.dropFirst l with
    | none => []
    | some n => State.restoreOrder s k (l.filter fun x => x != n) ++ [n]

/-- Dropped islands restored while they fit (R242): the load and the retained window (R221) and the staging buffer (R197). -/
def State.restoreIslands (s : State) : List Nat → State
  | [] => s
  | n :: r =>
    let t := s.onIsland n fun i => { i with dropped := false }
    if t.admitted && t.stagingOk then State.restoreIslands (t.enterService n) r else s

/-- Admission run again (R241, R242); `changed` tells that the capacity or the retired set has changed. -/
def State.reAdmit (s : State) (before : Nat) (changed : Bool) : State :=
  let out := fun (s : State) => (List.range s.nIsl).filter fun n => (s.isl n).dropped && !(s.isl n).retired
  let was := out s
  let s := s.dropIslands 8
  let s := if out s = was then s.restoreIslands (s.restoreOrder 8 was) else s
  if changed || decide (out s ≠ was) then s.admissionChange before else s

/-! ## Comparisons of references and supplies (R172, R490) -/

/-- The worst deviation of a running fault after one more comparison (R172): a first bad comparison after good ones begins
anew. -/
def worstDev (old good : Nat) (bad : Bool) (dev : Nat) : Nat :=
  let old := if good = 0 then old else 0
  if bad then max old dev else old

/-- The consecutive good comparisons of a state whose island shows no bad one: of the fault, and of a restoration. -/
def passAfter (bad : Bool) (n : Nat) : Nat := if bad then 0 else min 100 (n + 1)

/-- ISL_TEMP, refreshed every 100 ms (R174): at the first comparison of each span of 12 800 slots. -/
def Island.refreshTemp (i : Island) (now : Nat) (t16 : Int) : Island :=
  if i.tempAt.any fun t => t / 12800 == now / 12800 then i else { i with temp := t16, tempAt := some now }

/-- ISLAND_SUPPLY_CHECK (R172): the deviations of VREF from its trimmed value and of AVDD from its nominal value, in ppm, and
the island temperature in 1/16 degree. An island retired by command is compared only while it is being restored. -/
def execIslandSupplyCheck (n : Nat) (vref avdd : Int) (t16 : Int) (s : State) : Host.Outcome State Fault Refusal :=
  .next (
    let i := s.isl n
    if s.nIsl ≤ n ∨ s.mode.bootStep < 3 ∨ (s.metering = false ∧ s.mode.mode ≠ .boot) ∨ (i.retired ∧ i.restoreOp = none) then s
    else
      let badR := decide (10000 < vref.natAbs)
      let badS := decide (50000 < avdd.natAbs)
      let r := if badR then i.refBad + 1 else 0
      let p := if badS then i.supBad + 1 else 0
      let g := passAfter (badR || badS) i.good
      let wr := worstDev i.worstRef i.refGood badR vref.natAbs
      let ws := worstDev i.worstSup i.supGood badS avdd.natAbs
      let newR := !i.refFault && decide (3 ≤ r)
      let newS := !i.supFault && decide (3 ≤ p)
      let pass := passAfter (badR || badS) i.restoreGood
      let s := s.onIsland n fun i => { i.refreshTemp s.now t16 with
        refBad := min 3 r, supBad := min 3 p, good := g, worstRef := wr, worstSup := ws
        refGood := passAfter badR i.refGood, supGood := passAfter badS i.supGood
        refFault := i.refFault || newR, supFault := i.supFault || newS
        restoreGood := if i.restoreOp.isSome then pass else 0
        restoreReady := i.restoreReady || (i.restoreOp.isSome && decide (100 ≤ pass)) }
      let s := if newR then s.islandFault n 0 wr else s
      let s := if newS then s.islandFault n 1 ws else s
      if s.islFault n && decide (100 ≤ g) then
        (s.onIsland n fun i => { i with refFault := false, supFault := false, worstRef := 0, worstSup := 0 }).restartIsland n
      else s)

/-! ## Lane tests (R240, R491) -/

/-- The scheduled test of a pair: the number of the period it belongs to, when the pair has not tested in it (R240). The periods count
from the first counted sample of the start, which the spec does not state: DESIGN CHOICE, log entry 169. -/
def State.pairDue (s : State) (j : Nat) : Option Nat :=
  let t := s.now - s.mode.firstSample
  if t < j * 19200000 then none
  else
    let k := (t - j * 19200000) / 76800000 + 1
    if s.engine.pairDone.getD j 0 < k then some k else none

/-- The result of a test in the counts of R244 and in the lane itself (R240, R491): a lane in service that fails twice is to be retired.
On a retired lane ACTION 0 changes nothing. -/
def State.laneResult (s : State) (n : Nat) (pass : Bool) : State :=
  let l := s.lane n
  let s := if l.retired && l.action == 0 then s else s.onEngine fun e => { e with
    lastSelf := s.now, selfTests := if pass then incSat 32 e.selfTests else e.selfTests
    lastFailed := if pass then e.lastFailed else n }
  if l.retired then s
  else if pass then s.onLane n fun l => { l with failed := false, lastPass := s.now }
  else s.onLane n fun l => { l with failed := true, failAt := s.now / 256, leaving := l.leaving || l.failed }

/-- One lane tested: `sig` is its signature. -/
def State.laneTested (s : State) (n sig : Nat) : State :=
  let l := s.lane n
  let pass := sig == Config.laneSignature
  let s := s.laneResult n pass
  let low := sig % 2 ^ 32
  match l.op with
  | none => s
  | some o =>
    if l.action = 0 then ((s.onLane n fun l => { l with op := none }).commitAuth o).finish o .ok (b2n !pass) low
    else if l.action = 2 then
      if pass then s.onLane n fun l => { l with passes := l.passes + 1, sig := low, failAt := s.now / 256 }
      else (s.onLane n fun l => { l with op := none, passes := 0 }).finish o .ok 1 low
    else s

/-- Whether LANE_TEST asks for a test of a lane in the running round: ACTION 0 in the round after its acceptance, ACTION 2 in two
consecutive rounds (R491). -/
def Lane.wants (l : Lane) (round : Nat) : Bool :=
  l.op.isSome && decide (l.opAt < round) && (l.action == 0 || (l.action == 2 && (l.passes == 0 || (l.passes == 1 && decide (l.failAt < round)))))

/-- Whether a lane that failed its last test is tested again: in the next round (R240). -/
def Lane.again (l : Lane) (round : Nat) : Bool := l.failed && !l.retired && !l.leaving && decide (l.failAt < round)

/-- Whether a lane has the idle time that a test needs after its slices of the running round (R240). -/
def State.idleFor (s : State) (n : Nat) : Bool :=
  decide (s.engine.busy.getD n 0 + 32768 ≤ 2 * pointKhz s.engine.clockPoint)

/-- LANE_SELF_TEST (R240): the signatures of lanes 2j and 2j + 1, in the pair's period, after a failure of one of them, or for
LANE_TEST. The pair's test waits while a lane of it has too little idle time. -/
def execLaneSelfTest (j : Nat) (sigs : Nat × Nat) (s : State) : Host.Outcome State Fault Refusal :=
  .next (
    let round := s.now / 256
    let idle := fun n => (s.lane n).retired || s.idleFor n
    let due := if idle (2 * j) && idle (2 * j + 1) then s.pairDue j else none
    if s.metering = false ∨ 4 ≤ j then s
    else
      let s' := match due with
        | some k => s.onEngine fun e => { e with pairDone := upd e.pairDone j fun _ => k }
        | none => s
      let test := fun n sig (x : State) =>
        let l := s.lane n
        if (due.isSome && !l.retired) || ((l.again round || l.wants round) && s.idleFor n) then x.laneTested n sig else x
      test (2 * j + 1) sigs.2 (test (2 * j) sigs.1 s'))

/-- Lanes that leave the dispatch at a round boundary (R241). -/
def State.retireLane (s : State) (n : Nat) : State :=
  let before := s.load
  let l := s.lane n
  let s := s.onLane n fun l =>
    { l with retired := true, failed := false, leaving := false, op := if l.action = 1 then none else l.op, passes := 0 }
  let s := s.raise 19 4 n (le 1 n ++ sample7 l.lastPass)
  let s := s.reAdmit before true
  match l.op with
  | some o => if l.action = 1 then (s.commitAuth o).finish o .ok 0 0 else s
  | none => s

/-- A lane that re-enters the dispatch after two passes (R491). -/
def State.restoreLane (s : State) (n : Nat) (o : OpRef) : State :=
  let sig := (s.lane n).sig
  let before := s.load
  let s := s.onLane n fun l => { l with retired := false, failed := false, op := none, passes := 0 }
  ((s.reAdmit before true).commitAuth o).finish o .ok 0 sig

/-- The lanes of a round boundary. -/
def State.lanesDue (s : State) : State :=
  (List.range 8).foldl (fun s n =>
    let l := s.lane n
    match l.op with
    | some o =>
      if l.action = 1 ∨ l.leaving = true then s.retireLane n
      else if l.action = 2 ∧ 2 ≤ l.passes then s.restoreLane n o else s
    | none => if l.leaving then s.retireLane n else s) s

/-! ## Retirement and restoration by command (R489, R490) -/

/-- RETIRE_ISLAND at its round boundary. -/
def State.retireIsland (s : State) (n : Nat) (o : Option OpRef) : State :=
  let before := s.load
  let was := (s.isl n).dropped
  let s := s.onIsland n fun i => { i with retired := true, dropped := false, retireOp := none }
  let s := if was then s.raise 18 3 n [] else s.leaveService n
  let s := s.reAdmit before true
  match o with
  | some o => (s.commitAuth o).finish o .ok 0 0
  | none => s

/-- RESTORE_ISLAND at the round boundary after its comparisons: admission is checked again at the commit point. -/
def State.restoreIsland (s : State) (n : Nat) (o : OpRef) : State :=
  let quiet := fun (i : Island) => { i with restoreOp := none, restoreGood := 0, restoreReady := false }
  let t := s.onIsland n fun i => { quiet i with
    retired := false, refFault := false, supFault := false
    a := { i.a with selfDue := true, failed := false }, b := { i.b with selfDue := true, failed := false } }
  if !t.admitted || !t.stagingOk then (s.onIsland n quiet).finish o .capacity 0 0
  else
    let before := s.load
    let t := (List.range 64).foldl (fun t k => t.resetCheck (64 * n + k)) (t.enterService n)
    ((t.reAdmit before true).commitAuth o).finish o .ok 0 0

/-- The islands of a round boundary: retirements, restorations, and restorations that found no pass within 1 s. -/
def State.islandsDue (s : State) : State :=
  (List.range s.nIsl).foldl (fun s n =>
    let i := s.isl n
    let s := match i.retireOp with
      | some o => s.retireIsland n o
      | none => s
    match i.restoreOp with
    | none => s
    | some o =>
      if i.restoreReady then s.restoreIsland n o
      else if i.restoreSince + slotsPerS ≤ s.now then
        (s.onIsland n fun i => { i with restoreOp := none, restoreGood := 0 }).finish o .resourceBusy
          (if i.refFault || decide (0 < i.refBad) then 1 else 2) 0
      else s) s

/-- The island of a request: 1 byte, 3 reserved bytes and AUTH (R489). -/
def islandRequest (s : State) (r : Request) (op : Nat) : Except Deny (List Byte × Nat) := do
  let auth ← authField r 4
  let n := byteAt r 0
  need (decide (n ≤ 7)) .badParameter
  reserved r 1 3
  if op = 0x0A02 then needIsl s n else needIslFitted s n
  let _ ← order5 s s.time r op s.opsWhenSealed 4 auth
  modeNoCal s
  .ok (auth, n)

/-- RETIRE_ISLAND (R489). -/
def cmdRetireIsland (s : State) (r : Request) : Except Deny State := do
  let (auth, n) ← islandRequest s r 0x0A02
  need (((List.range s.nIsl).filter s.islOn) != [n]) .resourceBusy
  match s.accept r 0x0A02 with
  | none => .error { status := .noHandle }
  | some (s, o) => .ok ((s.holdAuth o auth).onIsland n fun i => { i with retireOp := some (some o) })

/-- RESTORE_ISLAND (R490). -/
def cmdRestoreIsland (s : State) (r : Request) : Except Deny State := do
  let (auth, n) ← islandRequest s r 0x0A03
  let i := s.isl n
  need i.retired .badParameter
  let t := s.onIsland n fun i => { i with retired := false, dropped := false }
  need (t.admitted && t.stagingOk) .capacity
  match s.accept r 0x0A03 with
  | none => .error { status := .noHandle }
  | some (s, o) => .ok ((s.holdAuth o auth).onIsland n fun i => { i with
      restoreOp := some o, restoreSince := s.now, restoreGood := 0, restoreReady := false, refBad := 0, supBad := 0 })

/-- LANE_TEST (R491). -/
def cmdLaneTest (s : State) (r : Request) : Except Deny State := do
  let auth ← authField r 4
  let n := byteAt r 0
  let a := byteAt r 1
  let f := byteAt r 2
  need (decide (n ≤ 7) && decide (a ≤ 2)) .badParameter
  flagsWithin f 1
  reserved r 3 1
  let _ ← order5 s s.time r 0x0A04 (if a = 0 then none else s.opsWhenSealed) 4 auth
  modeAll s
  let l := s.lane n
  let fewer := s.onLane n fun l => { l with retired := true }
  need (a != 1 || (!l.retired && decide (1 < s.lanesOn))) .resourceBusy
  need (a != 1 || bit f 0 || decide (fewer.load ≤ loadLimit fewer.lanesOn)) .capacity
  need (a != 2 || l.retired) .badParameter
  need l.op.isNone .resourceBusy
  match s.accept r 0x0A04 with
  | none => .error { status := .noHandle }
  | some (s, o) => .ok ((s.holdAuth o auth).onLane n fun l => { l with op := some o, opAt := s.now / 256, action := a, passes := 0 })

/-! ## Adaptive operating point (R222 to R224) -/

/-- Whether a point's clock holds a load at 85 % or less of the lanes in service. -/
def State.pointHolds (s : State) (load p : Nat) : Bool := decide (100 * load ≤ 85 * s.lanesOn * pointKhz p * 1000)

/-- The target point: the lowest that holds the load, and 6 when none does. -/
def State.target (s : State) (load : Nat) : Nat := ((List.range 7).find? fun p => s.pointHolds load p).getD 6

/-- One round of the loop (R224): `short` tells that a monitor reports a margin below its threshold. The supply and the clock move
at different boundaries; the trim returns to nominal at every change of point. -/
def State.adapt (s : State) (short : Bool) : State :=
  if !s.hasAdapt then s
  else
    let e := s.engine
    let full := short && decide (30 ≤ e.trim)
    let want := max (s.target (max s.load s.configured.load)) (if full then min 6 (e.point + 1) else 0)
    let trim := if short then min 30 (e.trim + 10) else e.trim
    if e.down then s.onEngine fun e => { e with point := e.clockPoint, down := false, trim := 0 }
    else if e.clockPoint < e.point then s.onEngine fun e => { e with clockPoint := e.point, trim := trim }
    else if e.point < want then s.onEngine fun e => { e with point := e.point + 1, trim := 0, below := 0 }
    else if e.point ≤ want then s.onEngine fun e => { e with trim := trim, below := 0 }
    else if e.below + 1 < 500 then s.onEngine fun e => { e with trim := trim, below := e.below + 1 }
    else s.onEngine fun e => { e with clockPoint := e.point - 1, down := true, trim := trim, below := 0 }

/-! ## Remap of a channel to a spare (R486, R487) -/

/-- A binding with one channel in place of another. -/
def Binding.replace (b : Binding) (old new : Nat) : Binding :=
  { b with ch := b.ch.map fun c => if c = old then new else c }

/-- S_eff of a remap, when its crossing has been confirmed: the first measured positive-going crossing of the gate reference
at or after the limit. -/
def State.remapInstant (s : State) (x : Remap) : Option Nat :=
  match s.gateRef x.old with
  | none => none
  | some v => (((s.chan v).marks.filter fun m => m.full && !m.gate && !m.provis && decide (x.limit ≤ m.at_)).map
      fun m => m.at_).min?

/-- The exchange of two channels at S_eff (R487). -/
def State.exchange (s : State) (x : Remap) (at_ : Nat) : State :=
  let old := s.chan x.old
  let pts := s.pointsOf x.old
  let volt := old.set.role == 1
  let s := if volt then s.endEvents 16 x.old else s
  let s := (s.captureChanged x.old).captureChanged x.new
  let step := fun (s : State) c role =>
    let l := settleLen (s.chan c).set.single (s.bankFor c).1 3
    s.onChan c fun h => { h with
      set := { h.set with role := role }, settleFrom := at_, settleTo := at_ + l, islSettle := true }
  let s := step (step s x.new old.set.role) x.old 5
  let s := if volt then
      let s := s.onChan x.new fun h => { h with
        cycleNo := old.cycleNo, marks := old.marks, lastCross := old.lastCross, period := old.period, noCross := true
        nextGate := old.nextGate, pol := .none, provisional := none }
      let s := s.onChan x.old fun h => { h with
        marks := [], lastCross := none, pol := .none, provisional := none, noCross := false, nextGate := 0 }
      let v := s.vsrc x.old
      let w := 0x240 + x.new / 8
      let n := s.parN w - 2 ^ (4 * (x.new % 8)) * s.vsrc x.new + 2 ^ (4 * (x.new % 8)) * v
      let s := s.setPar w (BitVec.ofNat 32 n)
      let hOld := bit (s.parN (0x210 + x.old / 32)) (x.old % 32)
      let hn := s.parN (0x210 + x.new / 32)
      let k := x.new % 32
      s.setPar (0x210 + x.new / 32) (BitVec.ofNat 32 (hn - 2 ^ k * b2n (bit hn k) + 2 ^ k * b2n hOld))
    else s
  let s := s.eachPoint fun p => match p.bind with
    | some b => if b.chans.contains x.old then { p with bind := some (b.replace x.old x.new) } else p
    | none => p
  let s := (s.resetCheck x.old).resetCheck x.new
  let s := (s.rerun x.old at_).rerun x.new at_
  let s := pts.foldl (fun s m => s.onPoint m fun p => { p with
    n13 := 0, c13 := 0, n14 := 0, c14 := 0, n16 := [0, 0, 0], c16 := 0, revQuanta := 0 }) s
  let s := pts.foldl (fun s m => s.rebuild m at_) s
  let s := s.configWrite.commitAuth x.op
  s.onEngine fun e => { e with remaps := e.remaps.map fun y =>
    if y.op = x.op then { y with sEff := some at_, done := true, waiting := pts } else y }

/-- REMAP_EFFECT (R487): the remaps whose crossing has come. -/
def execRemapEffect (s : State) : Host.Outcome State Fault Refusal :=
  .next (
    if s.metering = false then s
    else s.engine.remaps.foldl (fun s x =>
      if x.done then s
      else match s.remapInstant x with
        | some t => s.exchange x t
        | none => s) s)

/-- Remaps of which every affected point has committed its first cycle from S_eff, or has left, complete (R487). -/
def State.settleRemaps (s : State) : State :=
  let left := fun (x : Remap) m => (s.point m).bind.isSome && !(decide (x.sEff.getD 0 < (s.point m).sEnd))
  let ovl := s.engine.remaps.filter fun x => x.done && !(x.waiting.any (left x))
  let s := s.onEngine fun e => { e with remaps := e.remaps.filter fun x => !ovl.contains x }
  ovl.foldl (fun s x => s.finish x.op .ok 0 (x.sEff.getD 0 % 2 ^ 32)) s

/-- REMAP_CHANNEL (R486). -/
def cmdRemapChannel (s : State) (r : Request) : Except Deny State := do
  let auth ← authField r 4
  let old := fieldAt r 0 2
  let new := fieldAt r 2 2
  need (decide (old ≤ 511) && decide (new ≤ 511)) .badParameter
  needChans s [old, new]
  let _ ← order5 s s.time r 0x0A01 s.opsWhenSealed 4 auth
  notRetired s
  modeNoCal s
  let a := (s.chan old).set
  need (s.bound old && within 1 3 a.role) .badParameter
  let t := (s.chan new).set
  need (t.role == 5 && (s.chan new).fs != 0 && s.chanPeriod old == s.chanPeriod new) .badParameter
  need (!(s.engine.remaps.any fun x => !x.done && ([x.old, x.new].contains old || [x.old, x.new].contains new))) .badParameter
  match s.accept r 0x0A01 with
  | none => .error { status := .noHandle }
  | some (s, o) => .ok (((s.holdAuth o auth).onEngine fun e => { e with
      remaps := e.remaps ++ [{ old := old, new := new, op := o, limit := s.engine.runAhead + 1024 }] }).configWrite)

end Sys2Proof.Machine
end

