-- ==== Sys2Proof/Machine/Engine.lean ====
section
/-! DEFINITION. The round boundary (R216 to R231, R495): the slices, flag falls, the hand-over of parameter sets (R35), the
combiner, the loop, and what takes effect there; and the smaller rows of the engine and its queues. -/
namespace Sys2Proof.Machine

/-! ## The slice list and its lanes (R216, R217, R240) -/

/-- The lane-cycles of a channel's slice (R217, R220): its outputs in the round, with the Hilbert outputs of a bound voltage channel. -/
def State.chanCost (s : State) (c : Nat) : Nat :=
  let t := (s.chan c).set
  let n := (stampsIn (s.chanPeriod c) (s.now - 256) s.now).length
  n * (if t.single then 72 else (s.bankFor c).1 + 8) + (if t.role = 1 ∧ s.bound c = true then 63 * n else 0)

/-- The lane-cycles of a point's slice (R217, R220). -/
def State.pointCost (s : State) (m : Nat) : Nat :=
  match (s.point m).bind with
  | some b => 40 * b.elements.length * (stampsIn (s.chanPeriod b.v1) (s.now - 256) s.now).length
  | none => 0

/-- The lane-cycles of a takeback recomputation: for each output of the cycle so far and each element those of the sums and of the
Hilbert transform (R220, R233). The spec gives no cost for it: DESIGN CHOICE, log entry 168. -/
def State.redoCost (s : State) (m cycle : Nat) : Nat :=
  match (s.point m).bind, (s.point m).slots.find? fun x => x.cycle == cycle with
  | some b, some x => 103 * b.elements.length * (stampsIn x.per x.first (x.close.getD s.engine.runAhead)).length
  | _, _ => 0

/-- The lane-cycles of the harmonic feed in one round (R220). -/
def State.feedCost (s : State) : Nat :=
  440 * ((List.range s.nChan).filter fun c => s.sampled c && s.harmEnabled c).length

/-- The slice list of a round with the lane-cycles that each slice still needs (R217): carried slices in the order they were due,
takeback recomputations in the order of their triggers, channels, points that are not held, and the harmonic feed. -/
def State.sliceList (s : State) : List (Slice × Nat) :=
  let feed := s.feedCost
  (s.engine.carried.map fun x => (x.slice, x.left))
    ++ (s.engine.redo.map fun x => (Slice.redo x.1 x.2, s.redoCost x.1 x.2))
    ++ (((List.range s.nChan).filter s.sampled).map fun c => (Slice.chan c, s.chanCost c))
    ++ ((s.boundPoints.filter fun m => !(s.point m).heldFree).map fun m => (Slice.point m, s.pointCost m))
    ++ if feed = 0 then [] else [(Slice.feed, feed)]

/-- The lane in service that falls idle first, the lowest-numbered of several (R217). -/
def firstIdle (on : List Nat) (busy : List Nat) : Option Nat :=
  on.foldl (fun (best : Option Nat) n => match best with
    | none => some n
    | some k => if busy.getD n 0 < busy.getD k 0 then some n else some k) none

/-- A slice given to a lane: the lane-cycles at which it begins and ends. -/
structure Placed where
  slice : Slice
  cost : Nat
  start : Nat
  fin : Nat
  deriving DecidableEq, Repr

/-- The dispatch of a slice list (R217): each slice goes to the lane that falls idle first. With no lane in service nothing runs. -/
def dispatch (on : List Nat) (budget : Nat) : List (Slice × Nat) → List Nat → List Placed × List Nat
  | [], busy => ([], busy)
  | (x, cost) :: r, busy =>
    match firstIdle on busy with
    | none =>
      let y := dispatch on budget r busy
      ({ slice := x, cost := cost, start := budget, fin := budget + max 1 cost } :: y.1, y.2)
    | some n =>
      let t := busy.getD n 0
      let y := dispatch on budget r (upd busy n fun _ => t + cost)
      ({ slice := x, cost := cost, start := t, fin := t + cost } :: y.1, y.2)

/-- The lane-cycles of one lane in a round: 2 ms of the engine clock in force (R216, R223). -/
def State.roundBudget (s : State) : Nat := 2 * pointKhz s.engine.clockPoint

/-- The lanes in service. -/
def State.lanesIn (s : State) : List Nat := (List.range 8).filter fun n => !(s.lane n).retired

/-- A slice that has not finished at the boundary: the lanes do not reach its end, or the round names it, as when a flushed prefetch
delays it (R218, R225). -/
def Placed.late (x : Placed) (budget : Nat) (a : RoundInput) : Bool :=
  decide (budget < x.fin) || match x.slice with
    | .chan c => a.lateChans.contains c
    | .point m => a.latePoints.contains m
    | _ => false

/-- The lane-cycles that an unfinished slice still needs. Of one that only the round names none counts as done: DESIGN CHOICE, log
entry 168. -/
def Placed.left (x : Placed) (budget : Nat) : Nat := if x.fin ≤ budget then x.cost else min x.cost (x.fin - budget)

/-! ## Flag falls (R225, R226) -/

/-- The words of the staging buffer that are left as the carry area (R225). -/
def State.carryRoom (s : State) : Nat := 360448 - s.stagingUsed

/-- The words of the slots that a carried slice of a channel has not yet read, in the form of its island (R197, R225): of 256 slots the
share of its lane-cycles that is left. -/
def State.carryWords (s : State) (c cost left : Nat) : Nat :=
  let slots := if cost = 0 then 256 else min 256 (ceilDiv (256 * left) cost)
  if (s.isl (c / 64)).compressed then 9 * ceilDiv slots 8 else 2 * slots

/-- The outputs of a channel with stamps in a span are missing (R226): they are excluded. -/
def State.missing (s : State) (c from_ upTo : Nat) : State :=
  let p := s.chanPeriod c
  let kept := if (s.chan c).set.single then 96 else 5120 / p
  s.onChan c fun h => { h with
    outs := ((stampsIn p from_ upTo).foldl (fun l t => ({ stamp := t, settle := true } : Out) :: l) h.outs).take kept }

/-- Both slices of a channel abandoned (R226): the outputs up to a slot are missing, and the channel restarts there. -/
def State.abandon (s : State) (c fin : Nat) : State :=
  ((((s.takeSamples c s.now).missing c (s.chan c).outAt fin).restartChan c fin false)).onEngine fun e => { e with
    abandoned := incSat 32 (incSat 32 e.abandoned) }

/-- The slice of a channel that finishes in its round. -/
def State.channelSlice (s : State) (c : Nat) : State :=
  let from_ := (s.chan c).outAt
  if s.now ≤ from_ then s
  else (s.runSlice c from_ s.now).onChan c fun h => { h with outAt := s.now }

/-- What the channel slices of a round leave: the state, the words of the carry area in use, the carried slices and the channels
abandoned, in order. -/
structure SliceAcc where
  s : State
  used : Nat := 0
  carried : List Carried := []
  gone : List Nat := []

/-- The slices of one channel (R217, R225, R226): finished, carried, or abandoned after a second miss or for want of room. `old` tells
that the slice of the round before was carried. -/
def SliceAcc.chan (x : SliceAcc) (c : Nat) (old : Bool) (late : Option (Nat × Nat)) : SliceAcc :=
  match late with
  | none => { x with s := x.s.channelSlice c }
  | some (cost, left) =>
    let w := x.s.carryWords c cost left
    if old then { x with s := x.s.abandon c x.s.now, gone := x.gone ++ [c] }
    else if x.used + w ≤ x.s.carryRoom then
      { x with used := x.used + w, carried := x.carried ++ [{ slice := .chan c, left := left, words := w }] }
    else { x with s := x.s.abandon c (x.s.now + 256), gone := x.gone ++ [c] }

/-- The channel slices of a round among the placed ones that are late. -/
def State.channelSlices (s : State) (late : List (Placed × Nat)) : SliceAcc :=
  let old := s.engine.carried
  (List.range s.nChan).foldl (fun x c =>
    if !s.sampled c then x
    else x.chan c (old.any fun y => y.slice == .chan c)
      ((late.find? fun y => y.1.slice == .chan c).map fun y => (y.1.cost, y.2))) { s := s }

/-- The flag falls of a second counted, and EV_FLAG_FALL at the first boundary after it (R226). With no channel abandoned the
first channel is not stated. -/
def State.flagFall (s : State) (fell : Bool) (gone : List Nat) : State :=
  let sec := (s.now - 1) / slotsPerS
  let e := s.engine
  let s :=
    if decide (e.ffSecond < sec) && decide (0 < e.ffRounds) then
      let (v, s') := s.draw
      let s := if e.ffChans = 0 then s' else s
      s.raise 20 0 0 (le 4 e.ffRounds ++ le 4 e.ffChans ++ le 2 (if e.ffChans = 0 then v else e.ffFirst))
    else s
  let s := if e.ffSecond < sec then
      s.onEngine fun e => { e with ffSecond := sec, ffRounds := 0, ffChans := 0, ffFirst := 0 } else s
  if !fell then s
  else s.onEngine fun e => { e with
    flagFalls := incSat 32 e.flagFalls, ffRounds := e.ffRounds + 1, ffChans := e.ffChans + gone.length
    ffFirst := if e.ffChans = 0 then gone.headD e.ffFirst else e.ffFirst }

/-- The crossings of one voltage channel in the outputs from a stamp on, with their items and the cycles they open (R227,
R275 to R278): the state and the slots at which cycles open. -/
def State.crossChannel (s : State) (c from_ : Nat) : State × List Nat :=
  let no := (s.chan c).cycleNo + 1
  let x := s.crossings c from_ s.now
  let s := x.items.foldl State.sendItem (s.onChan c fun _ => x.h)
  (s.pointEvents (s.pointsLed c) no x.evs, standing x.evs)

/-- The crossings of every voltage channel; `froms` are the channels' first new stamps. -/
def State.crossAll (s : State) (froms : List Nat) : State × List (Nat × Nat) :=
  (List.range s.nChan).foldl (fun x c =>
    if (x.1.chan c).set.role = 1 then
      let y := x.1.crossChannel c (froms.getD c 0)
      (y.1, x.2 ++ y.2.map fun t => (c, t))
    else x) (s, [])

/-- The cycles that have come to stand judged for every bound channel that they gate (R170): `ends` are the voltage channels and
slots. -/
def State.flagAll (s : State) (ends : List (Nat × Nat)) : State :=
  (List.range s.nChan).foldl (fun s c =>
    if !s.sampled c then s
    else match s.gateRef c with
      | some v => (ends.filter fun o => o.1 == v).foldl (fun s o => s.flagCycle c o.2) s
      | none => s) s

/-- The point slices of a round: those that are late wait, their points' carried ones too (R217, R225). -/
def State.pointSlices (s : State) (late : List Nat) : State :=
  s.boundPoints.foldl (fun s m => if late.contains m then s else s.pointSlice m) s

/-- The takeback recomputations of a round that finish in it (R217, R233). -/
def State.redoSlices (s : State) (placed late : List Placed) : State :=
  placed.foldl (fun s x => match x.slice with
    | .redo m n => if late.any fun y => y.slice == x.slice then s else s.redoSlot m n
    | _ => s) s

/-- The unfinished slices of a round in the order they were due (R225): those of channels as their own rule leaves them. -/
def carriedOn (late : List (Placed × Nat)) (chans : List Carried) : List Carried :=
  late.filterMap fun x => match x.1.slice with
    | .chan c => chans.find? fun y => y.slice == .chan c
    | k => some { slice := k, left := x.2 }

/-- What follows from the outputs of a round's channel slices: the crossings, the point slices but those that are late, the triggers
and steps, and the detectors. `froms` are the channels' first new stamps. -/
def State.afterSlices (s : State) (a : RoundInput) (froms : List Nat) (late : List Placed) : State :=
  let (s, opens) := s.crossAll froms
  let s := s.pointSlices (late.filterMap fun x => match x.slice with
    | .point m => some m
    | _ => none)
  let s := (List.range s.nChan).foldl (fun s c => if s.sampled c then s.poisonTrigger c (froms.getD c 0) else s) s
  let s := (s.stepsDue.flagAll opens).onEngine fun e => { e with runAhead := s.now }
  s.detectAll a

/-- The slice list of a round and all that follows from its outputs (R217). At S_stop every slice finishes (`final`, R77). -/
def State.sliceWork (s : State) (a : RoundInput) (final : Bool := false) : State :=
  let froms := s.channels.map fun h => h.outAt
  let budget := s.roundBudget
  let placed := dispatch s.lanesIn budget s.sliceList (List.replicate 8 0)
  let late := if final then [] else (placed.1.filter fun x => x.late budget a).map fun x => (x, x.left budget)
  let x := (s.redoSlices placed.1 (late.map fun x => x.1)).channelSlices late
  let s := x.s.onEngine fun e => { e with
    carried := carriedOn late x.carried, redo := [], busy := placed.2.map fun t => min t budget }
  (s.flagFall (!late.isEmpty) x.gone).afterSlices a froms (late.map fun x => x.1)

/-- The samples of a round delivered, and its slice list. -/
def State.slices (s : State) (a : RoundInput) (final : Bool := false) : State :=
  (s.deliverAll a).sliceWork a final

/-! ## The hand-over of parameter sets (R35) -/

/-- A change of CH_ROLE at the round boundary (R35, R187, R208): an island step, with check state, crossings and detectors
begun afresh. -/
def State.changeRole (s : State) (c : Nat) (v : BitVec 32) : State :=
  let old := (s.chan c).set.role
  if bits v.toNat 0 3 = old then s
  else
    let s := if old = 1 then s.endEvents 16 c else s
    let s := ((s.putChan c 0 v).captureChanged c).restartChan c s.now true
    let s := s.onChan c fun h => { h with
      pol := .none, provisional := none, marks := [], lastCross := none, period := 0, noCross := false, nextGate := 0
      halfAcc := {}, prevHalf := {}, cycAcc := {}, winAcc := {}, secAcc := {}, winCycles := 0, winOuts := [], winStart := 0, winMarks := []
      winHarm := false, detMarks := 0, detFull := false, detAt := s.now, cycVals := [], flagRuns := [], flagFrom := none
      flaggedPrev := false, settleAhead := none, gates := [] }
    s.resetCheck c

/-- The LEGAL_REBASE records of a sealed move that changes EN_LEGAL_FORMAT (R262). -/
def State.legalRebase (s : State) (old new : Nat) : State :=
  s.boundPoints.foldl (fun s m =>
    let part := fun i =>
      let t := (s.point m).reg.getD i 0
      let a := legalOf old t
      let b := legalOf new t
      le 8 a.1 ++ le 2 a.2 ++ le 8 b.1 ++ le 2 b.2
    s.note s.now 0x46 2 m (le 1 m ++ part 0 ++ part 1)) s

/-- CAP_SERVICE written (R493). -/
def State.capServiceWritten (s : State) (on : Bool) : State :=
  let s := s.setPar 0x6C3 (if on then 1 else 0)
  if on then
    let s := s.onPower fun p => { p with ckptNow := true }
    if s.power.health = .absent then s
    else (s.onPower fun p => { p with health := .absent }).raise 61 0 0 []
  else s.onPower fun p => { p with test := if p.test = .running then .running else .waiting, testSince := s.now }

/-- Every voltage channel's running events end (R282). -/
def State.endAllEvents (s : State) : State :=
  (List.range s.nChan).foldl (fun s c => if (s.chan c).set.role = 1 then s.endEvents 16 c else s) s

/-- The new line rate of P1 takes effect when no reply that may be the reply to its write is left to send (R126). -/
def State.applyRate (s : State) : State :=
  if s.ports.any fun q => q.replies.any fun r => r.baud || r.wait == .round then s
  else s.onPort 1 fun p => { p with baud := p.baudNext.getD p.baud, baudNext := none }

/-- An item of no channel takes effect, with what its owning chapter attaches to the change; `move` tells that its set is a
sealed move. -/
def State.applyPid (s : State) (pid : Nat) (v : BitVec 32) (move : Bool) : State :=
  let old := s.parN pid
  let s := if pid = 0x6C3 then s else s.setPar pid v
  match islandPid pid with
  | some (n, p) => if p = 8 then s.onIsland n fun i => { i with compressed := v.toNat == 0 } else s
  | none =>
    if pid = 0x201 ∨ pid = 0x202 then (if old = v.toNat then s else s.endAllEvents)
    else if 0x308 ≤ pid ∧ pid ≤ 0x30F then s.intervalWritten (pid - 0x308) v.toNat
    else if 0x310 ≤ pid ∧ pid ≤ 0x315 then s.rewriteTable
    else if 0x680 ≤ pid ∧ pid ≤ 0x69F then s.thermIdle
    else match pid with
      | 0x12 => s.onCp fun c => { c with watchdogNext := 100 * v.toNat }
      | 0x13 => s.onCp fun c => { c with xtalNext := v.toNat }
      | 0x23 => (s.onPort 1 fun p => { p with baudNext := some v.toNat }).applyRate
      | 0x141 => s.onEngine fun e => { e with startOld := old, startAt := s.now }
      | 0x140 => if move && old != v.toNat then s.legalRebase old v.toNat else s
      | 0x300 => if old = v.toNat then s else s.onTariff fun t => { t with zoneAt := some s.now }
      | 0x600 => s.inputsChanged
      | 0x6C3 =>
        let s := s.capServiceWritten (v.getLsbD 0)
        if v.getLsbD 1 then s.onPower fun p => { p with vbatReq := true } else s
      | _ => s

/-- Whether an item stays with its channel after the hand-over: corrections, delay, filter, mode and full-scale value. -/
def EffItem.staysWithChannel (i : EffItem) : Bool :=
  match i.chan? with
  | some (_, p) => within 1 5 p || p == 8
  | none => false

/-- One item at the hand-over; `roles` selects the changes of role, which come first. -/
def State.applyItem (roles : Bool) (s : State) (e : Effect) : State :=
  match e.item with
  | .bank n t k cs => if roles then s else s.loadBank n t k cs
  | .fs _ _ => s
  | .pid pid v =>
    match chanPid pid with
    | some (c, 0) => if roles then s.changeRole c v else s
    | some (_, 6) => if roles then s else s.setPar pid v
    | some _ => s
    | none => if roles then s else s.applyPid pid v e.sealMove

/-- Whether the clock in force holds the projected load at 85 % (R222): always without the loop. -/
def State.loopReady (s : State) : Bool := !s.hasAdapt || s.pointHolds s.configured.load s.engine.clockPoint

/-- Whether a set must wait for the adaptive loop (R222): it raises the load, and the clock in force does not hold it yet. -/
def State.loopHolds (s : State) : Bool := decide (s.load < s.configured.load) && !s.loopReady

/-- The sets committed since the last boundary are handed over (R35). -/
def State.handOver (s : State) : State :=
  let es := s.engine.effects.filter fun e => e.handed.isNone
  if es.isEmpty then s
  else if s.loopHolds then s
  else
    let s := es.foldl (State.applyItem false) (es.foldl (State.applyItem true) s)
    let mark := fun (e : Effect) => if e.handed.isNone then { e with handed := some s.now } else e
    let left := fun (e : Effect) => e.handed != some s.now || e.item.staysWithChannel
    let s := s.onEngine fun x => { x with effects := (x.effects.map mark).filter left }
    (List.range s.nChan).foldl (fun s c => if meteringRole (s.chan c).set.role then s else s.stepDue c) s

/-! ## The boundary itself (R495) -/

/-- Alarm words, relay commands, credit policies and arms of a boundary, with one evaluation of every relay (R357 to R359, R417,
R495). -/
def State.relaysDue (s : State) : State :=
  let due := s.dueAlarms
  let cs := s.relays.commands
  let ps := s.relays.policies
  let ms := s.relays.arms
  let s := (s.applyAlarms due).onRelays fun x => { x with commands := [], policies := [], arms := [] }
  let s := (ps.foldl State.applyPolicy (s.applyRelayCommands cs)).applyArms ms
  ((s.evalRelays (cs.map fun c => c.mp)).answerRelayCommands cs).alarmRecords due

/-- What requests of the control plane take effect at the boundary. -/
def State.requestsDue (s : State) : State :=
  let s := s.applyDemandResets.applySetTimes.applyPulses
  let s := s.onClock fun c => { c with slew := c.slew + c.slewNext, slewNext := 0 }
  let s := s.judgeDegradation.applyModes.applyDebug.openDueAll.pruneCloses
  s.finishUnbinds.settleRemaps.thermIdle

/-- Bindings and bank loads that wait for the loop (R222): once the clock in force holds the load, a binding starts at the first round
boundary after its reply (R248), and a reloaded bank is switched to from this boundary on (R207). -/
def State.loopDue (s : State) : State :=
  if s.loopReady then
    let fin := s.nextRound
    let s' := s.engine.loopBinds.foldl (fun s x =>
      let s := s.onPoint x.1 fun p => { p with bind := p.bind.map fun b => { b with start := fin, time := s.timeOf fin } }
      let s := match (s.point x.1).bind with
        | some b => s.gateFrom b
        | none => s
      s.onWaiting x.2 .round fun r => { r with payload := r.payload.take 8 ++ sample8 fin, wait := .none }) s
    s'.onEngine fun e => { e with
      loopBinds := [], banks := e.banks.map fun b => if b.waits then { b with waits := false, from_ := s.now } else b }
  else s.onEngine fun e => { e with
    banks := e.banks.map fun b => if b.waits then { b with from_ := s.now + 1 } else b }

/-- Lanes, islands, admission, the loop and degradation at the boundary (R224, R241, R242). -/
def State.resourcesDue (s : State) (short : Bool) : State :=
  let s := s.lanesDue.islandsDue.loopDue
  let s := if s.islands.any fun i => i.dropped then s.reAdmit s.load false else s
  (s.adapt short).judgeDegradation

/-- The round boundary at the slot that the clock shows (R217, R495). The commit unit writes the index as a provisional S_stop
(R89). -/
def State.roundBoundary (s : State) (a : RoundInput) : State :=
  let s := (s.slices a).handOver
  let s := s.boundPoints.foldl State.boundSlots s
  let s := if s.storeOn then s.requestsDue.relaysDue.settleSets else s
  let s := ((s.resourcesDue a.short).roundSeconds).askVerifications.mirrorSlots
  (s.onMode fun m => { m with sStop := s.now }).onClock fun c => { c with periodsAt := c.periods }

/-- The clock brought to the next round boundary and the boundary run; while the reference is lost the index advances with the
32.768 kHz clock, and a boundary is due when it has passed one (R21). -/
def State.nextBoundary (s : State) (a : RoundInput) : State :=
  if s.metering = false then s
  else if s.clock.refLost then
    let t := s.now / 256 * 256
    if t ≤ s.engine.runAhead then s
    else
      let old := s.now
      ((s.onClock fun c => { c with slot := t }).roundBoundary a).onClock fun c => { c with slot := old }
  else (s.onClock fun c => { c with slot := s.nextRound }).roundBoundary a

/-! ## REFERENCE_WINDOW (R21) -/

/-- Reference loss declared (R21, R183, R239). -/
def State.declareLoss (s : State) : State :=
  let s := s.onClock fun c => { c with refLost := true, refGood := 0 }
  let s := s.boundPoints.foldl (fun s m =>
    (s.setCause m 2).onPoint m fun p => { p with slots := p.slots.map fun x =>
      if x.close.isNone then { x with held := x.held ||| 4, contribs := [] } else x }) s
  let s := (List.range s.nIsl).foldl State.haltSeconds s
  let s := if s.mode.mode.responding then s.requestMode { target := .degraded, cause := 3 } else s
  s.raiseAlarm 10 0

/-- The reference restored (R21): the islands restart as after a configuration step. -/
def State.restoreReference (s : State) : State :=
  let s := s.onClock fun c => { c with refLost := false, refGood := 0 }
  let s := (List.range s.nIsl).foldl (fun s n => if s.islOn n then s.restartIsland n else s) s
  let s := s.boundPoints.foldl (fun s m => s.dropCause m 2) s
  s.clearAlarm 10 0

/-- REFERENCE_WINDOW (R21): one window of 32 periods of the 32.768 kHz clock, with its count of reference periods. The RTC runs
on any supply; the count means nothing while the reference is off. -/
def execReferenceWindow (count : Nat) (s : State) : Host.Outcome State Fault Refusal :=
  .next (if s.power.src = .none then s
    else
      let s := s.onClock Clock.window
      if s.metering = false then s
      else
        let good := within 15840 16160 count
        if s.clock.refLost then
          let s := s.onClock fun c => { c with slot := c.slot + 125, refGood := if good then c.refGood + 1 else 0 }
          if 1000 ≤ s.clock.refGood then s.restoreReference else s
        else if good then s else s.declareLoss)

end Sys2Proof.Machine
end

