-- ==== Sys2Proof/Machine/Layout.lean ====
section
/-! DEFINITION. Where the store writer puts a record (R366, R368, R379), the byte layouts of the privileged records that the spec lays
out, and the retention SRAM with its error correction (R38, R83). -/
namespace Sys2Proof.Machine

/-! ## Privileged records (R81, R322, R380, R381) -/

/-- The byte RELAY of a point record (R380). -/
def Ledger.relayCode (l : Ledger) : Nat :=
  (match l.recon with
    | .closed => 0
    | .opened => 1
    | .awaitArm => 2)
  + 4 * b2n l.openLocked
  + 8 * (match l.override with
    | .none => 0
    | .forceOpen => 1
    | .forceClose => 2)

/-- Offsets 512 to 751 of a point record: the ledger (R380). -/
def Ledger.bytes (l : Ledger) : List Byte :=
  leI 8 l.credit ++ le 4 l.deductRem ++ le 4 l.policy.toNat ++ le 4 l.low1 ++ le 4 l.low2 ++ le 4 l.low3 ++ le 4 l.ecLimit
    ++ le 4 l.daily ++ le 8 l.creditMax ++ le 8 l.ecL ++ le 1 l.ec.num ++ le 1 l.relayCode ++ le 2 l.trips ++ le 4 l.wLim
    ++ le 4 l.h ++ le 128 l.bitmap.toNat ++ le 4 l.lastSerial ++ le 1 l.lastClass ++ zeros 3 ++ leI 8 l.lastTime
    ++ leI 4 l.lastDay ++ sample8 l.overrideEnd ++ sample8 l.lockEnd ++ le 1 l.lockJ ++ zeros 3 ++ sample8 l.lockPrev

/-- The 768 bytes of a point record (R380). -/
def PointRec.bytes (m : Nat) (r : PointRec) : List Byte :=
  framed (le 2 0xA1 ++ le 2 768 ++ le 4 r.seq ++ le 1 m ++ le 1 r.cause ++ zeros 2 ++ le 4 r.bindSeq ++ sample8 r.sample
    ++ ((List.range 29).map fun i => le 8 (r.reg.getD i 0)).flatten
    ++ ((List.range 13).map fun i => le 4 (r.residue.getD i 0)).flatten ++ le 4 r.demandAcc
    ++ ((List.range 15).map fun i => le 4 (r.history.getD i (0, 0)).1).flatten
    ++ ((List.range 15).map fun i => le 1 (r.history.getD i (0, 0)).2).flatten ++ le 1 r.subClosed
    ++ ((List.range 9).map fun i => le 4 (r.maxDem.getD i (0, 0)).1 ++ le 4 (r.maxDem.getD i (0, 0)).2).flatten
    ++ le 4 r.e1 ++ le 4 r.pseq ++ le 4 r.pend ++ le 4 r.estCycles ++ le 4 r.cycle ++ le 4 r.pmark ++ le 4 r.sseq
    ++ zeros 24 ++ r.ledger.bytes ++ zeros 8)

/-- The 64 bytes of an adjournment marker (R81). -/
def Marker.bytes (k : Marker) : List Byte :=
  framed (le 2 0xAD ++ le 2 64 ++ le 4 k.run ++ sample8 k.sStop ++ time6 k.timeStop ++ zeros 2 ++ le 1 k.mode.num ++ le 1 k.cause
    ++ le 1 k.boundaries ++ zeros 1 ++ le 4 k.regRecords ++ le 4 k.eventRecords ++ le 2 k.handles ++ le 2 k.vholdMv
    ++ le 2 k.energyUj ++ le 2 k.cUf ++ zeros 12)

/-- The 64 bytes of a run record (R381). -/
def RunRec.bytes (r : RunRec) : List Byte :=
  framed (le 2 0xBE ++ le 2 64 ++ le 4 r.run ++ sample8 r.firstSample ++ time6 r.time ++ zeros 2 ++ le 1 r.outcome
    ++ le 1 r.mode.num ++ le 2 r.torn ++ le 4 r.prevRun ++ zeros 24)

/-- The 64 bytes of a boundary commit record (R322). -/
def BcRec.bytes (b : BcRec) : List Byte :=
  framed (le 2 0xBC ++ le 2 64 ++ le 4 b.seq ++ sample8 b.instant ++ time6 b.time ++ zeros 2 ++ sample8 b.exec
    ++ ((List.range 4).map fun p => le 1 (b.kinds.getD p 0)).flatten ++ ((List.range 4).map fun p => le 1 (b.states.getD p 0)).flatten
    ++ le 2 b.flags ++ le 2 b.points ++ le 2 b.snapshots ++ zeros 10)

/-- The bytes of a record as the writer writes them; none for a record to which the spec gives no layout (log entry 25). -/
def StoreRec.bytes : StoreRec → Option (List Byte)
  | .point m r => some (r.bytes m)
  | .marker k _ => some k.bytes
  | .run r _ => some r.bytes
  | .boundary b _ => some b.bytes
  | .profile _ _ p => some p.bytes
  | .snapshot x => some x.bytes
  | .event r => some r.bytes
  | .signature _ _ bs | .image _ _ _ bs | .host _ bs => some bs
  | .relay _ _ | .pqCount _ _ | .sequencer _ | .sealState _ | .evidence _ _ | .device _ | .handles _ => none

/-! ## Places in the store (R368, R379, R383, R385, R386) -/

/-- The address that the next write of a dual-copy record takes (R377): copy A, or copy B so many bytes above it. -/
def Dual.place {α : Type} (d : Dual α) (a gap : Nat) : Nat := if d.lastB then a else a + gap

/-- The address at which the next write of a record places it. The list of outstanding handles has no place that the spec names. -/
def State.place (s : State) : StoreRec → Option Nat
  | .point m _ => some ((s.store.points.getD m {}).place (0x06800000 + 2048 * m) 1024)
  | .relay m _ => some ((s.store.relayRecs.getD m {}).place (0x06880000 + 128 * m) 64)
  | .pqCount m _ => some ((s.store.pqRecs.getD m {}).place (0x06888000 + 128 * m) 64)
  | .sequencer _ => some (s.store.seqRec.place 0x06890000 0x800)
  | .sealState _ => some (s.store.sealRec.place 0x06891000 0x800)
  | .evidence _ _ => some (s.store.evidRec.place 0x06892000 0x800)
  | .device _ => some (s.store.deviceRec.place 0x06893000 0x1000)
  | .marker k second => some (0x068A0000 + 0x4000 * b2n second + 64 * (k.run % 256))
  | .run r second => some (0x068A8000 + 0x4000 * b2n second + 64 * (r.run % 256))
  | .boundary b second => some (0x06900000 + 0x80000 * b2n second + 64 * (b.seq % 8192))
  | .profile m q _ => some (16 * s.ringLen * m + 16 * (q % s.ringLen))
  | .snapshot x => some (0x06000000 + 12800 * x.mp + 512 * (x.sseq % 25))
  | .event r => some (0x05000000 + 32 * (r.seq % 524288))
  | .signature m q _ => some (0x06320000 + 8192 * m + 4096 * (q % 2))
  | .image g k off _ => some ((if g = 0 then 0x06C00000 + 0x400000 * k else 0x07400000 + 0x80000 * k) + off)
  | .host off _ => some (0x07D00000 + off)
  | .handles _ => none

/-! ## The retention SRAM (R38, R83, R260, R441, R442) -/

/-- The 192 bytes of a point's block (R260). -/
def Point.block (p : Point) : List Byte :=
  le 4 p.seqBase ++ ((List.range 29).map fun i => le 4 (p.delta.getD i 0)).flatten
    ++ ((List.range 13).map fun i => le 4 (p.residue.getD i 0)).flatten ++ leI 4 p.ledger.delta ++ le 4 p.ledger.deductRem
    ++ le 4 p.demandAcc ++ le 4 p.pendImp ++ le 4 p.pendExp

/-- The 32 bytes of an entry of the backup alarm buffer (R441); one that is not valid lacks its VALID word. -/
def BufEntry.bytes (e : BufEntry) : List Byte :=
  let body := le 1 e.type ++ le 1 e.evid ++ zeros 2 ++ leI 6 e.time ++ zeros 2 ++ le 8 e.periods ++ le 4 e.data
  if e.valid then framed body else body ++ zeros 8

/-- The 256 bytes from 0xC800: pending increments and pending alarm responses (R421, R442). -/
def Tamper.pendingBytes (t : Tamper) : List Byte :=
  ((List.range 16).map fun i => le 1 (t.pendInc.getD i 0)).flatten ++ zeros 112 ++ le 4 t.pendMask.toNat ++ le 2 t.pendWord
    ++ zeros 10 ++ le 4 t.total ++ zeros 108

/-- The 1 792 bytes from 0xC900: balance-group and device-wide deltas (R83). The order of the fields is the model's: DESIGN CHOICE, log
entry 175. -/
def State.deviceDeltas (s : State) : List Byte :=
  let groups := (List.range 16).map fun g =>
    let x := s.groups.getD g {}
    leI 6 x.windowEnd ++ le 1 x.flags ++ zeros 1
      ++ leI 8 (s.points.map fun p => ((p.balance.filter fun b => b.1 == g).map fun b => b.2).sum).sum
  padTo 1792 (groups.flatten ++ le 4 s.power.adjCount ++ le 4 s.power.incompleteCount)

/-- The 1 024 bytes from 0xD000: the resumption context (R83). The order of the fields is the model's: DESIGN CHOICE, log entry 175. -/
def State.context (s : State) : List Byte :=
  padTo 1024 (le 4 s.clock.run ++ sample8 s.mode.sStop ++ le 8 (s.clock.periods - s.clock.periodsAt) ++ le 2 s.mode.ctxCUf
    ++ le 2 s.mode.ctxVadjMv ++ le 1 s.mode.ctxHealth.num ++ le 1 s.mode.before.num)

/-- The word at a word address of the retention SRAM (R83). -/
def State.sramWord (s : State) (w : Nat) : Nat :=
  let a := 4 * w
  if a < 0xC000 then fld (s.point (a / 192)).block (a % 192) 4
  else if a < 0xC800 then
    match s.tamper.buffer[(a - 0xC000) / 32]? with
    | some e => fld e.bytes (a % 32) 4
    | none => 0
  else if a < 0xC900 then fld s.tamper.pendingBytes (a - 0xC800) 4
  else if a < 0xD000 then fld s.deviceDeltas (a - 0xC900) 4
  else if a < 0xD400 then fld s.context (a - 0xD000) 4
  else 0

/-! ## SECDED over each 32-bit word (R38) -/

/-- The code positions of the 32 data bits: 3 to 38 without the powers of two. The choice of the code is the model's: DESIGN CHOICE,
log entry 175. -/
def eccPositions : List Nat := (List.range 39).filter fun k => decide (2 < k) && k != 4 && k != 8 && k != 16 && k != 32

/-- The exclusive or of the positions of the data bits that are set. -/
def eccSyndrome (d : Nat) : Nat :=
  (List.zip eccPositions (List.range 32)).foldl (fun x e => if d.testBit e.2 then x ^^^ e.1 else x) 0

/-- The 7 check bits of a word: the syndrome and the overall parity. -/
def eccCheck (d : Nat) : Nat :=
  let y := eccSyndrome d
  y + 64 * b2n (parity d 32 != parity y 6)

/-- A word read with its check bits: single errors are corrected, and two errors are found (none). -/
def eccRead (d c : Nat) : Option Nat :=
  let y := eccSyndrome d ^^^ c % 64
  if parity d 32 = parity c 7 then (if y = 0 then some d else none)
  else match (List.zip eccPositions (List.range 32)).find? fun e => e.1 == y with
    | some e => some (d ^^^ 2 ^ e.2)
    | none => some d

/-- A word of the retention SRAM as it is read while bits of it are inverted: 0 to 31 data, 32 to 38 check bits. -/
def State.sramRead (s : State) (w : Nat) (flips : List Nat) : Option Nat :=
  let d := s.sramWord w
  let x := flips.foldl (fun v i => v ^^^ 2 ^ i) (d + 2 ^ 32 * eccCheck d)
  eccRead (x % 2 ^ 32) (x / 2 ^ 32)

end Sys2Proof.Machine
end

