-- ==== Sys2Proof/Machine/Power.lean ====
section
/-! DEFINITION. Supply (R62 to R75, R92): power failure, ride-through, the hold-up health test, the cell, the reduction of work for
temperature, and the adjournment (R76 to R82). -/
namespace Sys2Proof.Machine

/-! ## The health test (R67 to R71) -/

/-- A running test discarded: the sink turns off, and the test is retried once its conditions hold (R68, R71). -/
def State.discardTest (s : State) : State :=
  if s.power.test ≠ .running then s
  else
    let s := match s.power.testOp with
      | some o => s.finish o .abortedPower 0 0
      | none => s
    s.onPower fun p => { p with test := .waiting, testSince := s.now, testOp := none }

/-- HOLDUP_TEST (R71). -/
def cmdHoldupTest (s : State) (r : Request) : Except Deny State := do
  len r 0
  needPriv s r 0x0A05
  modeAll s
  need (s.power.test == .idle && !s.capService) .resourceBusy
  match s.accept r 0x0A05 with
  | none => .error { status := .noHandle }
  | some (s, o) => .ok (s.onPower fun p => { p with test := .waiting, testSince := s.now, testOp := some o })

/-- Whether a test is due: asked for, or 24 h after the previous one (R67). -/
def State.testDue (s : State) : Bool :=
  s.power.test == .waiting || (s.power.test == .idle && decide (s.power.lastTest + 86400 * slotsPerS ≤ s.now))

/-- The conditions of step 1 of R67. -/
def State.testAllowed (s : State) : Bool :=
  let p := s.power
  decide (11000 ≤ p.vmainMv) && decide (11000 ≤ p.vholdMv) && !p.pfail && !p.lean
    && match p.lastPfail with
      | some t => decide (t + 60 * slotsPerS ≤ s.now)
      | none => true

/-- HEALTH_TEST_START (R67): the conditions of a due test are checked; its operation is given up after 60 s (R71). -/
def execHealthTestStart (vmain vhold : Nat) (s : State) : Host.Outcome State Fault Refusal :=
  .next (
    let s := s.onPower fun p => { p with vmainMv := vmain, vholdMv := vhold }
    if !(s.mode.mode.responding && s.testDue && !s.capService) then s
    else if s.testAllowed then
      let s := s.onPower fun p => { p with test := .running }
      match s.power.testOp with
      | some o => s.commitOp o
      | none => s
    else match s.power.testOp with
      | some o =>
        if s.power.testSince + 60 * slotsPerS ≤ s.now then
          (s.onPower fun p => { p with test := .idle, testOp := none }).finish o .abortedPower 0 0
        else s
      | none =>
        if s.power.test = .waiting then s else s.onPower fun p => { p with test := .waiting, testSince := s.now })

/-- C_measured of a test in uF (R67), rounded to the nearest, ties to even, and saturated at 16 bits. The quotient does not exist
where V_a is not above V_b: the value is then 65 535. DESIGN CHOICE, log entry 172. -/
def measuredUf (m : HealthMeasure) : Nat :=
  if m.vaUv ≤ m.vbUv then 65535 else satN 16 (roundDivN ((100000 + m.idevUa) * 4500) (m.vaUv - m.vbUv))

/-- The health state of a completed test: the first matching row of R69. -/
def healthOf (c esr drop : Nat) : Health :=
  if c < 100 ∨ 4000000 < drop then .absent
  else if 132250000 < vAdjSq c then .insufficient
  else if c < 1500 ∨ 300 < esr then .unhealthy
  else .healthy

/-- HEALTH_TEST_COMPLETE (R67, R69, R71). The ESR is rounded and saturated as C_measured is, and R69 and V_ADJ use the rounded values:
DESIGN CHOICE, log entry 172. -/
def execHealthTestComplete (m : HealthMeasure) (s : State) : Host.Outcome State Fault Refusal :=
  .next (
    if s.power.test ≠ .running then s
    else
      let c := measuredUf m
      let esr := satN 16 (roundDivN m.stepUv 100)
      let h := healthOf c esr (m.vaUv - m.vbUv)
      let old := s.power.health
      let op := s.power.testOp
      let s := s.onPower fun p => { p with
        test := .idle, testOp := none, health := h, cUf := c, esrMohm := esr, healthTime := secondsOf s.time, lastTest := s.now }
      let s := if h = old then s else s.raise 61 0 0 []
      match op with
      | some o => s.finish o .ok 0 0
      | none => s)

/-- CAP_SERVICE (R493). -/
def execCapService (on : Bool) (s : State) : Host.Outcome State Fault Refusal :=
  .next (if s.mode.mode.responding then s.capServiceWritten on else s)

/-! ## The cell (R92, R426) -/

/-- A measurement of VBAT: its alarm of type 12. -/
def State.vbatMeasured (s : State) (mv : Nat) : State :=
  let s := s.onPower fun p => { p with vbatMv := mv, vbatAt := s.slotNow, vbatReq := false }
  let low := s.parN 0x6C2
  if mv < low then s.raiseAlarm 12 0 mv else if low + 100 ≤ mv then s.clearAlarm 12 0 else s

/-- VBAT_MEASURE (R493): the measurement is made at once. -/
def execVbatMeasure (mv : Nat) (s : State) : Host.Outcome State Fault Refusal :=
  .next (if s.mode.mode.responding then s.vbatMeasured mv else s)

/-- The source of the always-on domain at a level of VHOLD (R37): the main supply above 4.5 V, the cell otherwise. -/
def aonSource (vholdMv : Nat) : PowerSrc := if 4500 < vholdMv then .vhold else .vbat

/-- VHOLD as it stands while the device is off, and the source that follows from it (R37, R77, R92). -/
def State.aonAt (s : State) (vholdMv : Nat) : State :=
  s.onPower fun p => { p with vholdMv := vholdMv, src := if p.src = .none then .none else aonSource vholdMv }

/-- VBAT_MEASUREMENT (R92, R426): every 24 h or as asked for; in WATCH and DORMANT every 60 s. -/
def execVbatMeasurement (mv : Nat) (s : State) (vhold : Nat := 0) : Host.Outcome State Fault Refusal :=
  .next (
    let s := if s.asleep then s.aonAt vhold else s
    let due := if s.asleep then s.power.src != .none
      else s.storeOn && (s.power.vbatReq || decide (s.power.vbatAt + 86400 * slotsPerS ≤ s.now))
    if due then s.vbatMeasured mv else s)

/-! ## Temperature (R62) -/

/-- TEMPERATURE_REDUCTION (R62): 122 degrees or more for 1 s. -/
def execTemperatureReduction (t16 : Int) (s : State) : Host.Outcome State Fault Refusal :=
  .next (if s.storeOn && !s.power.leanTemp && decide (122 * 16 ≤ t16) then
      let s := s.onPower fun p => { p with leanTemp := true }
      s.pauseHarm.stopCapture.raiseAlarm 9 0
    else s)

/-- Harmonics and capture resume where nothing else holds them (R62, R75). -/
def State.fullWork (s : State) : State :=
  if s.power.lean || s.power.leanTemp then s
  else (s.onPq fun p => { p with harmPaused := s.engine.romUcode }).resumeCapture

/-- TEMPERATURE_RECOVERY (R62): at or below 112 degrees for 60 s. -/
def execTemperatureRecovery (t16 : Int) (s : State) : Host.Outcome State Fault Refusal :=
  .next (if s.storeOn && s.power.leanTemp && decide (t16 ≤ 112 * 16) then
      ((s.onPower fun p => { p with leanTemp := false }).fullWork).clearAlarm 9 0
    else s)

/-! ## Power failure and ride-through (R72 to R75) -/

/-- PFAIL (R68, R72, R73): VMAIN below 10.0 V for 50 us, from step 5 of a start on. -/
def execPfail (vmain vhold : Nat) (s : State) : Host.Outcome State Fault Refusal :=
  .next (if s.storeOn && !s.power.pfail && decide (vmain < 10000) then
      let s := s.onPower fun p => { p with
        vmainMv := vmain, vholdMv := vhold, pfail := true, lean := true, rideStart := s.now, lastPfail := some s.now }
      ((s.raise 2 0 0 []).discardTest.stopCheckpoint.pauseScrub).pauseHarm.stopCapture
    else s)

/-- FULL_METERING_RETURN (R75): VMAIN above 10.5 V for 10 ms during ride-through. -/
def execFullMeteringReturn (vmain : Nat) (s : State) : Host.Outcome State Fault Refusal :=
  .next (if s.storeOn && s.power.pfail && decide (10500 < vmain) then
      let s := s.onPower fun p => { p with vmainMv := vmain, pfail := false, lean := false }
      let s := s.onStore fun t => { t with scrub := { t.scrub with paused := false } }
      s.fullWork.evalRelays []
    else s)

/-- The mode before ADJOURN (R81, R97). -/
def ModeSt.left (m : ModeSt) : Mode := if m.fromBoot then .boot else m.before

/-- Step 0 of an adjournment (R76, R77, R82, R102): the converters stop, the control plane and the test access port are held, the
pulse outputs go low without the edges not yet sent (R55, R269), and what the step drops is dropped. -/
def State.startAdjourn (s : State) (cause : Nat) : State :=
  let s := if cause = 2 then s.onMode fun m => { m with armed := false } else s
  let s := s.power.ckptRun.foldl (fun s o => s.onEntry o fun e => { e with owed := s.power.ckptDone }) s
  let s := s.stopCheckpoint.pauseScrub.cpDrop
  let s := (List.range s.nIsl).foldl (fun s n => (s.stopSeconds n).1.onIsland n fun i => { i with urgents := [] }) s
  let s := s.onQ28 fun _ => []
  let s := s.onEngine fun e => { e with overPending := [] }
  let s := s.onTariff fun t => { t with demReset := [] }
  let s := s.onClock fun c => { c with setTimes := [] }
  let s := s.onRelays fun r => { r with commands := [], arms := [] }
  let s := s.onStore fun t => { t with jobs := t.jobs.filter fun j => !j.recs.any fun r => match r with
    | .host _ _ => true
    | _ => false }
  let s := s.eachPulse fun x => { x with level := false, edges := [] }
  let s := s.closeDebug.onMode fun m => { m with
    before := if m.mode = .boot then m.before else m.mode, fromBoot := m.mode == .boot, mode := .adjourn, changes := [] }
  let s := s.onCp fun c => { c with st := .held, icache := none, notices := [] }
  let s := s.onTap fun t => { t with held := true, ir := 1, reqBytes := [], replyBytes := [], credit := 1 }
  s.onPower fun p => { p with
    adjCause := cause, fullRestart := cause == 2, ckptNow := false, ckptOps := [], ckptRun := [], test := .idle, testOp := none }

/-- The cause for which ride-through ends at a VHOLD (R74, R81). -/
def State.rideEnds (s : State) (vhold : Nat) : Option Nat :=
  if s.power.noRide then some 3
  else if s.power.belowAdj vhold then some 0
  else if s.power.rideStart + s.parN 0x6C0 * 128 ≤ s.now then some 1
  else none

/-- RIDE_THROUGH_END (R74). -/
def execRideThroughEnd (vhold : Nat) (s : State) : Host.Outcome State Fault Refusal :=
  .next (if s.storeOn && s.power.pfail then
      let s := s.onPower fun p => { p with vholdMv := vhold }
      match s.rideEnds vhold with
      | some c => s.startAdjourn c
      | none => s
    else s)

/-- The reply of RESET_CMD has been read, or 10 ms have passed since it was ready (R117). -/
def State.resetDue (s : State) : Bool :=
  !(s.ports.any fun q => q.replies.any fun r => r.reset) || decide (s.cp.resetAt + 1280 ≤ s.now)

/-- RESET_CMD_START (R117): the reset that RESET_CMD has asked for. -/
def execResetCmdStart (s : State) (vddio : Nat := 3300) : Host.Outcome State Fault Refusal :=
  .next (if s.resetDue = false then s
    else match s.cp.resetReq with
      | some true => if s.mode.mode.responding then s.startAdjourn 2 else s
      | some false => if s.cpRuns then s.cpReset 4 vddio else s
      | none => s)

/-! ## The save: the writer's jobs in ADJOURN -/

/-- A save in progress: the state, the jobs that still end before the supply fails, and whether it has failed (R373). -/
structure Save where
  s : State
  left : Option Nat := none
  cutIn : JobCut := {}
  levels : List Nat := []
  /-- E_res: the energy that R78 gives to the steps after the one in progress, uJ. -/
  resUj : Nat := 0
  dead : Bool := false

/-- A change of the state of a save that goes on. -/
def Save.on (v : Save) (f : State → State) : Save := if v.dead then v else { v with s := f v.s }

/-- The levels of VHOLD left after the first at which a waiting job passes its check; none where it never does. -/
def passAt (ok : Nat → Bool) : List Nat → Option (List Nat)
  | [] => none
  | v :: r => if ok v then some r else passAt ok r

/-- The check of R371 in ADJOURN at a level of VHOLD. -/
def Save.allows (v : Save) (reqNj vhold : Nat) : Bool := energyOk v.resUj reqNj v.s.power.cInForce vhold

/-- A job of the save that waits on a level of VHOLD (R371): it counts in DEFERRED, and the supply fails where no later level passes:
where its words passed, its void phase has ended. -/
def Save.await (v : Save) (j : StoreJob) (level : Nat) (rest : List Nat) : Save :=
  match passAt (v.allows 3500) rest with
  | some r => { v with levels := r }
  | none =>
    let v := if (level :: rest).any (v.allows 150) then v.on fun s => j.recs.foldl State.voidRec s else v
    { v with levels := [], dead := true }

/-- The checks before a job of the save (R371, R372): none in health states ABSENT and INSUFFICIENT. -/
def Save.check (v : Save) (j : StoreJob) : Save :=
  match v.levels with
  | [] => v
  | x :: r =>
    if v.dead || v.s.power.noRide then v
    else if v.allows 3500 x then { v with levels := r }
    else (v.on fun s => s.onStore fun t => { t with deferred := incSat 32 t.deferred }).await j x r

/-- One job of the save: written and confirmed, or cut where the supply fails (R373). -/
def Save.job (v : Save) (j : StoreJob) : Save :=
  let v := v.check j
  if v.dead then v
  else match v.left with
    | some 0 => { v with s := v.s.cutJob j v.cutIn, dead := true }
    | some (n + 1) => { v with s := (v.s.writeJob j).jobReleases j, left := some n }
    | none => { v with s := (v.s.writeJob j).jobReleases j }

/-- Every job that the writer holds, in its order. -/
def Save.flush (v : Save) : Save :=
  let js := v.s.store.jobs
  js.foldl Save.job (v.on fun s => s.onStore fun t => { t with jobs := [] })

/-! ## Step 1: the pending cycles (R77, R496) -/

/-- The last 31 positions of the cycle that S_stop cuts are excluded and filled by cycle-hold (R496). -/
def PendSlot.cutTail (x : PendSlot) (now : Nat) (prev : List Contrib) : PendSlot :=
  let n := x.contribs.length
  { x with contribs := (List.range n).map fun k =>
      let c := x.contribs.getD k {}
      if n ≤ k + 31 then holdContrib { c with ok := false } x.per now k prev else c }

/-- The oldest pending slot of a point committed at S_stop; one that has not begun leaves. -/
def State.commitOldest (s : State) (m : Nat) : State :=
  let p := s.point m
  match p.bind, p.slots with
  | some b, x :: _ =>
    match x.close with
    | some fin => (s.commitSlot m b (s.completeSlot b m x fin) fin).drainSegments
    | none =>
      if s.now ≤ x.first then s.onPoint m fun p => { p with slots := p.slots.drop 1 }
      else
        let x := { s.completeSlot b m x s.now with partialCycle := true }
        let x := if x.held % 8 = 0 then x.cutTail s.now p.prev else x
        (s.commitSlot m b x s.now).drainSegments
  | _, _ => s

/-- Every pending slot of every point committed. -/
def State.commitPending (s : State) : State :=
  s.boundPoints.foldl (fun s m => (List.range (s.point m).slots.length).foldl (fun s _ => s.commitOldest m) s) s.drainSegments

/-- The samples of the round in progress up to S_stop - 1, and the engine's work on them. -/
def State.lastRound (s : State) (a : AdjInput) : State :=
  let old := s.now
  let t := if s.clock.refLost then old else max old (min a.sStop (old / 256 * 256 + 255))
  let s := s.onClock fun c => { c with slot := t }
  let a' : RoundInput := { mods := a.last.mods, upsets := a.last.upsets }
  if old < t then s.slices a' true else s.sliceWork a' true

/-! ## Step 2: boundary commits (R77, R79, R336) -/

/-- A boundary commit that is not complete at S_stop finished. It does not affect points of which no cycle has opened (R320). -/
def State.finishNow (s : State) (c : Commit) : State :=
  let never := c.waiting.filter fun m => (s.point m).unopened
  let s := s.onCommit c.seq fun x => { x with
    flags := x.flags ||| 8, points := x.points - never.length, waiting := x.waiting.filter fun m => !never.contains m }
  let s := c.waiting.foldl (fun s m =>
    if (s.point m).boundaryDone < c.seq ∧ never.contains m = false then s.pointSteps m c else s) s
  let s := never.foldl (fun s m => match (s.point m).bind with
    | some b => s.onPoint m fun p => p.takeState m b.plan c
    | none => s) s
  match s.tariff.commits.find? fun x => x.seq == c.seq with
  | some c => s.finishCommit c
  | none => s

/-- The subintervals, profile intervals, billing periods and windows that contain S_stop carry the outage (R271, R323, R327,
R330). -/
def State.markOutage (s : State) : State :=
  let s := s.boundPoints.foldl (fun s m => s.onPoint m fun p => { p with
    subFlags := p.subFlags ||| 2, profFlags := p.profFlags ||| 2, billFlags := p.billFlags ||| 2 }) s
  s.eachGroup fun g => { g with flags := g.flags ||| 4 }

/-! ## Step 3: registers (R77, R102, R372, R380) -/

/-- Whether a point's retention block holds a delta that its stored copy does not. -/
def Point.hasDelta (p : Point) : Bool := p.delta.any (· != 0) || p.ledger.delta != 0

/-- The points whose waiting record is superseded (R372). -/
def supersededBy (j : StoreJob) : List Nat :=
  if j.wait then j.recs.filterMap fun r => match r with
    | .point m _ => some m
    | _ => none
  else []

/-- A job that step 3 has overtaken writes its points as they now stand. -/
def State.refresh (s : State) (j : StoreJob) : StoreJob :=
  { j with recs := j.recs.map fun r => match r with
      | .point m r => .point m ((s.point m).record r.cause)
      | r => r }

/-- The points that step 3 writes, in ascending order. -/
def State.pointsToSave (s : State) (extra : List Nat) : List Nat :=
  (List.range s.nMp).filter fun m =>
    extra.contains m || ((s.point m).bind.isSome && (s.mode.armed || (s.point m).hasDelta))

/-! ## Step 4: events (R77, R283, R294, R409) -/

/-- The events that wait for the recorder, and those that their recording raises. -/
def State.drainEvents : Nat → State → State
  | 0, s => s
  | k + 1, s =>
    let gs := s.events.q13
    let s := s.onEvents fun e => { e with q13 := [] }
    State.drainEvents k (gs.foldl (fun s g => if g.poison then s.poisoned 13 else s.record g) s)

/-- Voltage events, coalescing windows and capture end at S_stop. -/
def State.endDetection (s : State) : State :=
  let s := (List.range s.nChan).foldl (fun s c => if (s.chan c).set.role = 1 then s.endEvents 8 c else s) s.drainItems
  (s.closeWindows fun _ => true).dropCapture

/-- The events of step 4, with the record of the adjournment last, the list of outstanding handles (R77), and the power-quality counters
(R284, R520). -/
def State.adjournEvents (s : State) : State :=
  let old := s.mode.left
  let s := s.drainEvents 4
  let s := s.releaseLog 2 none
  let s := s.raise 1 0 0 (le 4 old.num ++ le 4 Mode.adjourn.num ++ le 4 (if s.power.adjCause = 2 then 6 else 5) ++ sample7 s.now)
  let s := (s.drainEvents 4).record { code := 0x43, at_ := s.now, flags := 8, bits := 0, prio := 0 }
  let s := s.enqueue { prio := 1, recs := [.handles s.allOutstanding] }
  s.boundPoints.foldl (fun s m => s.enqueue { prio := 1, recs := [.pqCount m (s.point m).pqCounters] }) s

/-- The event records among the writer's jobs. -/
def State.eventJobs (s : State) : Nat := (s.store.jobs.map fun j => (eventRecs j.recs).length).sum

/-! ## Step 5 and what follows (R80, R81, R83, R93) -/

/-- The adjournment marker (R81). -/
def State.markerOf (s : State) (a : AdjInput) (boundaries regs events : Nat) : Marker :=
  { run := s.clock.run, sStop := s.now, timeStop := s.time, mode := s.mode.left, cause := s.power.adjCause
    boundaries := boundaries % 256, regRecords := regs, eventRecords := events, handles := s.allOutstanding.length
    vholdMv := a.vholdMv, energyUj := satN 16 a.energyUj, cUf := s.power.cInForce }

/-- The device without its bucks: nothing of the metering plane is left in queues, and outputs are low (R55, R269). -/
def State.unpowered (s : State) : State :=
  let s := s.onStore fun t => { t with jobs := [] }
  let s := s.onEvents fun e => { e with q13 := [], freeze := none }
  let s := s.onPq fun p => { p with q9 := [], windows := [], harmPaused := true }
  let s := (s.onQ8 fun _ => []).eachPulse fun x => { x with level := false, edges := [] }
  let s := s.onTap fun t => { t with held := true }
  s.onCp fun c => { c with st := .down }

/-- The end of an adjournment: the bucks off, and what the resumption context holds of the capacitor (R83). -/
def State.switchOff (s : State) (a : AdjInput) : State :=
  let s := s.unpowered
  let s := s.onMode fun m => { m with ctxHealth := s.power.health, ctxCUf := s.power.cInForce, ctxVadjMv := s.power.vAdjMv, bootStep := 0, abandoned := 0 }
  s.onPower fun p => { p with pfail := true, lean := false, leanTemp := false, vholdMv := a.vholdMv, vbatMv := a.vbatMv }

/-- The mode after an adjournment without VMAIN (R80); the always-on domain keeps the charge left in CHOLD down to 4.5 V (R37,
R77). Below 2.5 V on VBAT it runs down in the same way until VAON_LOSS (log entry 108). -/
def State.toCell (s : State) : State :=
  (s.onMode fun m => { m with mode := .watch }).onPower fun p => { p with src := aonSource p.vholdMv }

/-- Entry to DORMANT (R93, R102): the retention SRAM is unpowered. -/
def State.toDormant (s : State) : State :=
  let s := s.toCell
  let s := s.onMode fun m => { m with mode := .dormant }
  let s := s.onClock fun c => { c with retentionLost := true, dormantFlag := true }
  s.onTamper fun t => { t with
    buffer := [], total := 0, pendInc := List.replicate 16 0, pendMask := 0, pendWord := 0, dormantMask := 0 }

/-- The mode after step 5 (R80, R97). -/
def State.afterMarker (s : State) (a : AdjInput) : State :=
  let s := s.onPower fun p => { p with adjCount := (p.adjCount + 1) % 2 ^ 32 }
  let s := (s.onMode fun m => { m with sStop := s.now }).onClock fun c => { c with periodsAt := c.periods }
  if s.power.fullRestart || a.vmainBack then
    (s.onMode fun m => { m with mode := .boot }).onPower fun p => { p with src := aonSource p.vholdMv }
  else if s.mode.armed then s.toDormant
  else s.toCell

/-- Steps 1 and 2 of R77: the state and the boundary commits completed in step 2. -/
def State.adjournMetering (s : State) (a : AdjInput) : State × Nat :=
  let s := (s.lastRound a).openDueAll.commitPending.mirrorSlots
  let s := s.onTariff fun t => { t with commits := t.commits.map s.pruneCommit }
  let cs := s.tariff.commits
  ((cs.foldl State.finishNow s).markOutage, cs.length)

/-- Steps 3 to 5 of R77. Records that stand behind a waiting job follow it: a superseded point record is confirmed by step 3,
any other waiting job completes after the event flush (R372). -/
def State.adjournSave (s : State) (a : AdjInput) (boundaries : Nat) : State :=
  let head := (s.store.jobs.headD {})
  let ovl := supersededBy head
  let stuck := if head.wait then s.store.jobs else []
  let s := if head.wait then s.onStore fun t => { t with jobs := [] } else s
  let v : Save := { s := s, left := a.cut, cutIn := a.cutIn, levels := a.levels, resUj := 5900 }
  let v := { v.flush with resUj := 3100 }
  let ts := v.s.relays.tokens
  let v := v.on fun s => ts.foldl State.applyToken (s.onRelays fun r => { r with tokens := [] })
  let ms := v.s.pointsToSave ovl
  let cause := if v.s.mode.armed then 6 else 1
  let v := (v.on fun s => ms.foldl (fun s m => s.enqueue { prio := 1, recs := [.point m ((s.point m).record cause)] }) s).flush
  let v := if ovl.isEmpty then v
    else (v.on fun s => (s.jobReleases head).onStore fun t => { t with jobs := (stuck.drop 1).map s.refresh }).flush
  let v := { v.on State.adjournEvents with resUj := 300 }
  let events := v.s.eventJobs
  let v := v.flush
  let v := if ovl.isEmpty then (v.on fun s => s.onStore fun t => { t with jobs := stuck.map s.refresh }).flush else v
  let mark := v.s.markerOf a boundaries (ms.length + ts.length) events
  let v := { v with resUj := 0 }
  let v := (v.on fun s => (s.enqueue { prio := 1, recs := [.marker mark false] }).enqueue { prio := 1, recs := [.marker mark true] }).flush
  let s := v.s.switchOff a
  if v.dead then s.toCell else s.afterMarker a

/-- ADJOURNMENT (R77): steps 1 to 5 of the adjournment in progress. -/
def execAdjournment (a : AdjInput) (s : State) : Host.Outcome State Fault Refusal :=
  .next (if s.mode.mode = .adjourn then
      let x := s.adjournMetering a
      x.1.endDetection.adjournSave a x.2
    else s)

end Sys2Proof.Machine
end

