-- ==== Sys2Proof/Machine/Start.lean ====
section
/-! DEFINITION. Starts and resumption: the trigger and the steps of R90, the rows of R87, restoration (R84, R382), the boundaries
of the outage (R335, R517), abandoned starts (R100), the loss of VAON (R305), and the readiness of the control plane (R140). -/
namespace Sys2Proof.Machine

/-! ## The trigger (R86) -/

/-- The capacitance from which the start threshold is taken. -/
def State.startCUf (s : State) : Nat :=
  if s.clock.retentionLost = false ∧ (s.mode.ctxHealth = .healthy ∨ s.mode.ctxHealth = .unhealthy) then s.mode.ctxCUf else 1500

/-- The start condition: VMAIN at 10.5 V, and VHOLD at min(V_ADJ + 1 V, 10 V). -/
def State.startDue (s : State) (a : StartInput) : Bool :=
  s.asleep && decide (10500 ≤ a.vmainMv) && (decide (10000 ≤ a.vholdMv)
    || (decide (1000 ≤ a.vholdMv) && decide (vAdjSq s.startCUf ≤ (a.vholdMv - 1000) ^ 2)))

/-! ## The rows of R87 -/

/-- The newest valid run record. -/
def State.lastRun (s : State) : Option RunRec := logNewest s.store.runs

/-- The newest valid adjournment marker. -/
def State.lastMarker (s : State) : Option Marker := logNewest s.store.markers

/-- The marker that ends the last run. -/
def State.endMarker (s : State) : Option Marker :=
  match s.lastRun, s.lastMarker with
  | some r, some k => if k.run = r.run then some k else none
  | _, _ => none

/-- The row of R87, by the OUTCOME codes of R381. -/
def State.startRow (s : State) : Nat :=
  if s.lastRun.isNone then 0
  else match s.endMarker, s.clock.retentionLost with
    | some _, false => 1
    | some _, true => 2
    | none, false => 3
    | none, true => 4

/-- The mode recorded for a resumption (R99, R515): that of the marker that ends the last run, where it is BOOT that of the last
completed run, read as the MODE of the newest run record: DESIGN CHOICE, log entry 173; without a marker MODE_STATE, and COMMISSION
at first commissioning. -/
def State.recordedMode (s : State) : Mode :=
  match s.lastRun, s.endMarker with
  | none, _ => .commission
  | some r, some k => if k.mode = .boot then r.mode else k.mode
  | some _, none => s.mode.stored

/-- The checkpoint interval that was in force, as the newest valid device record holds it (R88); with no valid device record 10 s, the
interval of the unprotected policy: DESIGN CHOICE, log entry 174. -/
def State.ckptS (s : State) : Nat :=
  match s.store.deviceRec.newest with
  | some d => d.ckptS
  | none => 10

/-- S_rec: the largest sample index held in the store (R89). -/
def State.sRec (s : State) : Nat :=
  let pts := s.store.points.map fun d => match d.newest with
    | some r => r.sample
    | none => 0
  let bc := match logNewest s.store.bcs with
    | some b => b.exec
    | none => 0
  let run := match s.lastRun with
    | some r => r.firstSample
    | none => 0
  let dev := match s.store.deviceRec.newest with
    | some d => d.anchor.s
    | none => 0
  pts.foldl max (max bc (max run dev))

/-- S_stop of the outage (R517): that of the marker, the provisional one, or S_rec. -/
def State.outageStop (s : State) : Nat :=
  match s.endMarker with
  | some k => k.sStop
  | none => if s.startRow = 4 then s.sRec else s.mode.sStop

/-- The index of the first sample (R89). -/
def State.firstIndex (s : State) : Nat :=
  match s.startRow with
  | 0 => 0
  | 2 => s.outageStop + 1
  | 4 => s.sRec + 128000 * (s.ckptS + 1)
  | _ => s.mode.sStop + (s.clock.periods - s.clock.periodsAt) * 125 / 32

/-! ## Steps 1 and 2 -/

/-- Step 1: the bucks start, and the mode is BOOT. The ports' latches and queues are empty before the events of the start
(R149). -/
def State.bootPower (s : State) (a : StartInput) : State :=
  let s := s.eachPort fun q =>
    { q with latch := 0, latchSeq := List.replicate 64 0, notify := [], overflow := 0 }
  let s := s.onMode fun m => { m with mode := .boot, bootStep := 1 }
  let s := s.onPower fun p => { p with
    src := .vhold, vmainMv := a.vmainMv, vholdMv := a.vholdMv, vddioMv := a.vddioMv, extClock := a.extClock, pfail := false
    lean := false, test := .idle, testOp := none }
  s.onCp fun c => { c with resetNLow := a.resetNLow }

/-- What the start scan reads: invalid locations count in TORN, and each record's next write goes to the copy that does not hold
its newest value (R375, R377, R381). -/
def State.scanStore (s : State) : State :=
  let t := s.store
  let n := logTorn t.runs + logTorn t.markers + t.deviceRec.tornCount + t.seqRec.tornCount
    + (s.boundPoints.map fun m => (t.points.getD m {}).tornCount).sum
  (s.countTorn n).onStore fun t => { t with
    points := t.points.map Dual.settle, relayRecs := t.relayRecs.map Dual.settle, pqRecs := t.pqRecs.map Dual.settle
    seqRec := t.seqRec.settle, sealRec := t.sealRec.settle, evidRec := t.evidRec.settle, deviceRec := t.deviceRec.settle
    tornStart := satN 16 n }

/-- Step 2: the loader reads the store; the test access port and the control plane have their supply (R111, R116). -/
def State.bootScan (s : State) : State :=
  let row := s.startRow
  let rec_ := s.recordedMode
  let s := s.scanStore
  let s := s.onMode fun m => { m with bootStep := 2, outcome := row, before := rec_, debug := .d0, debugEnd := 0, d2Trace := false
                                      d2Entered := m.d2Entered && !s.power.fullRestart }
  let s := s.onTap fun t => { t with held := false }
  s.onCp fun c => { c with
    st := if c.resetNLow then .held else .starting, resetCause := if row = 0 then 0 else 5, watchdogMs := c.watchdogNext
    xtal := c.xtalNext, watchdogEvent := false }

/-! ## Step 3: the configuration, the sample index and device time -/

/-- A pair after the margin read of a start (R108, R437): bit B completed, and a weak bit A programmed again. -/
def OtpPair.repair (p : OtpPair) : OtpPair := if p.a then { p with b := true, weakA := false } else p

/-- Whether that repair programs anything. -/
def OtpPair.needsRepair (p : OtpPair) : Bool := p.a && (!p.b || p.weakA)

/-- Steps 1 and 2 of R452: the repairs and the keys (R108, R437, R448). -/
def State.repairOtp (s : State) : State :=
  let s := s.onOtp fun o => { o with
    l1 := o.l1.repair, l2 := o.l2.repair, l3 := o.l3.repair, rollback := o.rollback.map OtpPair.repair
    evidence := o.evidence.map fun l => l.map OtpPair.repair }
  let s := if s.life = .retired then s.onOtp Otp.burnSeeds else s
  let keys := s.life == .unsealed || s.life == .sealed
  s.onSec fun x => { x with
    idKey := keys && s.otp.idSeed.isSome, transportKey := keys && s.otp.transportSeed.isSome, entropyFailed := false }

/-- The whole committed configuration, as the configuration record holds it (R35). -/
def State.wholeConfig (s : State) : State :=
  let es := s.engine.effects.filter fun e => e.handed.isNone
  let s := es.foldl (State.applyItem false) (es.foldl (State.applyItem true) s)
  s.configured.onEngine fun e => { e with
    effects := [], commits := [], remaps := []
    banks := e.banks.map fun (b : Bank) => { b with old := none, pending := [] } }

/-- Device time at the first sample (R305, R306): that of the RTC, or where the RTC was lost the later of two values. -/
def State.startTime (s : State) : State :=
  let f := s.now
  let lost := s.clock.rtcLost
  let t0 := match s.lastMarker with
    | some k => k.timeStop
    | none => 0
  let t := match s.store.deviceRec.newest with
    | some d => max t0 (d.anchor.line f)
    | none => t0
  let s := if lost then s.onClock fun c => { c with
      rtc := t, rtcMilli := 0, slew := 0, slewNext := 0, timeUnset := true, rtcLost := false } else s
  let s := s.placeAnchor { s := f, t := s.clock.rtc, step := true }
  let s := s.onMode fun m => { m with triggerTime := s.time }
  if lost then s.driftEvent 2 0 else s

/-- A channel at its first sample: what belongs to its configuration and its counts since first commissioning stays. -/
def State.freshChannel (s : State) (c : Nat) : State :=
  let s := s.resetCheck c
  let f := s.now
  let lead := !(s.pointsLed c).isEmpty
  let s := s.onChan c fun h => {
    set := h.set, fs := h.fs, sags := h.sags, swells := h.swells, intrs := h.intrs, cycleNo := h.cycleNo, check := h.check
    detAt := f, f10From := f, secNo := f / slotsPerS, nextGate := if lead then f else 0 }
  s.restartChan c f true

/-- An island at a start: its fabric takes the form of UNCOMP (R198), its seconds test themselves (R180), and its comparisons count
anew. -/
def State.freshIsland (s : State) (n : Nat) : State :=
  let compressed := !bit (s.parN (0x708 + 32 * n)) 0
  s.onIsland n fun i => { i with
    compressed := compressed, refBad := 0, supBad := 0, good := 0, urgents := [], restoreOp := none, restoreGood := 0, restoreReady := false
    retireOp := none, selfAt := s.now, a := { failed := i.a.failed, selfDue := true }, b := { failed := i.b.failed } }

/-- The engine at a start, on ROM microcode (R90). -/
def State.freshEngine (s : State) : State :=
  s.onEngine fun e => { e with
    lanes := e.lanes.map fun (l : Lane) => { retired := l.retired, lastPass := l.lastPass, sig := l.sig }
    point := 6, clockPoint := 6, trim := 0, below := 0, down := false, romUcode := true, carried := [], redo := []
    busy := List.replicate 8 0, startAt := 0
    pairDone := [0, 0, 0, 0], runAhead := s.now, overPending := [] }

/-- A point at a start: no pending cycle is left, and what takes cycles to gather begins anew (R433). The slots that an abandoned
start or a failed run has left mirrored are carried to step 5 (R100). -/
def Point.fresh (p : Point) (kept : Bool) : Point :=
  { p with
    slots := [], prev := [], recent := [], expect := none, accum := [], causes := p.causes &&& 18, estEnd := p.estEnd &&& 18
    carryImp := if kept then p.pendImp else 0, carryExp := if kept then p.pendExp else 0
    pendImp := if kept then p.pendImp else 0, pendExp := if kept then p.pendExp else 0
    n13 := 0, c13 := 0, ask13 := false, block13 := 0, n14 := 0, c14 := 0, n16 := [0, 0, 0], c16 := 0, revQuanta := 0
    harmFlags := 1 }

/-- The loop generators seeded (R423). -/
def State.seedLoops (s : State) : State :=
  (List.range 4).foldl (fun s n =>
    let (v, s) := s.draw
    s.onTamper fun t => { t with lfsr := upd t.lfsr n fun _ => BitVec.ofNat 31 (v % (2 ^ 31 - 1) + 1) }) s

/-- Power quality, pulses and relay boards at a start. -/
def State.freshRest (s : State) : State :=
  let s := s.onPq fun p => { p with q9 := [], windows := [], harmPaused := true }
  let s := ((s.onQ8 fun _ => []).onQ28 fun _ => []).eachPulse fun x =>
    { x with acc := 0, level := false, edges := [], lastRise := none }
  s.onRelays fun r => { r with
    q15 := [], held := []
    boards := r.boards.map fun (b : Board) => { b with bad := 0, mism := List.replicate 8 0, depth := 0 } }

/-- Step 3: the sample index is set, and every unit is configured. -/
def State.bootConfigure (s : State) : State :=
  let kept := !s.clock.retentionLost
  let stop := s.outageStop
  let f := s.firstIndex
  let s := s.onMode fun m => { m with bootStep := 3, stopFrom := stop, stopProv := m.sStop, firstSample := f }
  let s := s.onClock fun c => { c with slot := f, refLost := false, refGood := 0, driftFrom := none }
  let s := s.startTime.wholeConfig
  let s := s.eachPoint fun p => p.fresh kept
  let s := (List.range s.nIsl).foldl State.freshIsland s
  let s := (List.range s.nChan).foldl State.freshChannel s
  let s := s.freshEngine.freshRest.seedLoops
  let s := if kept then s else s.onPower fun p => { p with
    health := if s.capService then .absent else .unknown, cUf := 0, esrMohm := 0 }
  s.onPower fun p => { p with leanTemp := s.alarmOn 9 0, vbatReq := true, ckptStart := f, ckptNow := false, lastTest := f }

/-! ## Step 4: the first counted sample -/

/-- The first cycle of a point begins at the first counted sample (R232). -/
def State.firstCycle (s : State) (m : Nat) : State :=
  let p := s.point m
  match p.bind with
  | none => s
  | some b =>
    if p.unbindAt.isSome || decide (s.now < b.start) then s
    else s.onPoint m fun p => { p with slots := [{
      cycle := (s.chan b.v1).cycleNo, first := s.now, held := s.heldAt m s.now, per := s.chanPeriod b.v1, fs := s.elementFs b
      partialCycle := true }] }

/-- Step 4: every channel that leads a point counts a new cycle, and the pending slots are fresh. -/
def State.bootSample (s : State) : State :=
  let s := s.eachChanAt fun c h => if (s.pointsLed c).isEmpty then h else { h with cycleNo := (h.cycleNo + 1) % 2 ^ 32 }
  (s.boundPoints.foldl State.firstCycle s).onMode fun m => { m with bootStep := 4 }

/-! ## Step 5: restoration (R84, R87, R382) -/

/-- What of a ledger does not outlive the supply: a relay test, the running 10 s span, and the directive, which follows the
reconnect state. -/
def Ledger.atStart (l : Ledger) : Ledger :=
  { l with testEnd := 0, limSpan := 0, limQuanta := 0, limTripped := false, limEnd := 0, causes := 0
           open_ := l.recon != .closed }

/-- The registers and the ledger of a point rebuilt from a stored copy (R84): the deltas of the retention SRAM are added where they
extend it. -/
def Point.restore (p : Point) (kept : Bool) (r : PointRec) : Point :=
  let add := kept && serialLe 32 r.seq p.seqBase
  let d := if add then p.ledger.delta else 0
  { p with
    reg := (List.range 29).map fun i => (r.reg.getD i 0 + if add then p.delta.getD i 0 else 0) % 2 ^ 64
    delta := if add then p.delta else List.replicate 29 0
    residue := if add then p.residue else r.residue
    demandAcc := if add then p.demandAcc else r.demandAcc
    seqBase := r.seq, sEnd := if add then p.sEnd else r.sample, history := r.history, subClosed := r.subClosed
    maxDem := r.maxDem, e1 := r.e1, e1Acc := 0, pseq := r.pseq, pend := r.pend, pmark := r.pmark, sseq := r.sseq
    estCycles := r.estCycles, cycle := r.cycle
    ledger := { r.ledger with
      credit := satCredit (r.ledger.credit + d), delta := d
      deductRem := if add then p.ledger.deductRem else r.ledger.deductRem, macFails := p.ledger.macFails } }

/-- The stored copy that stands for a binding that has never been written: its registers begin at zero, and the rings of the
point's number go on (R383, R385). -/
def Point.unwritten (p : Point) (seq : Nat) : PointRec :=
  { p.record 0 with
    seq := seq, reg := List.replicate 29 0, residue := List.replicate 13 0, demandAcc := 0
    ledger := { p.ledger with credit := p.ledger.credit - p.ledger.delta } }

/-- The newest valid snapshot of a point's binding. -/
def State.lastSnapshot (s : State) (m : Nat) (b : Binding) : Option Snapshot :=
  (s.store.snaps.getD m []).findSome? fun e => match e.2 with
    | .valid x => if x.bindSeq = b.seq then some x else none
    | _ => none

/-- The stored copy that a snapshot stands for when neither copy of the record is valid (R382). -/
def snapshotRecord (p : Point) (x : Snapshot) : PointRec :=
  { p.record 0 with
    seq := 0, reg := if x.reg.isEmpty then List.replicate 29 0 else x.reg, residue := List.replicate 13 0, demandAcc := 0
    history := [], subClosed := 0, maxDem := if x.maxDem.isEmpty then List.replicate 9 (0, 0) else x.maxDem, e1 := 0
    ledger := { credit := x.credit, h := x.h, bitmap := BitVec.allOnes 1024, policy := BitVec.ofNat 32 (x.creditFlags % 2) } }

/-- EV_STORE_UNCORRECTABLE of a fallback of R382. -/
def State.fallbackEvent (s : State) (fields : List Byte) : State :=
  (s.onStore fun t => { t with fallback := true }).raise 60 11 0 fields

/-- A point rebuilt from the store. -/
def State.restorePoint (kept : Bool) (s : State) (m : Nat) : State :=
  let p := s.point m
  match p.bind with
  | none => s
  | some b =>
    let d := s.store.points.getD m {}
    match d.newest with
    | some r =>
      if r.bindSeq = b.seq then
        let s' := s.onPoint m fun p => p.restore kept r
        if kept && r.seq != p.seqBase && serialLe 32 r.seq p.seqBase then
          s'.fallbackEvent (le 1 m ++ le 4 r.seq ++ le 4 p.seqBase) else s'
      else s.onPoint m fun p => p.restore kept (p.unwritten r.seq)
    | none =>
      if d.tornCount = 0 then s.onPoint m fun p => p.restore kept (p.unwritten p.seqBase)
      else
        let x := s.lastSnapshot m b
        let rec_ := snapshotRecord p (x.getD {})
        (s.onPoint m fun p => { p.restore false rec_ with snapEst := true }).fallbackEvent
          (le 1 m ++ time6 (match x with
            | some x => x.endTime
            | none => 0))

/-- The profile records that follow a stored PSEQ (R383): the next sequence and the END of the newest. -/
def scanProfile (l : List (Nat × Slot Profile)) : Nat → Nat × Nat → Nat × Nat
  | 0, x => x
  | k + 1, x =>
    match ringAt l x.1 with
    | some r => if x.2 ≤ r.endTime then scanProfile l k (x.1 + 1, r.endTime) else x
    | none => x

/-- The newest snapshot at or after a stored SSEQ (R385). -/
def scanSnaps (l : List (Nat × Slot Snapshot)) : Nat → Nat → Nat
  | 0, q => q
  | k + 1, q => if (ringAt l (q + 1)).isSome then scanSnaps l k (q + 1) else q

/-- The rings of a point scanned forward from its record. -/
def State.scanRings (s : State) (m : Nat) : State :=
  let ring := s.store.profiles.getD m []
  let snaps := s.store.snaps.getD m []
  s.onPoint m fun p =>
    let x := scanProfile ring ring.length (p.pseq, p.pend)
    let q := scanSnaps snaps snaps.length p.sseq
    { p with pseq := x.1, pend := x.2, sseq := q, snapCount := if (ringAt snaps q).isSome then max 1 (p.snapCount + q - p.sseq) else 0 }

/-- The power-quality counters of a point from their record (R284): those of a former binding are not its own. -/
def State.restorePq (s : State) (m : Nat) : State :=
  let own := fun (c : List (List Nat)) => match (s.point m).bind with
    | some b => c.getD 3 [] == [b.seq]
    | none => false
  let c := match (s.store.pqRecs.getD m {}).newest with
    | some c => if own c then c else []
    | none => []
  s.onPoint m fun p => { p with
    pqSag := c.getD 0 [0, 0, 0xFFFF], pqSwell := c.getD 1 [0, 0, 0], pqIntr := c.getD 2 [0, 0, 0xFFFF], pqState := 0 }

/-- A state record of which neither copy is valid takes its reset values, and its type is reported (R382); the type codes of these
records are not stated (log entry 6). -/
def State.recordLost {α : Type} (s : State) (d : Dual α) : State :=
  if d.newest.isNone ∧ 0 < d.tornCount then
    let (v, s) := s.draw
    s.fallbackEvent (le 4 v)
  else s

/-- The device-wide records. -/
def State.restoreDevice (s : State) : State :=
  let t := s.store
  let s := (((s.recordLost t.seqRec).recordLost t.sealRec).recordLost t.evidRec).recordLost t.deviceRec
  let q := t.seqRec.newest.getD {}
  let row := s.mode.outcome
  let s := s.onTariff fun x => { x with
    lastExec := if q.lastExec.isEmpty then List.replicate 6 [-1, -1, -1, -1] else q.lastExec
    bcSeq := match logNewest t.bcs with
      | some b => b.seq
      | none => 0
    table := if 3 ≤ row then placeEntries q.closes (x.table.filter fun e => !e.command) else x.table }
  let s := s.onSec fun x => { x with sealSt := t.sealRec.newest.getD {} }
  let s := s.onTamper fun x => { x with overflow := match t.evidRec.newest with
    | some e => e.2
    | none => List.replicate 16 0 }
  s.onStore fun x => { x with scrub := { x.scrub with pos := match t.deviceRec.newest with
    | some d => d.scrubPos
    | none => 0 } }

/-- The relay state of a reference or unbound point after a recovery (R357). -/
def State.restoreRelay (s : State) (m : Nat) : State :=
  match (s.store.relayRecs.getD m {}).newest with
  | some l => if s.isBilling m then s else s.onLedger m fun _ => l
  | none => s

/-- Restoration by the rows of R87: after a completed adjournment with valid retention everything stands as it was. -/
def State.restoreStore (s : State) : State :=
  let row := s.mode.outcome
  let kept := !s.clock.retentionLost
  let s := if row ≤ 1 then s
    else
      let s := s.restoreDevice
      let s := s.boundPoints.foldl (fun s m => ((s.restorePoint kept m).scanRings m).restorePq m) s
      if 3 ≤ row then (List.range s.nMp).foldl State.restoreRelay s else s
  let s := if kept then s else
    (s.onEvents fun e => { e with seq := s.store.ringNext }).eachPoint fun p => { p with balance := [] }
  s.eachPoint fun p => { p with ledger := p.ledger.atStart }

/-- The evidence counters against their mirror (R437, R438); `repaired` are those whose pairs the start has completed. -/
def State.checkEvidence (s : State) (repaired : List Nat) : State :=
  let mir := match s.store.evidRec.newest with
    | some e => e.1
    | none => []
  let cs := List.range 16
  let s := if cs.any fun c => decide (mir.getD c 0 < s.evidCount c) then s.writeEvidence else s
  cs.foldl (fun s c =>
    let fl := 2 * b2n (decide (s.evidCount c < mir.getD c 0)) + 4 * b2n (repaired.contains c)
    if fl = 0 then s else s.evidenceEvent c fl) s

/-- The evidence counters that hold a pair to be completed. -/
def State.repairsDue (s : State) : List Nat :=
  (List.range 16).filter fun c => (s.otp.evidence.getD c []).any OtpPair.needsRepair

/-! ## Step 5: what the mirror of the pending slots holds (R84, R100, R260) -/

/-- PEND_IMP and PEND_EXP of a point committed as one segment that ends at the last round boundary reached. -/
def State.commitPend (s : State) (m : Nat) : State :=
  let p := s.point m
  let clear := fun (s : State) => s.onPoint m fun p => { p with carryImp := 0, carryExp := 0 }
  match p.bind with
  | none => clear s
  | some b =>
    if p.carryImp = 0 ∧ p.carryExp = 0 then s
    else
      let fin := s.mode.stopProv
      let from_ := min fin (max p.sEnd (if s.mode.abandoned = 0 then 0 else s.mode.abFirst))
      let imp := p.carryImp * 65536
      let exp := p.carryExp * 65536
      let r : SegRec := { mp := m, idx := 0, last := true, flags := 5, cycle := p.cycle, sFirst := from_, sEnd := fin, gates := 0
                          act := (imp : Int) - exp, rea := 0, app := 0, fund := 0, sqa := 0 }
      clear (s.applyIncrements r b ([imp, exp] ++ List.replicate 11 0))

/-! ## Step 5: the boundaries of the outage (R335, R517) -/

/-- Groups of entries at one instant. -/
def byInstant : Nat → List Entry → List (List Entry)
  | 0, _ => []
  | _, [] => []
  | k + 1, e :: r =>
    let same := fun (x : Entry) => x.instant == e.instant
    (e :: r.filter same) :: byInstant k (r.filter fun x => !same x)

/-- Groups that carry only demand and profile ends. -/
def plainGroup (g : List Entry) : Bool := g.all fun e => !e.command && e.kinds &&& 57 == 0

/-- Consecutive plain groups merged. -/
def mergePlain : List (List Entry) → List (List Entry)
  | [] => []
  | g :: r =>
    match mergePlain r with
    | h :: t => if plainGroup g && plainGroup h then (g ++ h) :: t else g :: h :: t
    | [] => [g]

/-- The demand ends of the outage for a point: the subinterval open at S_stop closes, and those that lie in the outage enter the
history with zero energy and NO_SUPPLY (R323, R335). -/
def State.outageDemand (s : State) (m plan : Nat) (c : Commit) (es : List Entry) (stop : Int) : State :=
  match es.filter fun e => bit e.kinds 1 with
  | [] => s
  | e :: r =>
    let open_ := decide ((s.point m).subTime ≤ stop)
    let (s, new) := if open_ then s.closeSub m plan c e.time else (s, false)
    let s := if new then s.onCommit c.seq fun c => { c with newMax := union c.newMax [m] } else s
    let k := if open_ then r.length else r.length + 1
    let t := (r.getLastD e).time
    let (_, n) := s.demandSetting plan (t - 1)
    let p := s.point m
    let zero := fun i => (0, 34 * b2n (bit c.flags 0) ||| 2 ||| (64 * b2n (decide (satN 8 (p.subClosed + i + 1) < n))))
    s.onPoint m fun p => { p with
      history := (((List.range (min n k)).map zero).reverse ++ p.history).take 15, subClosed := satN 8 (p.subClosed + k)
      demandAcc := 0, subFlags := 2, subTime := t }

/-- The profile ends of the outage for a point: the interval open at S_stop closes at its own end, and those that lie in the outage
leave no record (R335). -/
def State.outageProfile (s : State) (m plan : Nat) (c : Commit) (es : List Entry) (stop : Int) : State :=
  (es.filter fun e => bit e.kinds 2).foldl (fun s e =>
    let s := if (s.point m).profTime ≤ stop then s.closeProfile m plan c e.time
      else s.onPoint m fun p => { p with profTime := e.time }
    (s.onPoint m fun p => { p with profFlags := 2 }).dailyCharge m e.time c.exec) s

/-- The steps of one outage commit for a point. -/
def State.outageSteps (s : State) (m : Nat) (c : Commit) (stop : Int) : State :=
  match (s.point m).bind with
  | none => s
  | some b =>
    let es := c.entries.filter fun e => c.concerns e b.plan m
    let s := (s.outageDemand m b.plan c es stop).outageProfile m b.plan c es stop
    let s := es.foldl (fun s e => s.entrySteps m c { e with kinds := e.kinds &&& 57 }) s
    s.onPoint m fun p => { p with boundaryDone := c.seq }

/-- One outage commit. -/
def State.outageCommit (s : State) (kept : Bool) (stop : Int) (es : List Entry) : State :=
  match es.getLast? with
  | none => s
  | some e =>
    let n := s.tariff.bcSeq
    let s := s.openCommit { instant := e.instant, time := e.time, exec := if kept then e.instant else s.mode.firstSample
                            flags := 4 + s.commonFlags } es
    if s.tariff.bcSeq = n then s
    else match s.tariff.commits.getLast? with
      | none => s
      | some c =>
        let s := c.waiting.foldl (fun s m => s.outageSteps m c stop) s
        match s.tariff.commits.find? fun x => x.seq == c.seq with
        | some c => s.finishCommit c
        | none => s

/-- The boundaries that fell in the outage, in time order. Instants of the entries left follow the new anchor (R306). -/
def State.catchOutage (s : State) : State :=
  let kept := !s.clock.retentionLost
  let f := s.mode.firstSample
  let stop := s.timeOf s.mode.stopFrom
  let t0 := s.timeOf f
  let before := fun (e : Entry) => if kept then decide (e.instant < f) else decide (e.time < t0)
  let due := fun (e : Entry) => before e && (e.command || decide (s.mode.stopFrom < e.instant))
  let es := ((s.tariff.table.filter due).map fun e => { e with kinds := s.liveKinds e }).filter fun e => e.kinds != 0
  let s := s.markOutage.onTariff fun t => { t with commits := [], table := t.table.filter fun e => !before e }
  let s := (mergePlain (byInstant es.length es)).foldl (fun s g => s.outageCommit kept stop g) s
  let s := s.onTariff fun t => { t with
    table := placeEntries ((t.table.filter fun e => !e.command).map fun e => { e with instant := max f (s.instantOf e.time) })
      (t.table.filter fun e => e.command) }
  s.reinstant

/-- The balance windows that ended in the outage (R271): the one that contains S_stop is evaluated, and one that lies wholly in the
outage holds no energy, so that its deficit is not above 0. -/
def State.outageWindows (s : State) : State :=
  let t := s.timeOf s.mode.firstSample
  (List.range 16).foldl (fun s g =>
    let x := s.groups.getD g {}
    if x.set.window = 0 ∨ t < x.windowEnd then s
    else
      let s := (s.evaluateWindow g).nextWindow g
      let s := if (s.groups.getD g {}).windowEnd ≤ t then s.clearAlarm 17 g else s
      s.onGroup g fun x => { x with flags := x.flags ||| 4, windowEnd := windowEndAfter x.set.window t }) s

/-! ## Step 5: the bound of R88 -/

/-- INCOMPLETE_COUNT, EV_ADJOURN_INCOMPLETE and the INCOMPLETE_BOUND records of a recovery, for step 6. -/
def State.lossBound (s : State) : State :=
  let row := s.mode.outcome
  if row < 3 then s
  else
    let t := s.ckptS + 1
    let bounds := if row = 3 then [] else
      (s.boundPoints.map fun m => (m, match (s.store.points.getD m {}).newest with
        | some r => satN 32 (r.e1 * t)
        | none => 0)).filter fun x => x.2 != 0
    let head : EvGroup := {
      code := 4, fields := leI 4 (satN 32 (bounds.map fun x => x.2).sum) ++ le 4 bounds.length
      bits := BitVec.ofNat 64 (2 ^ 4), prio := prioOf 4 }
    let each := bounds.map fun x => ({ code := 0x47, srcKind := 2, srcIdx := x.1, flags := 8, bits := 0, prio := 0
                                       fields := le 1 x.1 ++ le 4 x.2 } : EvGroup)
    (s.onPower fun p => { p with incompleteCount := incSat 32 p.incompleteCount }).onMode fun m =>
      { m with bootEvents := m.bootEvents ++ (head :: each) }

/-- EV_RESUMED (R91, R100), for step 6. -/
def State.resumedEvent (s : State) : State :=
  if s.mode.outcome = 0 then s
  else
    let t := match s.endMarker with
      | some k => k.timeStop
      | none => s.timeOf s.mode.stopFrom
    let m := s.mode
    let g : EvGroup := {
      code := 3, bits := BitVec.ofNat 64 8, prio := prioOf 3
      fields := time6 t ++ time6 m.triggerTime ++ sample7 m.stopFrom ++ sample7 m.firstSample ++ le 4 m.abandoned
        ++ sample7 m.abFirst ++ sample7 m.abLast }
    s.onMode fun m => { m with bootEvents := g :: m.bootEvents }

/-! ## Step 5: the images (R452) -/

/-- The control-core image that the ROM starts: that of the slot recorded active, or of the other one; none leads to the recovery
service. A trial that a start finds unfinished is given up (R484). -/
def State.bootControlCore (s : State) : State :=
  let s := if s.images.trial then s.giveUpTrial else s
  let a := s.images.ccActive
  if s.slotPasses 0 a then s.runSlot a
  else
    let ok := s.slotPasses 0 (1 - a)
    let s := s.onImages fun i => { i with badSlots := i.badSlots ++ if ok then [a] else [a, 1 - a] }
    s.runSlot (1 - a)

/-- The microcode verified for use after step 6; none leaves the ROM microcode in use. -/
def State.bootMicrocode (s : State) : State :=
  let a := s.images.ucActive
  let s := s.onImages fun i => { i with ucVersion := 0, ucReq := none }
  if s.slotPasses 1 a then s.onImages fun i => { i with ucBoot := some a }
  else
    let ok := s.slotPasses 1 (1 - a)
    s.onImages fun i => { i with badSlots := i.badSlots ++ (if ok then [a] else [a, 1 - a]), ucBoot := if ok then some (1 - a) else none }

/-! ## Step 5 as a whole -/

/-- The loss of the retention SRAM outside first commissioning and DORMANT (R439). -/
def State.bufferLost (s : State) : State :=
  if s.clock.retentionLost && s.mode.outcome != 0 && !s.clock.dormantFlag then
    (s.evidenceIncrement 8).send (watchAlarms s.now 0 0 0 1 (prioOf 53))
  else s

/-- An alarm of type 10 that stood for the lost reference clears, the reference being judged afresh (R99). -/
def State.referenceAfresh (s : State) : State := if s.clock.oscStopped then s else s.clearAlarm 10 0

/-- Step 5: registers, the mirrored slots, the boundaries of the outage, pending alarm responses and the relays, in this order. -/
def State.bootRestore (s : State) : State :=
  let repaired := s.repairsDue
  let s := (s.onMode fun m => { m with bootStep := 5 }).repairOtp
  let s := s.restoreStore.checkEvidence repaired
  let s := s.resumedEvent.lossBound
  let s := (List.range s.nMp).foldl State.commitPend s
  let s := s.catchOutage.outageWindows
  let s := (s.bufferLost.resumeAlarms (!s.clock.retentionLost) s.clock.dormantFlag).referenceAfresh
  let s := (s.onMode fun m => { m with armed := false }).evalRelays []
  let s := s.onClock fun c => { c with retentionLost := false, rtcLost := false, dormantFlag := false }
  s.bootControlCore.bootMicrocode

/-- The step of R90 after the one completed. -/
def State.bootNext (s : State) : State :=
  match s.mode.bootStep with
  | 1 => s.bootScan
  | 2 => s.bootConfigure
  | 3 => s.bootSample
  | 4 => s.bootRestore
  | _ => s

/-- The steps of R90 up to one. -/
def State.bootUpTo (s : State) (n : Nat) : State :=
  (List.range 4).foldl (fun s _ => if s.mode.bootStep < n then s.bootNext else s) s

/-- START_CONDITION (R86, R90): the start runs to step `upTo`, from 1 to 5. -/
def execStartCondition (a : StartInput) (s : State) : Host.Outcome State Fault Refusal :=
  .next (if s.startDue a then (s.bootPower a).bootUpTo a.upTo else s)

/-! ## Abandoned starts and the loss of VAON -/

/-- START_ABANDONED (R100): the start ends before step 5; its pending slots stay mirrored, and nothing is written to the store. Of the
states that R97 names the device takes WATCH, as after an adjournment: DESIGN CHOICE, log entry 170. -/
def execStartAbandoned (s : State) (vhold : Nat := 0) : Host.Outcome State Fault Refusal :=
  .next (if s.mode.mode = .boot ∧ 1 ≤ s.mode.bootStep ∧ s.mode.bootStep < 5 then
      let counted := decide (4 ≤ s.mode.bootStep)
      let s := s.onMode fun m => { m with
        mode := .watch, bootStep := 0, abandoned := incSat 8 m.abandoned
        abFirst := if counted then m.firstSample else m.abFirst, abLast := if counted then s.now - 1 else m.abLast }
      s.unpowered.aonAt vhold
    else s)

/-- VAON_LOSS (R37, R87, R305): VAON falls below 1.5 V. -/
def execVaonLoss (s : State) : Host.Outcome State Fault Refusal :=
  .next (if s.asleep && s.power.src != .none then
      let s := s.onPower fun p => { p with src := .none }
      let s := s.onMode fun m => { m with mode := .dormant, bootStep := 0 }
      let s := s.onClock fun c => { c with retentionLost := true, rtcLost := true, dormantFlag := false }
      s.onTamper fun t => { t with
        buffer := [], total := 0, pendInc := List.replicate 16 0, pendMask := 0, pendWord := 0, dormantMask := 0 }
    else s)

/-! ## Step 6: readiness (R36, R90, R99, R140, R144) -/

/-- The mode after a start, and the base mode of DEGRADED with it (R99). -/
def State.modeAfter (s : State) : Mode × Mode :=
  let plain := match s.mode.before with
    | .calibrate => s.mode.ret
    | .degraded => s.mode.base
    | x => x
  let plain := if s.life = .retired ∨ (s.life = .manufacture ∧ plain = .meter) ∨ plain ≠ .meter then .commission else plain
  if s.degradation then (.degraded, plain) else (plain, s.mode.base)

/-- The run record (R381), and the events of the start. -/
def State.beginRun (s : State) : State :=
  let prev := match s.lastRun with
    | some r => r.run
    | none => 0
  let m := s.mode
  let r : RunRec := { run := (prev + 1) % 2 ^ 32, firstSample := m.firstSample, time := s.timeOf m.firstSample, outcome := m.outcome
                      mode := s.modeAfter.1, torn := s.store.tornStart, prevRun := prev }
  let s := (s.q12 [.run r false]).q12 [.run r true]
  let s := s.onClock fun c => { c with run := r.run }
  let gs := s.mode.bootEvents.map fun (g : EvGroup) => if g.time.isSome then g else { g with at_ := s.now }
  gs.foldl State.send (s.onMode fun m => { m with bootEvents := [] })

/-- The end of BOOT: the mode of R99, scrubbing and the health test (R67, R389). -/
def State.endBoot (s : State) : State :=
  let x := s.modeAfter
  let s := s.onMode fun m => { m with bootStep := 6, base := x.2 }
  let s := (s.enterMode x.1 7).onMode fun m => { m with stored := m.mode }
  let s := s.configWrite.onStore fun t => { t with scrub := { t.scrub with paused := false } }
  s.onPower fun p => { p with test := .waiting, testSince := s.now }

/-- The ports at readiness (R140): initial credits, and a RESYNC reply at the head of each reply stream. -/
def State.resyncPorts (s : State) : State :=
  let one := fun (s : State) p => s.onPort p fun q => { q with
    credits := initialCredits p, resyncOwed := true, sending := p == 1
    replies := { resync := true, payload := le 1 (initialCredits p) ++ le 1 s.cp.resetCause ++ zeros 2 } :: q.replies }
  one (one (one s 0) 1) 2

/-- What the switch of the control core and the failed images still owe (R452, R453, R484). -/
def State.imagesReady (s : State) : State :=
  let i := s.images
  let s := if i.trial && !s.cp.recovery then
      ((s.onImages fun i => { i with trial := false }).configWrite).fwEvent 0 i.ccActive (i.slot 0 i.ccActive).version 0 else s
  let s := if s.cp.recovery then s else s.advanceRollback (i.slot 0 i.fwSlot).rollback
  (i.badSlots.foldl (fun s _ => s.authFail 2 0xFF) s).onImages fun i => { i with badSlots := [] }

/-- CONTROL_PLANE_READY (R36, R140): after a reset, or at step 6 of a start. -/
def execControlPlaneReady (s : State) : Host.Outcome State Fault Refusal :=
  .next (if s.cpRuns && s.cp.st == .starting then
      let s := if s.mode.mode = .boot then s.bootUpTo 5 else s
      let ends := s.mode.mode == .boot && !s.cp.recovery
      let s := s.resyncPorts.postOwed (if s.cp.resetCause = 0 ∨ s.cp.resetCause = 5 then .abortedPower else .cancelled)
      let wd := s.cp.watchdogEvent
      let s := s.onCp fun c => { c with
        st := .ready, readyAt := s.now, icache := some (if c.recovery then 2 else s.images.fwSlot), watchdogEvent := false }
      let s := s.sendNotices
      let s := if ends then s.beginRun.endBoot else s
      let s := s.raise 0 0 0 []
      let s := if wd then s.raise 6 0 0 [] else s
      s.imagesReady
    else s)

end Sys2Proof.Machine
end

