-- ==== Sys2Proof/WellFormed.lean ====
section
/-! DEFINITION. What an operand must satisfy to be one that the partner or the surroundings can supply: port numbers, packet
lengths, unit numbers. A command whose operands fail it leaves the state as its meaning says; no statement rests on one. -/
namespace Sys2Proof

/-- A request that a packet can carry: one of P0 to P2 or the mailbox (R133), at most 4 080 parameter bytes (R134). -/
def Request.wellFormed (r : Request) : Bool := decide (r.port ≤ 3) && decide (r.params.length ≤ 4080)

/-- An SPI port (R122). -/
def spiPort (p : Nat) : Bool := p == 0 || p == 2

/-- The transactions of an SPI port (R122). -/
inductive SpiOp where
  | status | write | writeQuad | read | readQuad
  deriving DecidableEq, Repr

/-- The transaction that an instruction byte begins on a port (R122, R129); P2 has a single lane. -/
def spiOf (port code : Nat) : Option SpiOp :=
  match code with
  | 0x05 => some .status
  | 0x02 => some .write
  | 0x0B => some .read
  | 0x32 => if port = 0 then some .writeQuad else none
  | 0x6B => if port = 0 then some .readQuad else none
  | _ => none

/-- The samples of one round: at most 256 modulator words for each of the channels 0 to 511 (R216). -/
def RoundInput.wellFormed (a : RoundInput) : Bool :=
  (a.mods.all fun e => decide (e.1 < 512) && decide (e.2.length ≤ 256)) && a.lateChans.all (fun c => decide (c < 512))
    && a.latePoints.all (fun m => decide (m < 256)) && a.upsets.all fun e => decide (e.queue < 12)

/-- The operands of a command are ones that exist. -/
def Instr.wellFormed : Instr → Bool
  | .getIdentity r | .getStatus r | .setMode r | .resetCmd r | .readNotify r | .ackEvents r | .setEventMask r => r.wellFormed
  | .getParam r | .setParam r | .getParamBlock r | .setParamBlock r | .commitParams r => r.wellFormed
  | .loadFirBank r | .bindMp r | .unbindMp r | .readRegisters r | .readInstant r | .setBalanceGroup r => r.wellFormed
  | .pulseAssign r | .setTime r | .adjustTime r | .loadPlan r | .readBoundaries r | .billingClose r => r.wellFormed
  | .demandReset r | .submitToken r | .readCredit r | .relayCommand r | .reconnectArm r | .setCreditPolicy r => r.wellFormed
  | .readProfile r | .readSnapshot r | .readEvents r | .freezeLog r | .unfreezeLog r | .storeStatus r => r.wellFormed
  | .scrubNow r | .checkpointNow r | .hostArea r | .readPq r | .readHarmonics r | .armCapture r => r.wellFormed
  | .readCapture r | .calWrite r | .calMeasure r | .spotCheck r | .seal r | .attest r | .signReading r => r.wellFormed
  | .loadKeys r | .getCerts r | .debugAuth r | .zeroise r | .imageBegin r | .imageData r | .imageEnd r => r.wellFormed
  | .imageActivate r | .ucodeActivate r | .remapChannel r | .retireIsland r | .restoreIsland r => r.wellFormed
  | .laneTest r | .holdupTest r | .pollHandle r | .cancelHandle r | .readCompletions r => r.wellFormed
  | .readPortStatus p | .writePacket p _ | .readPacket p _ => spiPort p
  | .writePacketQ p _ | .readPacketQ p _ => spiPort p
  | .spiUnknownInstruction p c => spiPort p && (spiOf p c.toNat).isNone
  | .bypass c => !([0x01, 0x02, 0x03, 0x04, 0x05, 0x20, 0x21] : List (BitVec 8)).contains c
  | .tokenLockoutEnd m | .relayOverrideEnd m | .relayTestEnd m | .powerLimitHoldEnd m => decide (m < 256)
  | .cycleCommit m | .cycleCommitDeadline m => decide (m < 256)
  | .noCrossing c | .overloadEpisodeEnd c | .frequencyWindowEnd c | .harmonicWindowEnd c => decide (c < 512)
  | .islandSupplyCheck n _ _ _ | .secondIntegrationEnd n _ _ _ | .secondSelfTest n _ _ _ => decide (n < 8)
  | .laneSelfTest p _ => decide (p < 4)
  | .creditResync q => decide (q < 32)
  | .balanceWindow g => decide (g < 16)
  | .pulseEdge o => decide (o < 8)
  | .sessionKeyExpiry a => a == 1 || a == 2
  | .roundBoundary a => a.wellFormed
  | .adjournment a => a.last.wellFormed
  | .tamperSample a => decide (a.loops.length ≤ 4) && decide (a.switches.length ≤ 4)
  | .relayRefresh l => decide (l.length ≤ 512)
  | .capService _ | .vbatMeasure _ | .resetCmdStart _ | .slewComplete | .tokenApply | .logFreezeTimeout | .captureComplete => true
  | .debugLevelExpiry | .imageSessionTimeout | .controlCoreSwitch _ | .controlCoreFallback _ | .ucodeSwitch | .remapEffect => true
  | .auxFrame _ _ | .auxBreak _ | .auxReplySent | .jorosMailbox _ _ | .idcode | .samplePreload _ _ | .extest _ | .clamp => true
  | .highz | .debug _ | .trstN | .resetN _ | .watchdogExpiry _ | .controlPlaneReady | .calLink _ | .calLinkOpenTimeout => true
  | .calibrateTimeout | .pfail _ _ | .fullMeteringReturn _ | .rideThroughEnd _ | .startCondition _ | .startAbandoned _ => true
  | .vaonLoss | .healthTestStart _ _ | .healthTestComplete _ | .vbatMeasurement _ _ | .checkpoint | .referenceWindow _ => true
  | .temperatureReduction _ | .temperatureRecovery _ | .notice _ | .segmentRecord _ | .urgentRequest _ | .pqItem _ => true
  | .coalesceWindowClose | .boundaryFreeze | .anchor | .boundaryCommit | .boundarySigning | .boundaryTableRefill => true
  | .boundaryTableLow | .zoneChange | .rtcCorrection _ | .rtcDriftCheck | .storeJobConfirm _ | .writerEnergyRecheck _ => true
  | .scrubWord _ _ _ | .eventGroup _ | .supplyGlitch | .rtcOscillatorStop | .lockExpiry | .securityJobDone _ => true
  | .entropyFailure | .resetNRelease | .supplyGlitchClear | .rtcOscillatorResumed => true

end Sys2Proof
end

