-- ==== Sys2Proof/Machine/Pins.lean ====
section
/-! DEFINITION. The digital balls (R45), the levels that the device gives its outputs (R50, R55, R151), and the test access port:
boundary scan and debug access (R109, R111, R131, R132). -/
namespace Sys2Proof.Machine

/-! ## Balls (R45) -/

/-- A digital ball of the centre signal ring. -/
inductive Ball where
  | hcsN | hsck | hio (n : Nat) | hirqN | auxTxd | auxRxd | airqN | resetN | wakeOut | pfailOut | testEn
  | calCsN | calSck | calSdi | calSdo | calLink | tck | tms | tdi | tdo | trstN | rlyClk | rlyDo | rlyDi | rlyLatN
  | cp (n : Nat) | tamp (n : Nat) | tdrv (n : Nat)
  deriving DecidableEq, Repr

/-- The digital balls in the order of R45, which is that of the boundary-scan register (log entry 176). -/
def digitalBalls : List Ball :=
  [.hcsN, .hsck, .hio 0, .hio 1, .hio 2, .hio 3, .hirqN, .auxTxd, .auxRxd, .airqN, .resetN, .wakeOut, .pfailOut, .testEn]
  ++ [.calCsN, .calSck, .calSdi, .calSdo, .calLink, .tck, .tms, .tdi, .tdo, .trstN, .rlyClk, .rlyDo, .rlyDi, .rlyLatN]
  ++ (List.range 8).map .cp ++ (List.range 8).map .tamp ++ (List.range 4).map .tdrv

/-- Whether the device can drive a ball: directions O, OD and IO. -/
def Ball.output : Ball → Bool
  | .hio _ | .hirqN | .auxTxd | .airqN | .wakeOut | .pfailOut | .calSdo | .tdo | .rlyClk | .rlyDo | .rlyLatN | .cp _ | .tdrv _ => true
  | _ => false

/-- What the device does with a ball: drive it low or high, release an open drain, leave it high-impedance, drive it as the port's or the
relay chain's transfer has it at the moment, or take it as an input. -/
inductive Drive where
  | low | high | released | highZ | active | input
  deriving DecidableEq, Repr

/-- A bit as a level. -/
def Drive.ofBool (b : Bool) : Drive := if b then .high else .low

/-! ## Output states (R55) -/

/-- The columns of R55. -/
inductive Phase where
  | starting | cpReset | service | adjourn | off
  deriving DecidableEq, Repr

/-- The column in force; in BOOT with no step run the bucks are off. -/
def State.phase (s : State) : Phase :=
  match s.mode.mode with
  | .adjourn => .adjourn
  | .watch | .dormant => .off
  | .boot => if s.mode.bootStep = 0 then .off else .starting
  | _ => if s.cp.st = .ready then .service else .cpReset

/-- An interrupt line (R151): low while an unmasked event is latched, released during a control-plane reset. -/
def State.irq (s : State) (p : Nat) : Drive := if s.hears p && s.eventsFlag p then .low else .released

/-- An output of a port: high-impedance unless the port responds. -/
def State.portDrive (s : State) (p : Nat) : Drive := if s.hears p then .active else .highZ

/-- The level of an output that follows the metering plane from step 5 of a start on: before that and in ADJOURN `idle`. -/
def State.meterDrive (s : State) (idle live : Drive) : Drive :=
  match s.phase with
  | .off => .highZ
  | .adjourn => idle
  | .starting => if s.mode.bootStep < 5 then idle else live
  | _ => live

/-- PFAIL_OUT: low from power-on until VHOLD reaches 10.5 V, then per PFAIL. -/
def State.pfailLevel (s : State) : Drive :=
  match s.phase with
  | .off | .adjourn => .low
  | .starting => if s.power.pfail || decide (s.power.vholdMv < 10500) then .low else .released
  | _ => if s.power.pfail then .low else .released

/-- What the device does with a ball (R50, R55, R151, R423). -/
def State.drive (s : State) : Ball → Drive
  | .hio _ => s.portDrive 0
  | .auxTxd => s.portDrive 1
  | .calSdo => s.portDrive 2
  | .tdo => if s.phase = .service then .active else .highZ
  | .hirqN => s.irq 0
  | .airqN => s.irq 1
  | .rlyClk | .rlyDo => s.meterDrive .low .active
  | .rlyLatN => s.meterDrive .high .high
  | .cp n => s.meterDrive .low (.ofBool (s.pulses.getD n {}).level)
  | .pfailOut => s.pfailLevel
  | .wakeOut => .released
  | .tdrv n => if s.power.src = .none then .highZ else .ofBool ((s.tamper.lfsr.getD n 1).getLsbD 30)
  | _ => .input

/-! ## The test access port (R111, R131, R132) -/

/-- The TAP is powered and out of reset (R111). -/
def State.tapOn (s : State) : Bool :=
  !s.tap.held && (s.mode.mode.responding || (s.mode.mode == .boot && decide (2 ≤ s.mode.bootStep)))

/-- The pin-driving instructions are permitted (R131). -/
def State.scanFree (s : State) : Bool := s.mode.debug == .d2 || s.life == .manufacture || s.life == .retired

/-- What the instruction in the register selects at the level in force (R131). -/
def State.tapMode (s : State) : TapMode :=
  match s.tap.ir.toNat with
  | 0x01 => .idcode
  | 0x02 => .samplePreload
  | 0x03 => if s.scanFree then .extest else .bypass
  | 0x04 => if s.scanFree then .clamp else .bypass
  | 0x05 => if s.scanFree then .highz else .bypass
  | 0x20 => .joros
  | 0x21 => if s.mode.debug = .d0 then .bypass else .debug
  | _ => .bypass

/-- What stands on a ball of the device (R131): EXTEST and CLAMP drive every output from the boundary-scan register, and HIGHZ releases
them. -/
def State.ball (s : State) (b : Ball) : Drive :=
  if s.tapOn = false ∨ b.output = false then s.drive b
  else match s.tapMode with
    | .extest | .clamp => .ofBool (s.tap.bsr.getD (digitalBalls.idxOf b) false)
    | .highz => .highZ
    | _ => s.drive b

/-- The levels that the boundary-scan register captures: those the device drives, and elsewhere those at the balls. -/
def State.captured (s : State) (pins : List Bool) : Nat :=
  (List.zip digitalBalls (List.range 48)).foldl (fun v e =>
    let level := match s.ball e.1 with
      | .low => false
      | .high => true
      | _ => pins.getD e.2 false
    v + 2 ^ e.2 * b2n level) 0

/-- The variant code of IDCODE (R132). -/
def variantCode : Variant → Nat
  | .v512 => 0x0512
  | .v256 => 0x0256
  | .v128 => 0x0128
  | .v064 => 0x0064

/-- IDCODE (R132). -/
def State.idcode (s : State) : Nat :=
  s.fuses.dieRev % 16 * 2 ^ 28 + variantCode s.fuses.variant * 2 ^ 12 + 0x1D6 * 2 + 1

/-- An instruction shifted into the TAP: where it selects the one-bit bypass register, that captures 0 (IEEE 1149.1). -/
def State.tapSelect (s : State) (code : BitVec 8) : State :=
  if s.tapOn = false then s
  else
    let s := s.onTap fun t => { t with ir := code }
    match s.tapMode with
    | .idcode => s.onTap fun t => { t with dr := s.idcode }
    | .bypass | .clamp | .highz => s.onTap fun t => { t with dr := 0 }
    | .samplePreload | .extest | .joros | .debug => s

/-- IDCODE (R132). -/
def execIdcode (s : State) : Host.Outcome State Fault Refusal := .next (s.tapSelect 0x01)

/-- SAMPLE/PRELOAD (R131): the register captures the balls, and a new value is preloaded. -/
def execSamplePreload (pins preload : List Bool) (s : State) : Host.Outcome State Fault Refusal :=
  .next (if s.tapOn then
      let v := s.captured pins
      (s.tapSelect 0x02).onTap fun t => { t with dr := v, bsr := (List.range 48).map fun i => preload.getD i false }
    else s)

/-- EXTEST (R131): the register captures the balls, and from then on drives the outputs. -/
def execExtest (s : State) (pins : List Bool := []) : Host.Outcome State Fault Refusal :=
  .next (
    let s := s.tapSelect 0x03
    if s.tapOn && s.tapMode == .extest then
      let v := s.captured pins
      s.onTap fun t => { t with dr := v }
    else s)

/-- CLAMP (R131). -/
def execClamp (s : State) : Host.Outcome State Fault Refusal := .next (s.tapSelect 0x04)

/-- HIGHZ (R131). -/
def execHighz (s : State) : Host.Outcome State Fault Refusal := .next (s.tapSelect 0x05)

/-- BYPASS (R131): the code 0xFF and every code not listed. -/
def execBypass (code : BitVec 8) (s : State) : Host.Outcome State Fault Refusal :=
  .next (if Instr.wellFormed (.bypass code) then s.tapSelect code else s)

/-- TRST_N low (R109, R115, R131). -/
def execTrstN (s : State) : Host.Outcome State Fault Refusal :=
  .next (if s.tapOn then
      (s.closeDebug).onTap fun t => { t with ir := 1, dr := s.idcode, credit := 1, reqBytes := [], replyBytes := [] }
    else s)

/-! ## Debug access (R17, R109) -/

/-- The word at a place of a queue; of a queue whose words the spec does not lay out, a free value (log entry 171). -/
def State.queueWord (s : State) (q place : Nat) : Nat × State :=
  if s.wordsFor q ≤ place then (0, s)
  else match q with
    | 8 => ((s.q8.getD place {}).data, s)
    | 9 => ((s.pq.q9.getD place {}).data, s)
    | _ => let (v, s) := s.draw; (v % 2 ^ queueBits q, s)

/-- A word sent into a queue while a credit is there (R17). Of a queue whose words the spec does not lay out, what the word does at
the consumer is not stated, and nothing changes (log entry 171). -/
def State.inject (s : State) (q data : Nat) : State :=
  if s.credits q = 0 then s
  else match q with
    | 8 => s.onQ8 fun l => l ++ [wordOf 64 data]
    | 9 => s.onPq fun p => { p with q9 := p.q9 ++ [wordOf 32 data] }
    | _ => s

/-- A debug operation at D1: it reads state and alters nothing but the register read (R109). -/
def State.debugRead (s : State) : DebugOp → State
  | .readQueue q i => let (v, s) := s.queueWord q i; s.onTap fun t => { t with dr := v }
  | .readRam a => s.onTap fun t => { t with dr := (readCell s.cp.ram a).toNat }
  | .readSram w flips =>
    match s.sramRead w flips with
    | some v => s.onTap fun t => { t with dr := v }
    | none => let (v, s) := s.draw; s.onTap fun t => { t with dr := v % 2 ^ 32 }
  | _ => s

/-- A debug operation at D2 (R109): the control core halts and runs, memory is written, and words enter queues. One step of the halted
core has no effect that the spec states (log entry 171). -/
def State.debugWrite (s : State) : DebugOp → State
  | .halt => s.onCp fun c => { c with halted := true }
  | .run => s.onCp fun c => { c with halted := false }
  | .writeRam a bs => s.onCp fun c => { c with ram := putBytes a bs c.ram }
  | .inject q d => s.inject q d
  | _ => s

/-- DEBUG (R109, R131). -/
def execDebug (s : State) (op : DebugOp := .select) : Host.Outcome State Fault Refusal :=
  .next (
    let s := s.tapSelect 0x21
    if s.tapOn && s.tapMode == .debug then
      let s := s.debugRead op
      if s.mode.debug = .d2 then s.debugWrite op else s
    else s)

end Sys2Proof.Machine
end

