-- ==== Sys2Proof/Machine/Ports.lean ====
section
/-! DEFINITION. Packets and frames on the wire (R122 to R141): framing, credits, what a read of a port clocks out. What a packet makes the device do stands in Machine/Joros.lean. -/
namespace Sys2Proof.Machine

/-! ## Request packets (R134, R141) -/

/-- What arrived as a packet, with its framing checked (R141): the length errors first, then the CRC (log entry 60). -/
def rawOf (bs : List Byte) : RawReq :=
  let tag := if 4 ≤ bs.length then BitVec.ofNat 16 (fld bs 2 2) else 0
  let plen := fld bs 6 2
  if fld bs 0 1 ≠ 0xA5 ∨ bs.length < 12 ∨ 4080 < plen ∨ bs.length ≠ 12 + plen then { tag := tag, bad := some .frameLength }
  else if fld bs (8 + plen) 4 ≠ (crc32c (bs.take (8 + plen))).toNat then { tag := tag, bad := some .frameCrc }
  else { opcode := fld bs 4 2, tag := tag, params := sub bs 8 plen, flagsOk := fld bs 1 1 == 1 && tag != 0 }

/-- A framing error counted, with its event (R141). -/
def State.framingError (s : State) (p : Nat) : State :=
  (s.onPort p fun q => { q with framing := incSat 32 q.framing }).raisePort p 15 []

/-- A packet arrives on P0, P1 or P2 (R138 to R141): with a credit it is taken in, to be executed in its turn (R137). -/
def State.arrive (s : State) (p : Nat) (q : RawReq) : State :=
  if (s.port p).credits = 0 then
    (s.onPort p fun x => { x with violations := incSat 32 x.violations }).raisePort p 12 (le 1 p ++ le 2 Status.noCredit.code)
  else
    let s := s.onPort p fun x => { x with credits := x.credits - 1, rx := x.rx ++ [q] }
    if q.bad.isSome then s.framingError p else s

/-- An SPI port takes packets: READY of R123. -/
def State.spiReady (s : State) (p : Nat) : Bool := s.hears p && !(s.port p).resyncOwed

/-! ## Replies on the wire (R123, R125, R138) -/

/-- The oldest reply that is ready to be sent. -/
def Port.head (q : Port) : Option Reply :=
  match q.replies with
  | r :: _ => if r.wait = .none then some r else none
  | [] => none

/-- The packet of a reply as port p sends it now (R135). -/
def State.packetOf (s : State) (p : Nat) (r : Reply) : List Byte :=
  replyPacket r (s.eventsFlag p) (!(s.port p).completions.isEmpty)

/-- The oldest reply leaves its port (R125, R138, R140): its credit comes back, up to the initial value; a RESYNC reply returns
none and ends the wait for it, on P1 when no further one is due. -/
def State.sent (s : State) (p : Nat) : State :=
  match (s.port p).head with
  | none => s
  | some r =>
    (s.onPort p fun q =>
      let rest := q.replies.drop 1
      if r.resync then
        { q with replies := rest, resyncOwed := false
                 sending := q.sending && (rest.any (fun x => x.resync) || q.rx.any fun x => x.resync) }
      else { q with replies := rest, credits := min (initialCredits p) (q.credits + 1) }).applyRate

/-- The status word of an SPI port (R123). -/
def State.statusWord (s : State) (p : Nat) : List Byte :=
  let q := s.port p
  let n := match q.head with
    | some r => (s.packetOf p r).length
    | none => 0
  le 1 (b2n (s.spiReady p) + 2 * b2n q.head.isSome + 4 * b2n (s.eventsFlag p) + 8 * b2n (!q.completions.isEmpty))
    ++ le 1 q.credits ++ le 2 n

/-- READ_PORT_STATUS (R123). In reset and where the bank is unpowered the outputs are high-impedance (R55). -/
def execReadPortStatus (port : Nat) (s : State) : Host.Outcome State Fault Refusal :=
  .next (if spiPort port && s.hears port then
      let w := s.statusWord port
      s.onPort port fun q => { q with out := w }
    else s.onPort port fun q => { q with out := [] })

/-- A read of n bytes of the oldest reply (R125): zeros beyond its end, and removal only when all of it was clocked out. -/
def State.readReply (s : State) (p n : Nat) : State :=
  if s.hears p = false then s.onPort p fun q => { q with out := [] }
  else match (s.port p).head with
    | none => s.onPort p fun q => { q with out := zeros n }
    | some r =>
      let bs := s.packetOf p r
      let s := s.onPort p fun q => { q with out := padTo n (bs.take n) }
      if bs.length ≤ n then s.sent p else s

/-- An SPI instruction that the port does not know (R122, R129, R141): a framing error without credit and reply. -/
def State.unknownSpi (s : State) (p code : Nat) : State :=
  if spiPort p && s.hears p && (spiOf p code).isNone then s.framingError p else s

/-- READ_PACKET (R125). -/
def execReadPacket (port clocked : Nat) (s : State) : Host.Outcome State Fault Refusal :=
  .next (if spiPort port then s.readReply port clocked else s)

/-- READ_PACKET_Q (R122); on P2 a framing error (R129). -/
def execReadPacketQ (port clocked : Nat) (s : State) : Host.Outcome State Fault Refusal :=
  .next (if spiOf port 0x6B = some .readQuad then s.readReply port clocked else s.unknownSpi port 0x6B)

/-- SPI_UNKNOWN_INSTRUCTION (R122, R141). -/
def execSpiUnknownInstruction (port : Nat) (s : State) (code : BitVec 8 := 0) : Host.Outcome State Fault Refusal :=
  .next (s.unknownSpi port code.toNat)

/-! ## Frames of P1 (R127) -/

/-- COBS encoding (R127): each block of bytes other than zero after its code byte; `block` holds the bytes of the block in progress. -/
def cobsEncode : List Byte → List Byte → List Byte
  | block, [] => BitVec.ofNat 8 (block.length + 1) :: block
  | block, b :: r =>
    if b = 0 then BitVec.ofNat 8 (block.length + 1) :: block ++ cobsEncode [] r
    else if 253 ≤ block.length then 255 :: block ++ b :: (if r.isEmpty then [] else cobsEncode [] r)
    else cobsEncode (block ++ [b]) r

/-- The frame of a packet with its delimiter. -/
def auxBytes (packet : List Byte) : List Byte := cobsEncode [] packet ++ [0]

/-- AUX_REPLY_SENT (R127, R138): the oldest ready reply of P1 has been sent as one frame. -/
def execAuxReplySent (s : State) : Host.Outcome State Fault Refusal :=
  .next (match s.responds, (s.port 1).head with
    | true, some r =>
      let frame := auxBytes (s.packetOf 1 r)
      (s.onPort 1 fun q => { q with out := frame }).sent 1
    | _, _ => s)

/-- COBS decoding (R127): the bytes decoded, and whether the frame is whole. n bytes of the block in progress are still to come;
z tells that a zero stands between it and the block before. -/
def cobs : Nat → Bool → List Byte → List Byte × Bool
  | n, _, [] => ([], n == 0)
  | n, z, b :: r =>
    if b = 0 then ([], false)
    else if n = 0 then
      let x := cobs (b.toNat - 1) (b != 255) r
      (if z then 0 :: x.1 else x.1, x.2)
    else
      let x := cobs (n - 1) z r
      (b :: x.1, x.2)

/-- Characters, each with whether its stop bit reads low. -/
def withStops : List Byte → List Bool → List (Byte × Bool)
  | [], _ => []
  | c :: r, low => (c, low.headD false) :: withStops r (low.drop 1)

/-- The characters of a frame: bad ones and zeros before it begins are ignored (R127). -/
def auxChars (chars : List Byte) (low : List Bool) : List (Byte × Bool) :=
  (withStops chars low).dropWhile fun c => c.2 || c.1 == 0

/-- A frame of P1 as the receiver takes it (R127, R141), its characters each with whether the stop bit reads low. -/
def frameOf (chars : List (Byte × Bool)) : RawReq :=
  let x := cobs 0 false (chars.map fun c => c.1)
  let q := rawOf x.1
  if 4113 < chars.length then { tag := q.tag, bad := some .frameLength }
  else if chars.any fun c => c.2 then { tag := q.tag, bad := some .frameCrc }
  else if x.2 = false then { tag := q.tag, bad := some .frameLength }
  else q

end Sys2Proof.Machine
end

