-- ==== Sys2Proof/Machine/Joros.lean ====
section
/-! DEFINITION. The Joros protocol: the opcode table, one request executed (R112, R137), the requests that wait for their turn, and the
commands that reach a port (R118 to R142). -/
namespace Sys2Proof.Machine

/-! ## One request (R112) -/

/-- The command of an opcode. -/
def commandOf : Nat → Option (State → Request → Except Deny State)
  | 0x0001 => some cmdGetIdentity
  | 0x0002 => some cmdGetStatus
  | 0x0003 => some cmdSetMode
  | 0x0004 => some cmdResetCmd
  | 0x0005 => some cmdReadNotify
  | 0x0006 => some cmdAckEvents
  | 0x0007 => some cmdSetEventMask
  | 0x0101 => some cmdGetParam
  | 0x0102 => some cmdSetParam
  | 0x0103 => some cmdGetParamBlock
  | 0x0104 => some cmdSetParamBlock
  | 0x0105 => some cmdCommitParams
  | 0x0106 => some cmdLoadFirBank
  | 0x0201 => some cmdBindMp
  | 0x0202 => some cmdUnbindMp
  | 0x0203 => some cmdReadRegisters
  | 0x0204 => some cmdReadInstant
  | 0x0205 => some cmdSetBalanceGroup
  | 0x0206 => some cmdPulseAssign
  | 0x0301 => some cmdSetTime
  | 0x0302 => some cmdAdjustTime
  | 0x0303 => some cmdLoadPlan
  | 0x0304 => some cmdReadBoundaries
  | 0x0305 => some cmdBillingClose
  | 0x0306 => some cmdDemandReset
  | 0x0401 => some cmdSubmitToken
  | 0x0402 => some cmdReadCredit
  | 0x0403 => some cmdRelayCommand
  | 0x0404 => some cmdReconnectArm
  | 0x0405 => some cmdSetCreditPolicy
  | 0x0501 => some cmdReadProfile
  | 0x0502 => some cmdReadSnapshot
  | 0x0503 => some cmdReadEvents
  | 0x0504 => some cmdFreezeLog
  | 0x0505 => some cmdUnfreezeLog
  | 0x0506 => some cmdStoreStatus
  | 0x0507 => some cmdScrubNow
  | 0x0508 => some cmdCheckpointNow
  | 0x0509 => some cmdHostArea
  | 0x0601 => some cmdReadPq
  | 0x0602 => some cmdReadHarmonics
  | 0x0603 => some cmdArmCapture
  | 0x0604 => some cmdReadCapture
  | 0x0701 => some cmdCalWrite
  | 0x0702 => some cmdCalMeasure
  | 0x0703 => some cmdSpotCheck
  | 0x0704 => some cmdSeal
  | 0x0801 => some cmdAttest
  | 0x0802 => some cmdSignReading
  | 0x0803 => some cmdLoadKeys
  | 0x0804 => some cmdGetCerts
  | 0x0805 => some cmdDebugAuth
  | 0x0806 => some cmdZeroise
  | 0x0901 => some cmdImageBegin
  | 0x0902 => some cmdImageData
  | 0x0903 => some cmdImageEnd
  | 0x0904 => some cmdImageActivate
  | 0x0905 => some cmdUcodeActivate
  | 0x0A01 => some cmdRemapChannel
  | 0x0A02 => some cmdRetireIsland
  | 0x0A03 => some cmdRestoreIsland
  | 0x0A04 => some cmdLaneTest
  | 0x0A05 => some cmdHoldupTest
  | 0x0B01 => some cmdPollHandle
  | 0x0B02 => some cmdCancelHandle
  | 0x0B03 => some cmdReadCompletions
  | _ => none

/-- What follows every accepted command: the windows of R457 are written when it moved one, and a command of group 0x07xx
restarts the timeout of CALIBRATE (R101). -/
def State.accepted (s : State) (op : Nat) (old : SealState) : State :=
  let s := if s.security.sealSt = old then s else s.writeSeal
  if op / 256 = 7 then s.onMode fun m => { m with calSince := s.now } else s

/-- One request executed: order 2 of R112, a malformed header at order 3 (R134), and the command's own checks and effect. -/
def State.execute (s : State) (op : Nat) (headerOk : Bool) (r : Request) : State :=
  match commandOf op with
  | none => s.refuse r { status := .unknownOpcode }
  | some f =>
    if headerOk = false then s.refuse r { status := .badParameter }
    else s.answer r ((f s r).map fun s' => s'.accepted op s.security.sealSt)

/-! ## The requests of a port in their turn (R137) -/

/-- A request packet whose turn has come: a framing error is answered (R141), a break with its RESYNC reply (R128). -/
def State.runRaw (s : State) (p : Nat) (q : RawReq) : State :=
  if q.resync then s.reply p { resync := true, payload := [8, 0xFF, 0, 0] }
  else match q.bad with
    | some st => s.reply p { tag := q.tag, status := st }
    | none => s.execute q.opcode q.flagsOk { port := p, tag := q.tag, params := q.params }

/-- At most as many waiting requests of a port as the list has, while no reply of the port waits. -/
def State.drainRx (p : Nat) : List RawReq → State → State
  | [], s => s
  | _ :: fuel, s =>
    if (s.port p).busy then s
    else match (s.port p).rx with
      | [] => s
      | q :: r => drainRx p fuel ((s.onPort p fun x => { x with rx := r }).runRaw p q)

/-- The requests of one port whose turn has come. A halted control core takes none (R109). -/
def State.drainPort (s : State) (p : Nat) : State := if s.responds && !s.cp.halted then State.drainRx p (s.port p).rx s else s

/-- The requests of the three ports whose turn has come: after anything that may have completed a waiting reply. -/
def State.drain (s : State) : State := ((s.drainPort 0).drainPort 1).drainPort 2

/-- A request of a command's own row: one that its port has taken in (log entry 61). -/
def State.submit (s : State) (op : Nat) (r : Request) : State :=
  if s.hears r.port = false ∨ 3 < r.port then s
  else if r.port = 3 then s.execute op true r
  else
    (s.onPort r.port fun x => { x with rx := x.rx ++ [{ opcode := op, tag := r.tag, params := r.params }] }).drainPort r.port

/-! ## Packets and frames (R124, R127, R128) -/

/-- A packet written over SPI (R124). -/
def State.writeSpi (s : State) (p : Nat) (bytes : List Byte) : State :=
  if s.spiReady p = false ∨ bytes = [] then s else (s.arrive p (rawOf bytes)).drainPort p

/-- WRITE_PACKET (R124). -/
def execWritePacket (port : Nat) (bytes : List Byte) (s : State) : Host.Outcome State Fault Refusal :=
  .next (if spiPort port then s.writeSpi port bytes else s)

/-- WRITE_PACKET_Q (R122); on P2 a framing error (R129). -/
def execWritePacketQ (port : Nat) (bytes : List Byte) (s : State) : Host.Outcome State Fault Refusal :=
  .next (if spiOf port 0x32 = some .writeQuad then s.writeSpi port bytes else s.unknownSpi port 0x32)

/-- AUX_FRAME (R127): a frame without characters is a lone delimiter, and frames are discarded before a RESYNC reply has been sent
(R128, R140). -/
def execAuxFrame (chars : List Byte) (low : List Bool) (s : State) : Host.Outcome State Fault Refusal :=
  .next (if s.responds = false ∨ (s.port 1).sending = true ∨ auxChars chars low = [] then s
    else (s.arrive 1 (frameOf (auxChars chars low))).drainPort 1)

/-- AUX_BREAK (R128): a low level of so many milliseconds. -/
def execAuxBreak (ms : Nat) (s : State) : Host.Outcome State Fault Refusal :=
  .next (if s.responds = false ∨ ms < 10 then s
    else
      let s := s.onPort 1 fun q => { q with credits := 8, sending := true, rx := q.rx ++ [{ resync := true }] }
      let s := if 1000 ≤ ms then
          ((s.setPar 0x23 0).onPort 1 fun q => { q with baud := 0, baudNext := none }).configWrite else s
      s.drainPort 1)

/-! ## The mailbox (R133) -/

/-- One Update-DR of the JOROS register: a byte with VALID, and LAST ends the packet. Without credit a packet is dropped (R139), and
while the control plane does not run it is discarded. -/
def State.mailboxUpdate (s : State) (reg : BitVec 10) : State :=
  if reg.getLsbD 8 = false then s
  else
    let bs := s.tap.reqBytes ++ [reg.setWidth 8]
    if reg.getLsbD 9 = false then s.onTap fun t => { t with reqBytes := bs }
    else
      let s := s.onTap fun t => { t with reqBytes := [] }
      if s.tap.credit = 0 ∨ s.responds = false then s
      else (s.onTap fun t => { t with credit := t.credit - 1 }).runRaw 3 (rawOf bs)

/-- One Capture-DR of the JOROS register: the next reply byte; the final one restores the credit (R138). -/
def State.mailboxCapture (s : State) : State :=
  match s.tap.replyBytes with
  | [] => s.onTap fun t => { t with dr := 0 }
  | b :: r =>
    s.onTap fun t => { t with dr := b.toNat + 256 + 512 * b2n r.isEmpty, replyBytes := r
                              credit := if r.isEmpty then 1 else t.credit }

/-- JOROS_MAILBOX (R133). The row selects the JOROS register first. -/
def execJorosMailbox (capture : Bool) (reg : BitVec 10) (s : State) : Host.Outcome State Fault Refusal :=
  .next (if s.tapOn then
      let s := s.tapSelect 0x20
      if capture then s.mailboxCapture else s.mailboxUpdate reg
    else s)

/-! ## Commands that complete waiting replies -/

/-- ROUND_BOUNDARY (R217). -/
def execRoundBoundary (a : RoundInput) (s : State) : Host.Outcome State Fault Refusal := .next (s.nextBoundary a).drain

/-- SEGMENT_RECORD (R257). -/
def execSegmentRecord (upsets : List (Nat × Nat)) (s : State) : Host.Outcome State Fault Refusal := .next (s.takeSegment upsets).drain

/-- BOUNDARY_COMMIT (R320). -/
def execBoundaryCommit (s : State) : Host.Outcome State Fault Refusal := .next s.finishCommits.drain

/-- STORE_JOB_CONFIRM (R369). -/
def execStoreJobConfirm (vhold : Nat) (s : State) : Host.Outcome State Fault Refusal := .next (s.storeJobConfirm vhold).drain

/-- WRITER_ENERGY_RECHECK (R372). -/
def execWriterEnergyRecheck (vhold : Nat) (s : State) : Host.Outcome State Fault Refusal := .next (s.writerRecheck vhold).drain

/-! ## The commands of the protocol, as their ports take them in -/

/-- GET_IDENTITY (R157). -/
def execGetIdentity (r : Request) (s : State) : Host.Outcome State Fault Refusal := .next (s.submit 0x0001 r)

/-- GET_STATUS (R158). -/
def execGetStatus (r : Request) (s : State) : Host.Outcome State Fault Refusal := .next (s.submit 0x0002 r)

/-- SET_MODE (R104). -/
def execSetMode (r : Request) (s : State) : Host.Outcome State Fault Refusal := .next (s.submit 0x0003 r)

/-- RESET_CMD (R117). -/
def execResetCmd (r : Request) (s : State) : Host.Outcome State Fault Refusal := .next (s.submit 0x0004 r)

/-- READ_NOTIFY (R154). -/
def execReadNotify (r : Request) (s : State) : Host.Outcome State Fault Refusal := .next (s.submit 0x0005 r)

/-- ACK_EVENTS (R155). -/
def execAckEvents (r : Request) (s : State) : Host.Outcome State Fault Refusal := .next (s.submit 0x0006 r)

/-- SET_EVENT_MASK (R156). -/
def execSetEventMask (r : Request) (s : State) : Host.Outcome State Fault Refusal := .next (s.submit 0x0007 r)

/-- GET_PARAM (R501). -/
def execGetParam (r : Request) (s : State) : Host.Outcome State Fault Refusal := .next (s.submit 0x0101 r)

/-- SET_PARAM (R502). -/
def execSetParam (r : Request) (s : State) : Host.Outcome State Fault Refusal := .next (s.submit 0x0102 r)

/-- GET_PARAM_BLOCK (R504). -/
def execGetParamBlock (r : Request) (s : State) : Host.Outcome State Fault Refusal := .next (s.submit 0x0103 r)

/-- SET_PARAM_BLOCK (R505). -/
def execSetParamBlock (r : Request) (s : State) : Host.Outcome State Fault Refusal := .next (s.submit 0x0104 r)

/-- COMMIT_PARAMS (R506). -/
def execCommitParams (r : Request) (s : State) : Host.Outcome State Fault Refusal := .next (s.submit 0x0105 r)

/-- LOAD_FIR_BANK (R206). -/
def execLoadFirBank (r : Request) (s : State) : Host.Outcome State Fault Refusal := .next (s.submit 0x0106 r)

/-- BIND_MP (R248). -/
def execBindMp (r : Request) (s : State) : Host.Outcome State Fault Refusal := .next (s.submit 0x0201 r)

/-- UNBIND_MP (R249). -/
def execUnbindMp (r : Request) (s : State) : Host.Outcome State Fault Refusal := .next (s.submit 0x0202 r)

/-- READ_REGISTERS (R272). -/
def execReadRegisters (r : Request) (s : State) : Host.Outcome State Fault Refusal := .next (s.submit 0x0203 r)

/-- READ_INSTANT (R273). -/
def execReadInstant (r : Request) (s : State) : Host.Outcome State Fault Refusal := .next (s.submit 0x0204 r)

/-- SET_BALANCE_GROUP (R270). -/
def execSetBalanceGroup (r : Request) (s : State) : Host.Outcome State Fault Refusal := .next (s.submit 0x0205 r)

/-- PULSE_ASSIGN (R267). -/
def execPulseAssign (r : Request) (s : State) : Host.Outcome State Fault Refusal := .next (s.submit 0x0206 r)

/-- SET_TIME (R332). -/
def execSetTime (r : Request) (s : State) : Host.Outcome State Fault Refusal := .next (s.submit 0x0301 r)

/-- ADJUST_TIME (R331). -/
def execAdjustTime (r : Request) (s : State) : Host.Outcome State Fault Refusal := .next (s.submit 0x0302 r)

/-- LOAD_PLAN (R315). -/
def execLoadPlan (r : Request) (s : State) : Host.Outcome State Fault Refusal := .next (s.submit 0x0303 r)

/-- READ_BOUNDARIES (R337). -/
def execReadBoundaries (r : Request) (s : State) : Host.Outcome State Fault Refusal := .next (s.submit 0x0304 r)

/-- BILLING_CLOSE (R329). -/
def execBillingClose (r : Request) (s : State) : Host.Outcome State Fault Refusal := .next (s.submit 0x0305 r)

/-- DEMAND_RESET (R325). -/
def execDemandReset (r : Request) (s : State) : Host.Outcome State Fault Refusal := .next (s.submit 0x0306 r)

/-- SUBMIT_TOKEN (R355). -/
def execSubmitToken (r : Request) (s : State) : Host.Outcome State Fault Refusal := .next (s.submit 0x0401 r)

/-- READ_CREDIT (R356). -/
def execReadCredit (r : Request) (s : State) : Host.Outcome State Fault Refusal := .next (s.submit 0x0402 r)

/-- RELAY_COMMAND (R357). -/
def execRelayCommand (r : Request) (s : State) : Host.Outcome State Fault Refusal := .next (s.submit 0x0403 r)

/-- RECONNECT_ARM (R358). -/
def execReconnectArm (r : Request) (s : State) : Host.Outcome State Fault Refusal := .next (s.submit 0x0404 r)

/-- SET_CREDIT_POLICY (R359). -/
def execSetCreditPolicy (r : Request) (s : State) : Host.Outcome State Fault Refusal := .next (s.submit 0x0405 r)

/-- READ_PROFILE (R395). -/
def execReadProfile (r : Request) (s : State) : Host.Outcome State Fault Refusal := .next (s.submit 0x0501 r)

/-- READ_SNAPSHOT (R396). -/
def execReadSnapshot (r : Request) (s : State) : Host.Outcome State Fault Refusal := .next (s.submit 0x0502 r)

/-- READ_EVENTS (R410). -/
def execReadEvents (r : Request) (s : State) : Host.Outcome State Fault Refusal := .next (s.submit 0x0503 r)

/-- FREEZE_LOG (R411). -/
def execFreezeLog (r : Request) (s : State) : Host.Outcome State Fault Refusal := .next (s.submit 0x0504 r)

/-- UNFREEZE_LOG (R412). -/
def execUnfreezeLog (r : Request) (s : State) : Host.Outcome State Fault Refusal := .next (s.submit 0x0505 r)

/-- STORE_STATUS (R394). -/
def execStoreStatus (r : Request) (s : State) : Host.Outcome State Fault Refusal := .next (s.submit 0x0506 r)

/-- SCRUB_NOW (R392). -/
def execScrubNow (r : Request) (s : State) : Host.Outcome State Fault Refusal := .next (s.submit 0x0507 r)

/-- CHECKPOINT_NOW (R388). -/
def execCheckpointNow (r : Request) (s : State) : Host.Outcome State Fault Refusal := .next (s.submit 0x0508 r)

/-- HOST_AREA (R397). -/
def execHostArea (r : Request) (s : State) : Host.Outcome State Fault Refusal := .next (s.submit 0x0509 r)

/-- READ_PQ (R297). -/
def execReadPq (r : Request) (s : State) : Host.Outcome State Fault Refusal := .next (s.submit 0x0601 r)

/-- READ_HARMONICS (R298). -/
def execReadHarmonics (r : Request) (s : State) : Host.Outcome State Fault Refusal := .next (s.submit 0x0602 r)

/-- ARM_CAPTURE (R299). -/
def execArmCapture (r : Request) (s : State) : Host.Outcome State Fault Refusal := .next (s.submit 0x0603 r)

/-- READ_CAPTURE (R300). -/
def execReadCapture (r : Request) (s : State) : Host.Outcome State Fault Refusal := .next (s.submit 0x0604 r)

/-- CAL_WRITE (R467). -/
def execCalWrite (r : Request) (s : State) : Host.Outcome State Fault Refusal := .next (s.submit 0x0701 r)

/-- CAL_MEASURE (R468). -/
def execCalMeasure (r : Request) (s : State) : Host.Outcome State Fault Refusal := .next (s.submit 0x0702 r)

/-- SPOT_CHECK (R184). -/
def execSpotCheck (r : Request) (s : State) : Host.Outcome State Fault Refusal := .next (s.submit 0x0703 r)

/-- SEAL (R469). -/
def execSeal (r : Request) (s : State) : Host.Outcome State Fault Refusal := .next (s.submit 0x0704 r)

/-- ATTEST (R470). -/
def execAttest (r : Request) (s : State) : Host.Outcome State Fault Refusal := .next (s.submit 0x0801 r)

/-- SIGN_READING (R472). -/
def execSignReading (r : Request) (s : State) : Host.Outcome State Fault Refusal := .next (s.submit 0x0802 r)

/-- LOAD_KEYS (R463). -/
def execLoadKeys (r : Request) (s : State) : Host.Outcome State Fault Refusal := .next (s.submit 0x0803 r)

/-- GET_CERTS (R473). -/
def execGetCerts (r : Request) (s : State) : Host.Outcome State Fault Refusal := .next (s.submit 0x0804 r)

/-- DEBUG_AUTH (R474). -/
def execDebugAuth (r : Request) (s : State) : Host.Outcome State Fault Refusal := .next (s.submit 0x0805 r)

/-- ZEROISE (R475). -/
def execZeroise (r : Request) (s : State) : Host.Outcome State Fault Refusal := .next (s.submit 0x0806 r)

/-- IMAGE_BEGIN (R478). -/
def execImageBegin (r : Request) (s : State) : Host.Outcome State Fault Refusal := .next (s.submit 0x0901 r)

/-- IMAGE_DATA (R479). -/
def execImageData (r : Request) (s : State) : Host.Outcome State Fault Refusal := .next (s.submit 0x0902 r)

/-- IMAGE_END (R481). -/
def execImageEnd (r : Request) (s : State) : Host.Outcome State Fault Refusal := .next (s.submit 0x0903 r)

/-- IMAGE_ACTIVATE (R482). -/
def execImageActivate (r : Request) (s : State) : Host.Outcome State Fault Refusal := .next (s.submit 0x0904 r)

/-- UCODE_ACTIVATE (R485). -/
def execUcodeActivate (r : Request) (s : State) : Host.Outcome State Fault Refusal := .next (s.submit 0x0905 r)

/-- REMAP_CHANNEL (R486). -/
def execRemapChannel (r : Request) (s : State) : Host.Outcome State Fault Refusal := .next (s.submit 0x0A01 r)

/-- RETIRE_ISLAND (R489). -/
def execRetireIsland (r : Request) (s : State) : Host.Outcome State Fault Refusal := .next (s.submit 0x0A02 r)

/-- RESTORE_ISLAND (R490). -/
def execRestoreIsland (r : Request) (s : State) : Host.Outcome State Fault Refusal := .next (s.submit 0x0A03 r)

/-- LANE_TEST (R491). -/
def execLaneTest (r : Request) (s : State) : Host.Outcome State Fault Refusal := .next (s.submit 0x0A04 r)

/-- HOLDUP_TEST (R71). -/
def execHoldupTest (r : Request) (s : State) : Host.Outcome State Fault Refusal := .next (s.submit 0x0A05 r)

/-- POLL_HANDLE (R146). -/
def execPollHandle (r : Request) (s : State) : Host.Outcome State Fault Refusal := .next (s.submit 0x0B01 r)

/-- CANCEL_HANDLE (R147). -/
def execCancelHandle (r : Request) (s : State) : Host.Outcome State Fault Refusal := .next (s.submit 0x0B02 r)

/-- READ_COMPLETIONS (R148). -/
def execReadCompletions (r : Request) (s : State) : Host.Outcome State Fault Refusal := .next (s.submit 0x0B03 r)

end Sys2Proof.Machine
end

