-- ==== Sys2Proof/Machine/Dispatch.lean ====
section
/-! DEFINITION. The meaning of each command: one arm per constructor of `Instr`, in the order of spec/opcode_table.json. -/
namespace Sys2Proof.Machine

/-- The effect of a command on everything but the queue. -/
def exec (i : Instr) (s : State) : Host.Outcome State Fault Refusal :=
  match i with
  | .getIdentity r => Sys2Proof.Machine.execGetIdentity r s
  | .getStatus r => Sys2Proof.Machine.execGetStatus r s
  | .setMode r => Sys2Proof.Machine.execSetMode r s
  | .resetCmd r => Sys2Proof.Machine.execResetCmd r s
  | .resetCmdStart vddio => Sys2Proof.Machine.execResetCmdStart s vddio
  | .readNotify r => Sys2Proof.Machine.execReadNotify r s
  | .ackEvents r => Sys2Proof.Machine.execAckEvents r s
  | .setEventMask r => Sys2Proof.Machine.execSetEventMask r s
  | .getParam r => Sys2Proof.Machine.execGetParam r s
  | .setParam r => Sys2Proof.Machine.execSetParam r s
  | .getParamBlock r => Sys2Proof.Machine.execGetParamBlock r s
  | .setParamBlock r => Sys2Proof.Machine.execSetParamBlock r s
  | .commitParams r => Sys2Proof.Machine.execCommitParams r s
  | .capService on => Sys2Proof.Machine.execCapService on s
  | .vbatMeasure mv => Sys2Proof.Machine.execVbatMeasure mv s
  | .loadFirBank r => Sys2Proof.Machine.execLoadFirBank r s
  | .bindMp r => Sys2Proof.Machine.execBindMp r s
  | .unbindMp r => Sys2Proof.Machine.execUnbindMp r s
  | .readRegisters r => Sys2Proof.Machine.execReadRegisters r s
  | .readInstant r => Sys2Proof.Machine.execReadInstant r s
  | .setBalanceGroup r => Sys2Proof.Machine.execSetBalanceGroup r s
  | .pulseAssign r => Sys2Proof.Machine.execPulseAssign r s
  | .setTime r => Sys2Proof.Machine.execSetTime r s
  | .adjustTime r => Sys2Proof.Machine.execAdjustTime r s
  | .slewComplete => Sys2Proof.Machine.execSlewComplete s
  | .loadPlan r => Sys2Proof.Machine.execLoadPlan r s
  | .readBoundaries r => Sys2Proof.Machine.execReadBoundaries r s
  | .billingClose r => Sys2Proof.Machine.execBillingClose r s
  | .demandReset r => Sys2Proof.Machine.execDemandReset r s
  | .submitToken r => Sys2Proof.Machine.execSubmitToken r s
  | .tokenApply => Sys2Proof.Machine.execTokenApply s
  | .tokenLockoutEnd mp => Sys2Proof.Machine.execTokenLockoutEnd mp s
  | .readCredit r => Sys2Proof.Machine.execReadCredit r s
  | .relayCommand r => Sys2Proof.Machine.execRelayCommand r s
  | .relayOverrideEnd mp => Sys2Proof.Machine.execRelayOverrideEnd mp s
  | .relayTestEnd mp => Sys2Proof.Machine.execRelayTestEnd mp s
  | .reconnectArm r => Sys2Proof.Machine.execReconnectArm r s
  | .setCreditPolicy r => Sys2Proof.Machine.execSetCreditPolicy r s
  | .powerLimitHoldEnd mp => Sys2Proof.Machine.execPowerLimitHoldEnd mp s
  | .readProfile r => Sys2Proof.Machine.execReadProfile r s
  | .readSnapshot r => Sys2Proof.Machine.execReadSnapshot r s
  | .readEvents r => Sys2Proof.Machine.execReadEvents r s
  | .freezeLog r => Sys2Proof.Machine.execFreezeLog r s
  | .unfreezeLog r => Sys2Proof.Machine.execUnfreezeLog r s
  | .logFreezeTimeout => Sys2Proof.Machine.execLogFreezeTimeout s
  | .storeStatus r => Sys2Proof.Machine.execStoreStatus r s
  | .scrubNow r => Sys2Proof.Machine.execScrubNow r s
  | .checkpointNow r => Sys2Proof.Machine.execCheckpointNow r s
  | .hostArea r => Sys2Proof.Machine.execHostArea r s
  | .readPq r => Sys2Proof.Machine.execReadPq r s
  | .readHarmonics r => Sys2Proof.Machine.execReadHarmonics r s
  | .armCapture r => Sys2Proof.Machine.execArmCapture r s
  | .readCapture r => Sys2Proof.Machine.execReadCapture r s
  | .captureComplete => Sys2Proof.Machine.execCaptureComplete s
  | .calWrite r => Sys2Proof.Machine.execCalWrite r s
  | .calMeasure r => Sys2Proof.Machine.execCalMeasure r s
  | .spotCheck r => Sys2Proof.Machine.execSpotCheck r s
  | .seal r => Sys2Proof.Machine.execSeal r s
  | .attest r => Sys2Proof.Machine.execAttest r s
  | .signReading r => Sys2Proof.Machine.execSignReading r s
  | .loadKeys r => Sys2Proof.Machine.execLoadKeys r s
  | .getCerts r => Sys2Proof.Machine.execGetCerts r s
  | .debugAuth r => Sys2Proof.Machine.execDebugAuth r s
  | .debugLevelExpiry => Sys2Proof.Machine.execDebugLevelExpiry s
  | .zeroise r => Sys2Proof.Machine.execZeroise r s
  | .imageBegin r => Sys2Proof.Machine.execImageBegin r s
  | .imageData r => Sys2Proof.Machine.execImageData r s
  | .imageEnd r => Sys2Proof.Machine.execImageEnd r s
  | .imageSessionTimeout => Sys2Proof.Machine.execImageSessionTimeout s
  | .imageActivate r => Sys2Proof.Machine.execImageActivate r s
  | .controlCoreSwitch vddio => Sys2Proof.Machine.execControlCoreSwitch s vddio
  | .controlCoreFallback vddio => Sys2Proof.Machine.execControlCoreFallback s vddio
  | .ucodeActivate r => Sys2Proof.Machine.execUcodeActivate r s
  | .ucodeSwitch => Sys2Proof.Machine.execUcodeSwitch s
  | .remapChannel r => Sys2Proof.Machine.execRemapChannel r s
  | .remapEffect => Sys2Proof.Machine.execRemapEffect s
  | .retireIsland r => Sys2Proof.Machine.execRetireIsland r s
  | .restoreIsland r => Sys2Proof.Machine.execRestoreIsland r s
  | .laneTest r => Sys2Proof.Machine.execLaneTest r s
  | .holdupTest r => Sys2Proof.Machine.execHoldupTest r s
  | .pollHandle r => Sys2Proof.Machine.execPollHandle r s
  | .cancelHandle r => Sys2Proof.Machine.execCancelHandle r s
  | .readCompletions r => Sys2Proof.Machine.execReadCompletions r s
  | .readPortStatus port => Sys2Proof.Machine.execReadPortStatus port s
  | .writePacket port bytes => Sys2Proof.Machine.execWritePacket port bytes s
  | .writePacketQ port bytes => Sys2Proof.Machine.execWritePacketQ port bytes s
  | .readPacket port clocked => Sys2Proof.Machine.execReadPacket port clocked s
  | .readPacketQ port clocked => Sys2Proof.Machine.execReadPacketQ port clocked s
  | .spiUnknownInstruction port code => Sys2Proof.Machine.execSpiUnknownInstruction port s code
  | .auxFrame chars low => Sys2Proof.Machine.execAuxFrame chars low s
  | .auxBreak ms => Sys2Proof.Machine.execAuxBreak ms s
  | .auxReplySent => Sys2Proof.Machine.execAuxReplySent s
  | .jorosMailbox capture reg => Sys2Proof.Machine.execJorosMailbox capture reg s
  | .idcode => Sys2Proof.Machine.execIdcode s
  | .samplePreload pins preload => Sys2Proof.Machine.execSamplePreload pins preload s
  | .extest pins => Sys2Proof.Machine.execExtest s pins
  | .clamp => Sys2Proof.Machine.execClamp s
  | .highz => Sys2Proof.Machine.execHighz s
  | .debug op => Sys2Proof.Machine.execDebug s op
  | .bypass code => Sys2Proof.Machine.execBypass code s
  | .trstN => Sys2Proof.Machine.execTrstN s
  | .resetN vddio => Sys2Proof.Machine.execResetN s vddio
  | .watchdogExpiry vddio => Sys2Proof.Machine.execWatchdogExpiry s vddio
  | .controlPlaneReady => Sys2Proof.Machine.execControlPlaneReady s
  | .calLink samples => Sys2Proof.Machine.execCalLink samples s
  | .calLinkOpenTimeout => Sys2Proof.Machine.execCalLinkOpenTimeout s
  | .calibrateTimeout => Sys2Proof.Machine.execCalibrateTimeout s
  | .pfail vmain vhold => Sys2Proof.Machine.execPfail vmain vhold s
  | .fullMeteringReturn vmain => Sys2Proof.Machine.execFullMeteringReturn vmain s
  | .rideThroughEnd vhold => Sys2Proof.Machine.execRideThroughEnd vhold s
  | .adjournment a => Sys2Proof.Machine.execAdjournment a s
  | .startCondition a => Sys2Proof.Machine.execStartCondition a s
  | .startAbandoned vhold => Sys2Proof.Machine.execStartAbandoned s vhold
  | .vaonLoss => Sys2Proof.Machine.execVaonLoss s
  | .healthTestStart vmain vhold => Sys2Proof.Machine.execHealthTestStart vmain vhold s
  | .healthTestComplete m => Sys2Proof.Machine.execHealthTestComplete m s
  | .vbatMeasurement mv vhold => Sys2Proof.Machine.execVbatMeasurement mv s vhold
  | .checkpoint => Sys2Proof.Machine.execCheckpoint s
  | .referenceWindow count => Sys2Proof.Machine.execReferenceWindow count s
  | .temperatureReduction t16 => Sys2Proof.Machine.execTemperatureReduction t16 s
  | .temperatureRecovery t16 => Sys2Proof.Machine.execTemperatureRecovery t16 s
  | .creditResync q => Sys2Proof.Machine.execCreditResync q s
  | .notice code => Sys2Proof.Machine.execNotice s code
  | .roundBoundary a => Sys2Proof.Machine.execRoundBoundary a s
  | .noCrossing ch => Sys2Proof.Machine.execNoCrossing ch s
  | .cycleCommit mp => Sys2Proof.Machine.execCycleCommit mp s
  | .cycleCommitDeadline mp => Sys2Proof.Machine.execCycleCommitDeadline mp s
  | .segmentRecord upsets => Sys2Proof.Machine.execSegmentRecord upsets s
  | .laneSelfTest pair sigs => Sys2Proof.Machine.execLaneSelfTest pair sigs s
  | .islandSupplyCheck isl vrefPpm avddPpm t16 => Sys2Proof.Machine.execIslandSupplyCheck isl vrefPpm avddPpm t16 s
  | .overloadEpisodeEnd ch => Sys2Proof.Machine.execOverloadEpisodeEnd ch s
  | .urgentRequest upset => Sys2Proof.Machine.execUrgentRequest s upset
  | .secondIntegrationEnd isl b count upset => Sys2Proof.Machine.execSecondIntegrationEnd isl b count s upset
  | .secondSelfTest isl b cHalf cZero => Sys2Proof.Machine.execSecondSelfTest isl b cHalf cZero s
  | .pqItem upsets => Sys2Proof.Machine.execPqItem upsets s
  | .frequencyWindowEnd ch => Sys2Proof.Machine.execFrequencyWindowEnd ch s
  | .harmonicWindowEnd ch => Sys2Proof.Machine.execHarmonicWindowEnd ch s
  | .coalesceWindowClose => Sys2Proof.Machine.execCoalesceWindowClose s
  | .boundaryFreeze => Sys2Proof.Machine.execBoundaryFreeze s
  | .anchor => Sys2Proof.Machine.execAnchor s
  | .boundaryCommit => Sys2Proof.Machine.execBoundaryCommit s
  | .boundarySigning => Sys2Proof.Machine.execBoundarySigning s
  | .boundaryTableRefill => Sys2Proof.Machine.execBoundaryTableRefill s
  | .boundaryTableLow => Sys2Proof.Machine.execBoundaryTableLow s
  | .zoneChange => Sys2Proof.Machine.execZoneChange s
  | .rtcCorrection t16 => Sys2Proof.Machine.execRtcCorrection t16 s
  | .rtcDriftCheck => Sys2Proof.Machine.execRtcDriftCheck s
  | .balanceWindow g => Sys2Proof.Machine.execBalanceWindow g s
  | .pulseEdge out => Sys2Proof.Machine.execPulseEdge out s
  | .relayRefresh di => Sys2Proof.Machine.execRelayRefresh di s
  | .storeJobConfirm vhold => Sys2Proof.Machine.execStoreJobConfirm vhold s
  | .writerEnergyRecheck vhold => Sys2Proof.Machine.execWriterEnergyRecheck vhold s
  | .scrubWord normal margin again => Sys2Proof.Machine.execScrubWord normal margin again s
  | .eventGroup upset => Sys2Proof.Machine.execEventGroup upset s
  | .tamperSample a => Sys2Proof.Machine.execTamperSample a s
  | .supplyGlitch => Sys2Proof.Machine.execSupplyGlitch s
  | .rtcOscillatorStop => Sys2Proof.Machine.execRtcOscillatorStop s
  | .lockExpiry => Sys2Proof.Machine.execLockExpiry s
  | .securityJobDone poisoned => Sys2Proof.Machine.execSecurityJobDone poisoned s
  | .sessionKeyExpiry anchor => Sys2Proof.Machine.execSessionKeyExpiry anchor s
  | .entropyFailure => Sys2Proof.Machine.execEntropyFailure s
  | .resetNRelease => Sys2Proof.Machine.execResetNRelease s
  | .supplyGlitchClear => Sys2Proof.Machine.execSupplyGlitchClear s
  | .rtcOscillatorResumed => Sys2Proof.Machine.execRtcOscillatorResumed s

end Sys2Proof.Machine
end

