-- ==== Sys2Proof/Safety.lean ====
section
/-! DEFINITION. The terms in which statements about the machine speak: what a command may change and what none may, the invariant
that every step keeps, and the conditions under which a request is taken and executed at once. -/
namespace Sys2Proof.Machine

/-! ## OTP only ever gains bits (R107, R435, R446) -/

/-- Every bit programmed in p is programmed in q. -/
def PairLe (p q : OtpPair) : Prop := (p.a = true → q.a = true) ∧ (p.b = true → q.b = true)

/-- Every bit programmed in a row of pairs is programmed in another; an unlisted pair is unprogrammed. -/
def PairsLe (l m : List OtpPair) : Prop := ∀ i, PairLe (l.getD i {}) (m.getD i {})

/-- What OTP can become: the lifecycle pairs, the evidence counters and the rollback count gain bits, and the anchor slots
keep what they hold. -/
structure OtpLe (o p : Otp) : Prop where
  l1 : PairLe o.l1 p.l1
  l2 : PairLe o.l2 p.l2
  l3 : PairLe o.l3 p.l3
  evidence : ∀ c, PairsLe (o.evidence.getD c []) (p.evidence.getD c [])
  rollback : PairsLe o.rollback p.rollback
  vendor : o.vendorAnchors <+: p.vendorAnchors
  ops : o.opsAnchors <+: p.opsAnchors
  met : o.metAnchors <+: p.metAnchors

/-! ## The canonical form of the parameter list -/

/-- The parameter list by strictly rising PID. -/
def Params.sorted (l : List (Nat × BitVec 32)) : Prop := l.Pairwise fun x y => x.1 < y.1

/-! ## The relation -/

/-- The numbers of units that a state lists. -/
def State.sizes (s : State) : Nat × Nat × Nat × Nat × Nat × Nat :=
  (s.ports.length, s.channels.length, s.islands.length, s.points.length, s.pulses.length, s.groups.length)

/-- t differs from s at most in the parts whose bit is set in w; the slot (bit 29) is a part of its own beside the rest of
the time base (bit 4). -/
structure Same (w : Nat) (s t : State) : Prop where
  pending : w.testBit 0 = false → t.pending = s.pending
  fuses : w.testBit 1 = false → t.fuses = s.fuses
  otp : w.testBit 2 = false → t.otp = s.otp
  power : w.testBit 3 = false → t.power = s.power
  clock : w.testBit 4 = false → t.clock = s.clock
  mode : w.testBit 5 = false → t.mode = s.mode
  cp : w.testBit 6 = false → t.cp = s.cp
  ports : w.testBit 7 = false → t.ports = s.ports
  tap : w.testBit 8 = false → t.tap = s.tap
  queues : w.testBit 9 = false → t.queues = s.queues
  params : w.testBit 10 = false → t.params = s.params
  channels : w.testBit 11 = false → t.channels = s.channels
  islands : w.testBit 12 = false → t.islands = s.islands
  engine : w.testBit 13 = false → t.engine = s.engine
  q8 : w.testBit 14 = false → t.q8 = s.q8
  q28 : w.testBit 15 = false → t.q28 = s.q28
  points : w.testBit 16 = false → t.points = s.points
  bindSeq : w.testBit 17 = false → t.bindSeq = s.bindSeq
  pulses : w.testBit 18 = false → t.pulses = s.pulses
  groups : w.testBit 19 = false → t.groups = s.groups
  tariff : w.testBit 20 = false → t.tariff = s.tariff
  relays : w.testBit 21 = false → t.relays = s.relays
  pq : w.testBit 22 = false → t.pq = s.pq
  events : w.testBit 23 = false → t.events = s.events
  tamper : w.testBit 24 = false → t.tamper = s.tamper
  store : w.testBit 25 = false → t.store = s.store
  security : w.testBit 26 = false → t.security = s.security
  images : w.testBit 27 = false → t.images = s.images
  free : w.testBit 28 = false → t.free = s.free
  slot : w.testBit 29 = false → t.clock.slot = s.clock.slot
  otpLe : OtpLe s.otp t.otp
  sizes : t.sizes = s.sizes
  host : Memory.wf s.store.host = true → Memory.wf t.store.host = true
  sorted : Params.sorted s.params → Params.sorted t.params

/-! ## The parts of State by their bit in a mask -/

/-- Part: the queue of commands. -/
abbrev partPending : Nat := 0x1

/-- Part: what is fixed at manufacture. -/
abbrev partFuses : Nat := 0x2

/-- Part: OTP. -/
abbrev partOtp : Nat := 0x4

/-- Part: supply. -/
abbrev partPower : Nat := 0x8

/-- Part: the time base. -/
abbrev partClock : Nat := 0x10

/-- Part: mode and lifecycle progress. -/
abbrev partMode : Nat := 0x20

/-- Part: the control plane. -/
abbrev partCp : Nat := 0x40

/-- Part: P0 to P2. -/
abbrev partPorts : Nat := 0x80

/-- Part: P3. -/
abbrev partTap : Nat := 0x100

/-- Part: the flow state of Q0 to Q31. -/
abbrev partQueues : Nat := 0x200

/-- Part: parameter values. -/
abbrev partParams : Nat := 0x400

/-- Part: channels. -/
abbrev partChannels : Nat := 0x800

/-- Part: islands. -/
abbrev partIslands : Nat := 0x1000

/-- Part: the engine. -/
abbrev partEngine : Nat := 0x2000

/-- Part: Q8. -/
abbrev partQ8 : Nat := 0x4000

/-- Part: Q28. -/
abbrev partQ28 : Nat := 0x8000

/-- Part: metering points. -/
abbrev partPoints : Nat := 0x10000

/-- Part: the binding number. -/
abbrev partBindSeq : Nat := 0x20000

/-- Part: pulse outputs. -/
abbrev partPulses : Nat := 0x40000

/-- Part: balance groups. -/
abbrev partGroups : Nat := 0x80000

/-- Part: the calendar sequencer. -/
abbrev partTariff : Nat := 0x100000

/-- Part: the relay controller. -/
abbrev partRelays : Nat := 0x200000

/-- Part: power quality. -/
abbrev partPq : Nat := 0x400000

/-- Part: the event recorder. -/
abbrev partEvents : Nat := 0x800000

/-- Part: tamper and alarms. -/
abbrev partTamper : Nat := 0x1000000

/-- Part: the store. -/
abbrev partStore : Nat := 0x2000000

/-- Part: security. -/
abbrev partSecurity : Nat := 0x4000000

/-- Part: image slots. -/
abbrev partImages : Nat := 0x8000000

/-- Part: the counter of free values. -/
abbrev partFree : Nat := 0x10000000

/-- Part: the sample index within the time base. -/
abbrev partSlot : Nat := 0x20000000

/-! ## The invariant -/

/-- What every step keeps: the numbers of units (R2, R3), and the canonical forms of the host-reserved region and of the parameter
list. -/
structure Inv (s : State) : Prop where
  sizes : s.sizes = (3, 512, 8, 256, 8, 16)
  host : Memory.wf s.store.host = true
  sorted : Params.sorted s.params

/-! ## Requests that are taken at once -/

/-- The device answers on the request's port, and that has nothing before it: no request in its turn and no reply that waits (R137),
and no debugger has halted the control core (R109).
Port 3 is the mailbox of P3 (R133). -/
abbrev Takes (s : State) (r : Request) : Prop :=
  s.hears r.port = true ∧ (r.port = 3 ∨ (r.port < 3 ∧ r.port < s.ports.length ∧ (s.port r.port).rx = [] ∧ (s.port r.port).busy = false))
    ∧ s.cp.halted = false

/-- A request that is taken at once, on a port with the privileges of its command, in a mode that answers (R112). -/
abbrev Asked (s : State) (r : Request) (op : Nat) : Prop :=
  Takes s r ∧ needPriv s r op = .ok () ∧ s.mode.mode.responding = true

/-- The opcode and the request that a command's own row stands for (log entry 61). -/
def requestOf : Instr → Option (Nat × Request)
  | .getIdentity r => some (0x0001, r)
  | .getStatus r => some (0x0002, r)
  | .setMode r => some (0x0003, r)
  | .resetCmd r => some (0x0004, r)
  | .readNotify r => some (0x0005, r)
  | .ackEvents r => some (0x0006, r)
  | .setEventMask r => some (0x0007, r)
  | .getParam r => some (0x0101, r)
  | .setParam r => some (0x0102, r)
  | .getParamBlock r => some (0x0103, r)
  | .setParamBlock r => some (0x0104, r)
  | .commitParams r => some (0x0105, r)
  | .loadFirBank r => some (0x0106, r)
  | .bindMp r => some (0x0201, r)
  | .unbindMp r => some (0x0202, r)
  | .readRegisters r => some (0x0203, r)
  | .readInstant r => some (0x0204, r)
  | .setBalanceGroup r => some (0x0205, r)
  | .pulseAssign r => some (0x0206, r)
  | .setTime r => some (0x0301, r)
  | .adjustTime r => some (0x0302, r)
  | .loadPlan r => some (0x0303, r)
  | .readBoundaries r => some (0x0304, r)
  | .billingClose r => some (0x0305, r)
  | .demandReset r => some (0x0306, r)
  | .submitToken r => some (0x0401, r)
  | .readCredit r => some (0x0402, r)
  | .relayCommand r => some (0x0403, r)
  | .reconnectArm r => some (0x0404, r)
  | .setCreditPolicy r => some (0x0405, r)
  | .readProfile r => some (0x0501, r)
  | .readSnapshot r => some (0x0502, r)
  | .readEvents r => some (0x0503, r)
  | .freezeLog r => some (0x0504, r)
  | .unfreezeLog r => some (0x0505, r)
  | .storeStatus r => some (0x0506, r)
  | .scrubNow r => some (0x0507, r)
  | .checkpointNow r => some (0x0508, r)
  | .hostArea r => some (0x0509, r)
  | .readPq r => some (0x0601, r)
  | .readHarmonics r => some (0x0602, r)
  | .armCapture r => some (0x0603, r)
  | .readCapture r => some (0x0604, r)
  | .calWrite r => some (0x0701, r)
  | .calMeasure r => some (0x0702, r)
  | .spotCheck r => some (0x0703, r)
  | .seal r => some (0x0704, r)
  | .attest r => some (0x0801, r)
  | .signReading r => some (0x0802, r)
  | .loadKeys r => some (0x0803, r)
  | .getCerts r => some (0x0804, r)
  | .debugAuth r => some (0x0805, r)
  | .zeroise r => some (0x0806, r)
  | .imageBegin r => some (0x0901, r)
  | .imageData r => some (0x0902, r)
  | .imageEnd r => some (0x0903, r)
  | .imageActivate r => some (0x0904, r)
  | .ucodeActivate r => some (0x0905, r)
  | .remapChannel r => some (0x0A01, r)
  | .retireIsland r => some (0x0A02, r)
  | .restoreIsland r => some (0x0A03, r)
  | .laneTest r => some (0x0A04, r)
  | .holdupTest r => some (0x0A05, r)
  | .pollHandle r => some (0x0B01, r)
  | .cancelHandle r => some (0x0B02, r)
  | .readCompletions r => some (0x0B03, r)
  | .resetCmdStart _ | .capService _ | .vbatMeasure _ | .slewComplete | .tokenApply | .tokenLockoutEnd _
  | .relayOverrideEnd _ | .relayTestEnd _ | .powerLimitHoldEnd _ | .logFreezeTimeout | .captureComplete
  | .debugLevelExpiry | .imageSessionTimeout | .controlCoreSwitch _ | .controlCoreFallback _ | .ucodeSwitch | .remapEffect
  | .readPortStatus _ | .writePacket _ _ | .writePacketQ _ _ | .readPacket _ _ | .readPacketQ _ _
  | .spiUnknownInstruction _ _ | .auxFrame _ _ | .auxBreak _ | .auxReplySent | .jorosMailbox _ _ | .idcode
  | .samplePreload _ _ | .extest _ | .clamp | .highz | .debug _ | .bypass _ | .trstN | .resetN _ | .watchdogExpiry _
  | .controlPlaneReady | .calLink _ | .calLinkOpenTimeout | .calibrateTimeout | .pfail _ _ | .fullMeteringReturn _
  | .rideThroughEnd _ | .adjournment _ | .startCondition _ | .startAbandoned _ | .vaonLoss | .healthTestStart _ _
  | .healthTestComplete _ | .vbatMeasurement _ _ | .checkpoint | .referenceWindow _ | .temperatureReduction _
  | .temperatureRecovery _ | .creditResync _ | .notice _ | .roundBoundary _ | .noCrossing _ | .cycleCommit _
  | .cycleCommitDeadline _ | .segmentRecord _ | .laneSelfTest _ _ | .islandSupplyCheck _ _ _ _ | .overloadEpisodeEnd _
  | .urgentRequest _ | .secondIntegrationEnd _ _ _ _ | .secondSelfTest _ _ _ _ | .pqItem _ | .frequencyWindowEnd _
  | .harmonicWindowEnd _ | .coalesceWindowClose | .boundaryFreeze | .anchor | .boundaryCommit | .boundarySigning
  | .boundaryTableRefill | .boundaryTableLow | .zoneChange | .rtcCorrection _ | .rtcDriftCheck | .balanceWindow _
  | .pulseEdge _ | .relayRefresh _ | .storeJobConfirm _ | .writerEnergyRecheck _ | .scrubWord _ _ _ | .eventGroup _
  | .tamperSample _ | .supplyGlitch | .rtcOscillatorStop | .lockExpiry | .securityJobDone _ | .sessionKeyExpiry _
  | .entropyFailure | .resetNRelease | .supplyGlitchClear | .rtcOscillatorResumed => none

end Sys2Proof.Machine
end

