-- ==== Sys2Proof/Certificates/Slice0/Obligations.lean ====
section
/-! DEFINITION. The statements for the provers. -/
open Sys2Proof Sys2Proof.Machine

/-- A step with a command at the front of the queue is that command's meaning on the state with the queue's rest. -/
def Obligations.StepRunsFrontCommand : Prop :=
  ∀ (s : State) (c : Instr) (rest : List Instr), s.pending = c :: rest → step s = exec c { s with pending := rest }

/-- On an empty queue the block idles: the step answers the state itself (log entry 2, DESIGN CHOICE). -/
def Obligations.EmptyQueueIdles : Prop := ∀ s : State, s.pending = [] → step s = .next s

/-- The state after reset meets the invariant. -/
def Obligations.ResetMeetsInvariant : Prop := Inv State.reset

/-- Every step keeps the invariant: the numbers of units, the canonical form of the host-reserved region and that of the
parameter list. -/
def Obligations.EveryStepKeepsInvariant : Prop := ∀ s t : State, Inv s → step s = .next t → Inv t

/-- No command takes a programmed bit of OTP back: the lifecycle pairs, the evidence counters and the rollback count only gain
bits, and a programmed anchor slot keeps its digest. -/
def Obligations.EveryStepOnlyProgramsOtp : Prop := ∀ s t : State, step s = .next t → OtpLe s.otp t.otp

/-- The lifecycle never goes back. -/
def Obligations.LifecycleNeverGoesBack : Prop := ∀ s t : State, step s = .next t → s.life.num ≤ t.life.num

/-- No command touches the queue of commands or what is fixed at manufacture (fuses, test parameters, ROM version). -/
def Obligations.CommandsLeaveQueueAndFuses : Prop :=
  ∀ (c : Instr) (s t : State), exec c s = .next t → t.pending = s.pending ∧ t.fuses = s.fuses

/-- The sample index moves only at a round boundary, in a reference window, in an adjournment and in a start. -/
def Obligations.SampleIndexMovesOnly : Prop :=
  ∀ (c : Instr) (s t : State), exec c s = .next t → t.now ≠ s.now →
    (∃ a, c = .roundBoundary a) ∨ (∃ n, c = .referenceWindow n) ∨ (∃ a, c = .adjournment a) ∨ (∃ a, c = .startCondition a)
      ∨ c = .controlPlaneReady

/-- Every command answers a next state in every state: no command faults, and none is refused by the model. -/
def Obligations.EveryCommandAnswers : Prop := ∀ (c : Instr) (s : State), ∃ t, exec c s = .next t

/-- The table gives no row any bits, so that no word spells a command. -/
def Obligations.NoWordSpellsACommand : Prop :=
  ∀ (nbits w : Nat) (s : State), decodeTableWord nbits w = none ∧ s.withFetchWord nbits w = s

/-- R153: event sequences are compared by serial arithmetic. -/
def Obligations.SerialOrderOfEvents : Prop :=
  ∀ a b : Nat, a < 2 ^ 32 → b < 2 ^ 32 → (serialLe 32 a b = true ↔ ((b : Int) - a) % 2 ^ 32 < 2 ^ 31)

/-- R132: the fields of IDCODE by their bits, and the rule's example. -/
def Obligations.IdcodeHasItsFields : Prop :=
  (∀ s : State, s.idcode < 2 ^ 32 ∧ bits s.idcode 28 4 = s.fuses.dieRev % 16 ∧ bits s.idcode 12 16 = variantCode s.fuses.variant
    ∧ bits s.idcode 1 11 = 0x1D6 ∧ bits s.idcode 0 1 = 1)
  ∧ variantCode .v512 = 0x0512 ∧ variantCode .v256 = 0x0256 ∧ variantCode .v128 = 0x0128 ∧ variantCode .v064 = 0x0064
  ∧ (∀ s : State, s.fuses.variant = .v512 → s.fuses.dieRev = 1 → s.idcode = 0x105123AD)

/-- R349: a token's digits and fields: 20 digits form the integer, most significant first; AMOUNT is MANT times ten to the
power EXP. -/
def Obligations.TokenFields : Prop :=
  (∀ (ds : List Nat), (∀ d ∈ ds, d ≤ 9) →
    digitsValue (ds.map fun d => BitVec.ofNat 8 (48 + d)) 0 = some (ds.foldl (fun v d => 10 * v + d) 0))
  ∧ (∀ cls serial e mant mac : Nat, cls < 16 → serial < 2 ^ 20 → e < 16 → mant < 2 ^ 14 → mac < 2 ^ 24 →
    let v := cls * 2 ^ 62 + serial * 2 ^ 42 + e * 2 ^ 38 + mant * 2 ^ 24 + mac
    v < 2 ^ 66 ∧ bits v 62 4 = cls ∧ bits v 42 20 = serial ∧ v % 2 ^ 24 = mac ∧ tokenAmount v = mant * 10 ^ e)

/-- R136: the check value of CRC-32C, and its value over nothing. -/
def Obligations.CrcCheckValue : Prop :=
  crc32c [0x31, 0x32, 0x33, 0x34, 0x35, 0x36, 0x37, 0x38, 0x39] = 0xE3069283 ∧ crc32c [] = 0

/-- R457: a sequence number that a window takes is never acceptable to it again, and a number that the window had taken stays
refused. -/
def Obligations.WindowTakesEachSeqOnce : Prop :=
  ∀ (h q : Nat) (m : BitVec 64), seqOk h m q = true →
    seqOk (seqTake h m q).1 (seqTake h m q).2 q = false
    ∧ ∀ p, seqOk h m p = false → seqOk (seqTake h m q).1 (seqTake h m q).2 p = false

/-- R397: bytes written to the host-reserved region read back, and every other byte reads as before; a byte that nothing has
written reads 0x00. -/
def Obligations.HostRegionReadsBack : Prop :=
  (∀ (a : Nat) (bs : List Byte) (l : List Host.Cell), Memory.wf l = true →
    readHost (putBytes a bs l) a bs.length = bs
    ∧ (∀ k, k < a ∨ a + bs.length ≤ k → readCell (putBytes a bs l) k = readCell l k)
    ∧ Memory.wf (putBytes a bs l) = true)
  ∧ ∀ k, readCell [] k = 0

/-- The sizes of the payloads and records that the device gives out (R157, R158, R272, R273, R297, R356, R317, R330, R143, R292). -/
def Obligations.PayloadsHaveTheirSizes : Prop :=
  ∀ s : State,
    (∀ p v, (s.identity p v).length = 48) ∧ s.statusPayload.length = 512 ∧ (∀ m, (s.registerRecord m).length = 336)
    ∧ (∀ c, (s.channelInstant c).length = 32) ∧ (∀ m, (s.pointInstant m).length = 32) ∧ (∀ o, (s.pulseInstant o).length = 32)
    ∧ (∀ c, (s.pqChannel c).length = 32) ∧ (∀ m, (s.pqPoint m).length = 32) ∧ (∀ m, (s.creditRecord m).length = 64)
    ∧ (∀ e : Entry, e.bytes.length = 16) ∧ (∀ p : Profile, p.bytes.length = 16) ∧ (∀ c : Completion, c.bytes.length = 16)
    ∧ (∀ c : Capture, c.header.length = 256)

/-- What reset leaves, as the spec states it: the initial credits and event masks of the ports (R156), every queue with as many
credits as it has words of depth (R25, R31), lifecycle MANUFACTURE with OTP blank (R107), a host-reserved region that reads 0x00
(R397), no operation, no request and no command waiting. -/
def Obligations.ResetLeaves : Prop :=
  (State.reset.port 0).credits = 16 ∧ (State.reset.port 1).credits = 8 ∧ (State.reset.port 2).credits = 4
  ∧ (State.reset.port 0).mask = 0xFFFFFFFFFFFFFFFF ∧ (State.reset.port 1).mask = 0x0000FF0000009AFF
  ∧ (State.reset.port 2).mask = 0x00000000000004FF
  ∧ (∀ q, State.reset.credits q = queueDepth q)
  ∧ State.reset.life = .manufacture ∧ (∀ c, State.reset.evidCount c = 0)
  ∧ (∀ k, readCell State.reset.store.host k = 0)
  ∧ (∀ p, (State.reset.port p).handles = [] ∧ (State.reset.port p).completions = [] ∧ (State.reset.port p).rx = []
      ∧ (State.reset.port p).replies = [])
  ∧ State.reset.pending = []

/-- GET_IDENTITY, GET_STATUS, READ_NOTIFY, ACK_EVENTS and SET_EVENT_MASK complete with their replies (R154 to R158). -/
def Obligations.IdentityAndNotificationComplete : Prop :=
  (∀ s r, Asked s r 0x0001 → r.params = [] → r.port ≠ 3 →
    exec (.getIdentity r) s = .next (s.replyOk r (s.identity r.port 0)))
  ∧ (∀ s r, Asked s r 0x0001 → r.params = [] → r.port = 3 →
    exec (.getIdentity r) s = .next (s.draw.2.replyOk r (s.draw.2.identity 3 s.draw.1)))
  ∧ (∀ s r, Asked s r 0x0002 → r.params = [] → exec (.getStatus r) s = .next (s.replyOk r s.statusPayload))
  ∧ (∀ s r, Asked s r 0x0005 → r.params.length = 4 → isZero r.params 1 3 = true → byteAt r 0 ≤ 126 →
    ∀ q x set, set = (bitsSet (s.latchOf r.port).toNat 64).filter (fun b => !(decide (8 ≤ b) && decide (b ≤ 10))) →
    (latestSeq (s.port r.port).latchSeq set = some q ∧ x = s
      ∨ latestSeq (s.port r.port).latchSeq set = none ∧ q = s.draw.1 % 2 ^ 32 ∧ x = s.draw.2) →
      exec (.readNotify r) s = .next (x.replyOk r
      (le 8 (s.latchOf r.port).toNat ++ le 8 (s.port r.port).mask.toNat ++ le 4 q
        ++ le 2 ((s.port r.port).notify.length - min (byteAt r 0) (s.port r.port).notify.length)
        ++ le 2 (s.port r.port).overflow ++ le 2 (min (byteAt r 0) (s.port r.port).notify.length) ++ zeros 2
        ++ (((s.port r.port).notify.take (byteAt r 0)).map EvHead.bytes).flatten)))
  ∧ (∀ s r, Asked s r 0x0006 → r.params.length = 16 → isZero r.params 12 4 = true →
    ∃ t, exec (.ackEvents r) s = .next t ∧ Same (partPorts ||| partTap ||| partQueues) s t
      ∧ (r.port < 3 →
        (t.port r.port).notify = (s.port r.port).notify.filter (fun h => !serialLe 32 h.seq (fieldAt r 8 4))
        ∧ (t.port r.port).overflow = 0
        ∧ (t.port r.port).latch
          = (s.port r.port).latch &&& ~~~BitVec.ofNat 64 ((s.port r.port).ackBits (fieldAt r 0 8) (fieldAt r 8 4))))
  ∧ (∀ s r, Asked s r 0x0007 → r.params.length = 8 →
    exec (.setEventMask r) s = .next
      ((s.onPort r.port fun p => { p with mask := BitVec.ofNat 64 (fieldAt r 0 8) }).replyOk r
        (le 8 (s.port r.port).mask.toNat)))

/-- GET_PARAM and GET_PARAM_BLOCK complete with the values that the identifiers read (R501, R504). -/
def Obligations.ParameterReadsComplete : Prop :=
  (∀ s r pid, Asked s r 0x0101 → r.params.length = 4 → isZero r.params 2 2 = true → pid = fieldAt r 0 2 →
    pidInRange pid = true → s.pidAbsent pid = false →
    ∃ acc staged, exec (.getParam r) s = .next (s.replyOk r (le 2 pid ++ le 1 acc ++ le 1 staged ++ le 4 (s.readValue pid)))
      ∧ staged = b2n ((s.port r.port).pendingSet.any fun e => e.1 == pid) ∧ ∀ a, s.access pid = some a → acc = a.num)
  ∧ (∀ s r first n, Asked s r 0x0103 → r.params.length = 8 → isZero r.params 4 4 = true → first = fieldAt r 0 2 →
    n = fieldAt r 2 2 → 1 ≤ n → n ≤ 1016 → pidInRange first = true → first + n ≤ pidRangeEnd first + 1 →
    (∀ i < n, s.pidAbsent (first + i) = false) →
    exec (.getParamBlock r) s = .next (s.replyOk r (le 2 first ++ le 2 n ++ zeros 4
      ++ ((List.range n).map fun i => le 4 (s.readValue (first + i))).flatten)))

/-- SET_PARAM, SET_PARAM_BLOCK and COMMIT_PARAMS: a value is staged on its port, or a set is committed for the next round boundary
(R35, R502 to R506). -/
def Obligations.ParameterWritesComplete : Prop :=
  (∀ s s5 r auth pid v, Takes s r → authField r 8 = .ok auth → pid = fieldAt r 0 2 → v = BitVec.ofNat 32 (fieldAt r 4 4) →
    byteAt r 2 < 2 → isZero r.params 3 1 = true → s.write3 pid v = .ok () → s.write4 [(pid, v)] = .ok () →
    order5 s s.time r 0x0102 (if s.access pid = some .rwA then some 1 else none) 8 auth = .ok s5 →
    s.sealFails pid v = none → s.mode.mode.responding = true → s.aloneOk pid v = true →
    (bit (byteAt r 2) 0 = true → stageFull (s.port r.port).pendingSet [pid] = false →
      exec (.setParam r) s = .next (((s5.onPort r.port fun p => { p with pendingSet := stageIn p.pendingSet pid v }).replyOk r
        (le 2 pid ++ [1, 0])).accepted 0x0102 s.security.sealSt))
    ∧ (bit (byteAt r 2) 0 = false → s.directFails [(pid, v)] = none →
      exec (.setParam r) s = .next (((s5.commitSet [.pid pid v] { id := 0, port := some r.port, flagByte := true }).replyOk r
        (le 2 pid ++ [0, 0]) .round).accepted 0x0102 s.security.sealSt)))
  ∧ (∀ s s5 r auth first n ws, Takes s r → first = fieldAt r 0 2 → n = fieldAt r 2 2 → 1 ≤ n → n ≤ 1016 →
    8 + 4 * n ≤ r.params.length → authField r (8 + 4 * n) = .ok auth → byteAt r 4 < 2 → isZero r.params 5 3 = true →
    pidInRange first = true → first + n ≤ pidRangeEnd first + 1 →
    ws = s.blockWrites first ((List.range n).map fun i => fieldAt r (8 + 4 * i) 4) →
    checkAll (fun e => s.write3 e.1 e.2) ws = .ok () → s.write4 ws = .ok () →
    order5 s s.time r 0x0104 (if (List.range n).any fun i => s.access (first + i) == some .rwA then some 1 else none)
      (8 + 4 * n) auth = .ok s5 →
    checkAll (fun e => s.write6 e.1 e.2) ws = .ok () → s.mode.mode.responding = true →
    checkAll (fun e => s.write8 e.1 e.2) ws = .ok () →
    checkAll (fun e => need (s.aloneOk e.1 e.2) .badParameter) ws = .ok () →
    (bit (byteAt r 4) 0 = true → stageFull (s.port r.port).pendingSet (ws.map fun e => e.1) = false →
      exec (.setParamBlock r) s = .next (((s5.onPort r.port fun p =>
        { p with pendingSet := ws.foldl (fun l e => stageIn l e.1 e.2) p.pendingSet }).replyOk r
          (le 2 first ++ le 2 n ++ zeros 4)).accepted 0x0104 s.security.sealSt))
    ∧ (bit (byteAt r 4) 0 = false → s.directFails ws = none →
      exec (.setParamBlock r) s = .next (((s5.commitSet (ws.map fun e => .pid e.1 e.2) { id := 0, port := some r.port }).replyOk r
        (le 2 first ++ le 2 n ++ zeros 4) .round).accepted 0x0104 s.security.sealSt)))
  ∧ (∀ s r, Asked s r 0x0105 → r.params.length = 4 → byteAt r 0 < 2 → isZero r.params 1 3 = true → r.port < 3 →
    (bit (byteAt r 0) 0 = true → exec (.commitParams r) s = .next
      ((s.onPort r.port fun p => { p with pendingSet := [] }).replyOk r (le 2 (s.port r.port).pendingSet.length ++ zeros 2)))
    ∧ (bit (byteAt r 0) 0 = false → (s.port r.port).pendingSet ≠ [] → (s.port r.port).handles.length < 64 →
      ∃ s1 o, (s.onPort r.port fun p => { p with pendingSet := [] }).accept r 0x0105 = some (s1, o)
        ∧ (s1.recheckAll r.port 0 (s.port r.port).pendingSet = none → s1.setFails (s.port r.port).pendingSet = none →
          exec (.commitParams r) s = .next ((s1.commitOp o).commitSet ((s.port r.port).pendingSet.map fun e => .pid e.1 e.2)
            { id := 0, op := some o, result := (s.port r.port).pendingSet.length }))))

/-- A long command is answered with ACCEPTED and a fresh handle of its port, in place of which none is allocated once 64 are
(R142): what every long command's completion rests on. -/
def Obligations.LongCommandsGetHandles : Prop :=
  ∀ (s : State) (r : Request) (op : Nat) (c : Bool), r.port < 3 → r.port < s.ports.length →
    (64 ≤ (s.port r.port).handles.length → s.accept r op c = none)
    ∧ ((s.port r.port).handles.length < 64 → ∃ t o, s.accept r op c = some (t, o) ∧ Same partPorts s t ∧ o.port = r.port
        ∧ 1 ≤ o.handle ∧ o.handle ≤ 0xFFFF ∧ (∀ e ∈ (s.port r.port).handles, e.handle ≠ o.handle)
        ∧ (t.port r.port).handles = (s.port r.port).handles ++ [{ handle := o.handle, opcode := op, tag := r.tag, committed := c }]
        ∧ (t.port r.port).replies
          = (s.port r.port).replies ++ [{ tag := r.tag, status := .accepted, handle := o.handle }])

/-- POLL_HANDLE, CANCEL_HANDLE and READ_COMPLETIONS (R146 to R148); PROGRESS of a running operation is a free value. -/
def Obligations.HandleCommandsComplete : Prop :=
  (∀ s r, Asked s r 0x0B01 → r.params.length = 2 →
    ∃ g, g ≤ 100 ∧ exec (.pollHandle r) s = .next (s.draw.2.replyOk r
      (match s.draw.2.entry { port := r.port, handle := fieldAt r 0 2 } with
        | none => le 1 0 ++ le 1 g ++ le 2 0
        | some e => le 1 (if e.done then 3 else if e.cancelReq then 2 else 1) ++ le 1 (if e.done then 100 else g) ++ le 2 e.opcode)))
  ∧ (∀ s r o, Asked s r 0x0B02 → r.params.length = 2 → o = { port := r.port, handle := fieldAt r 0 2 } →
    (s.entry o = none → exec (.cancelHandle r) s = .next (s.replyOk r [2]))
    ∧ ∀ e, s.entry o = some e →
      exec (.cancelHandle r) s = .next (if e.done then s.replyOk r [2] else if e.committed then s.replyOk r [1]
        else ((s.onEntry o fun e => { e with cancelReq := true }).stopOp o .cancelled).replyOk r [0]))
  ∧ (∀ s r x rs, Asked s r 0x0B03 → r.params.length = 4 → byteAt r 2 < 2 →
    x = (if bit (byteAt r 2) 0 then s.onPort r.port fun p => p.ackCompletions (fieldAt r 0 2) else s) →
    rs = (x.port r.port).completions.take (byteAt r 3) →
    exec (.readCompletions r) s = .next (x.replyOk r (le 2 rs.length ++ (rs.map Completion.bytes).flatten)))

/-- READ_REGISTERS, READ_INSTANT, READ_CREDIT and READ_PQ complete with one record for each unit asked for, and change nothing but
the reply (R272, R273, R356, R297). -/
def Obligations.UnitReadsComplete : Prop :=
  (∀ s r first n, Asked s r 0x0203 → r.params.length = 4 → isZero r.params 2 2 = true → first = byteAt r 0 → n = byteAt r 1 →
    1 ≤ n → n ≤ 12 → first + n ≤ 256 → first + n ≤ s.nMp →
    exec (.readRegisters r) s = .next (s.replyOk r (le 2 n ++ zeros 6
      ++ ((List.range n).map fun i => s.registerRecord (first + i)).flatten)))
  ∧ (∀ s r k first n f, Asked s r 0x0204 → r.params.length = 4 → k = byteAt r 0 → n = byteAt r 1 → first = fieldAt r 2 2 →
    1 ≤ n → n ≤ 126 →
    (k = 0 ∧ first + n ≤ 512 ∧ first + n ≤ s.nChan ∧ (∀ i < n, (s.isl ((first + i) / 64)).retired = false) ∧ f = s.channelInstant
      ∨ k = 1 ∧ first + n ≤ 256 ∧ first + n ≤ s.nMp ∧ f = s.pointInstant
      ∨ k = 2 ∧ first + n ≤ 8 ∧ f = s.pulseInstant) →
    exec (.readInstant r) s = .next (s.replyOk r (le 2 n ++ zeros 6 ++ ((List.range n).map fun i => f (first + i)).flatten)))
  ∧ (∀ s r first n, Asked s r 0x0402 → r.params.length = 4 → isZero r.params 2 2 = true → first = byteAt r 0 → n = byteAt r 1 →
    1 ≤ n → n ≤ 63 → first + n ≤ 256 → first + n ≤ s.nMp →
    exec (.readCredit r) s = .next (s.replyOk r (le 2 n ++ zeros 6
      ++ ((List.range n).map fun i => s.creditRecord (first + i)).flatten)))
  ∧ (∀ s r k first n f, Asked s r 0x0601 → r.params.length = 4 → k = byteAt r 0 → n = byteAt r 1 → first = fieldAt r 2 2 →
    1 ≤ n → n ≤ 126 →
    (k = 0 ∧ first + n ≤ 512 ∧ first + n ≤ s.nChan ∧ (∀ i < n, (s.isl ((first + i) / 64)).retired = false) ∧ f = s.pqChannel
      ∨ k = 1 ∧ first + n ≤ 256 ∧ first + n ≤ s.nMp ∧ f = s.pqPoint) →
    exec (.readPq r) s = .next (s.replyOk r (le 2 n ++ zeros 6 ++ ((List.range n).map fun i => f (first + i)).flatten)))

/-- READ_HARMONICS completes for a channel and for a point whose channels are all enabled (R298). -/
def Obligations.HarmonicReadsComplete : Prop :=
  ∀ s r i, Asked s r 0x0602 → r.params.length = 4 → isZero r.params 1 1 = true → s.hasHarm = true → i = fieldAt r 2 2 →
    (byteAt r 0 = 0 → i < 512 → i < s.nChan → (s.isl (i / 64)).retired = false → s.harmEnabled i = true →
      exec (.readHarmonics r) s = .next (s.replyOk r (le 2 i ++ le 2 (s.chan i).harm.flags ++ sample8 (s.chan i).harm.windowEnd
        ++ le 2 (s.chan i).harm.nOut ++ zeros 2 ++ le 4 (s.chan i).harm.freq ++ le 2 (s.chan i).harm.thd50
        ++ le 2 (s.chan i).harm.thd63 ++ ((List.range 64).map fun h =>
          le 4 ((s.chan i).harm.orders.getD h (0, 0, 0)).1 ++ le 2 ((s.chan i).harm.orders.getD h (0, 0, 0)).2.1
            ++ le 1 ((s.chan i).harm.orders.getD h (0, 0, 0)).2.2 ++ zeros 1).flatten)))
    ∧ (∀ b, byteAt r 0 = 1 → i < 256 → i < s.nMp → (s.point i).bind = some b → (∀ c ∈ b.chans, s.harmEnabled c = true) →
      exec (.readHarmonics r) s = .next (s.replyOk r (le 1 i ++ zeros 1 ++ le 2 (s.point i).harmFlags ++ sample8 (s.point i).harmEnd
        ++ leI 4 (((List.range 62).map fun h => (s.point i).harmP.getD (h + 2) 0).foldl (· + ·) 0)
        ++ ((List.range 64).map fun h => leI 4 ((s.point i).harmP.getD h 0)).flatten)))

/-- READ_PROFILE without and with an acknowledgement: the entries from FIRST that the ring holds, and on an acknowledgement that
moves the mark a record of the point, after which the reply waits (R395). -/
def Obligations.ProfileReadsComplete : Prop :=
  ∀ s r m want first n payload t, Asked s r 0x0501 → r.params.length = 12 → m = byteAt r 0 → m < s.nMp → byteAt r 1 < 2 →
    want = fieldAt r 2 2 → want ≤ 253 → first = max (fieldAt r 4 4) ((s.point m).pseq - s.ringLen) →
    n = min want ((s.point m).pseq - first) → t = s.countTorn (ringTorn (s.store.profiles.getD m []) first n) →
    payload = (fun mark => le 1 m ++ zeros 1 ++ le 2 n ++ le 4 ((s.point m).pseq - s.ringLen) ++ le 4 (s.point m).pseq
      ++ le 4 first ++ le 4 mark ++ ((List.range n).map fun i => match ringAt (s.store.profiles.getD m []) (first + i) with
        | some x => x.bytes
        | none => zeros 16).flatten) →
    (byteAt r 1 = 0 → exec (.readProfile r) s = .next (t.replyOk r (payload (s.point m).pmark)))
    ∧ (byteAt r 1 = 1 → fieldAt r 8 4 < (s.point m).pmark → (s.point m).pmark ≤ (s.point m).pseq →
      exec (.readProfile r) s = .next (t.replyOk r (payload (s.point m).pmark)))
    ∧ (byteAt r 1 = 1 → (s.point m).pmark ≤ fieldAt r 8 4 → fieldAt r 8 4 < (s.point m).pseq →
      ∀ u, u = t.onPoint m (fun p => { p with pmark := fieldAt r 8 4 + 1, wrapRaised := false }) →
        exec (.readProfile r) s = .next ((u.enqueue { recs := [.point m ((u.point m).record 7)], reply := some r.port }).replyOk r
          (payload (fieldAt r 8 4 + 1)) .store))

/-- READ_SNAPSHOT, READ_EVENTS and STORE_STATUS complete (R396, R410, R394). -/
def Obligations.StoreReadsComplete : Prop :=
  (∀ s r m age snap, Asked s r 0x0502 → r.params.length = 4 → m = byteAt r 0 → m < s.nMp → age = byteAt r 1 → age ≤ 23 →
    byteAt r 2 = 0 → isZero r.params 3 1 = true →
    snap = (if age < (s.point m).snapCount then ringAt (s.store.snaps.getD m []) ((s.point m).sseq - age) else none) →
    ∃ t, Same (partStore ||| partPorts ||| partTap) s t ∧ exec (.readSnapshot r) s = .next t
      ∧ t = ((if age < (s.point m).snapCount then s.countTorn (ringTorn (s.store.snaps.getD m []) ((s.point m).sseq - age) 1) else s).replyOk r
        (le 1 m ++ le 1 age ++ le 1 (b2n snap.isSome) ++ zeros 1 ++ le 2 0 ++ zeros 2
          ++ match snap with
            | some x => x.bytes
            | none => zeros 512)))
  ∧ (∀ s r, Asked s r 0x0503 → r.params.length = 8 → isZero r.params 5 3 = true → byteAt r 4 ≤ 126 →
    ∃ next oldest first n t, next = (match s.events.freeze with
        | some f => f.seq
        | none => s.store.ringNext)
      ∧ oldest = next - 524288 ∧ first = (if serialLe 32 oldest (fieldAt r 0 4) then fieldAt r 0 4 else oldest)
      ∧ n ≤ byteAt r 4 ∧ (serialLe 32 first next = false → n = 0) ∧ Same partStore s t
      ∧ exec (.readEvents r) s = .next (t.replyOk r (le 4 oldest ++ le 4 next ++ le 4 first ++ le 2 n
        ++ le 1 (b2n s.events.freeze.isSome) ++ zeros 1
        ++ ((List.range n).map fun i => t.eventBytes ((first + i) % 2 ^ 32)).flatten)))
  ∧ (∀ s r, Asked s r 0x0506 → r.params = [] →
    exec (.storeStatus r) s = .next (s.replyOk r (s.storeBlock ++ time6 s.store.scrub.passStart ++ zeros 2
      ++ le 4 s.store.scrub.passWeak ++ le 4 s.store.scrub.passCorrected ++ le 4 s.store.scrub.passUncorr
      ++ le 4 (if s.store.scrub.full then 10 else 604800 / 2 ^ s.store.scrub.k) ++ le 4 s.store.lastBad
      ++ leI 2 s.store.scrub.theta ++ zeros 2)))

/-- HOST_AREA, SCRUB_NOW, CHECKPOINT_NOW, FREEZE_LOG and UNFREEZE_LOG complete (R397, R392, R388, R411, R412): a write of the
host-reserved region is handed to the writer and its reply waits; a freeze stands for 600 s of slots. -/
def Obligations.StoreCommandsComplete : Prop :=
  (∀ s r off n, Takes s r → s.mode.mode.responding = true → off = fieldAt r 4 4 → n = fieldAt r 8 2 → byteAt r 0 < 2 →
    isZero r.params 1 3 = true → isZero r.params 10 2 = true → 1 ≤ n → off + n ≤ 3145728 →
    needPriv s r 0x0509 false (!(bit (byteAt r 0) 0)) = .ok () →
    (bit (byteAt r 0) 0 = false → n ≤ 4000 → r.params.length = 12 →
      exec (.hostArea r) s = .next (s.replyOk r (le 4 off ++ le 2 n ++ zeros 2 ++ readHost s.store.host off n)))
    ∧ (bit (byteAt r 0) 0 = true → r.params.length = 12 + n →
      exec (.hostArea r) s = .next ((s.enqueue { prio := 3, recs := [.host off (r.params.drop 12)], reply := some r.port }).replyOk r
        (le 4 off ++ le 2 n ++ zeros 2) .store)))
  ∧ (∀ s r, Asked s r 0x0507 → r.params = [] → s.store.scrub.nowOp = none → (s.port r.port).handles.length < 64 →
    ∃ t o, s.accept r 0x0507 = some (t, o) ∧ exec (.scrubNow r) s = .next
      (t.onStore fun x => { x with scrub := { x.scrub.restart s.time with nowOp := some o, full := true } }))
  ∧ (∀ s r, Asked s r 0x0508 → r.params = [] → (s.port r.port).handles.length < 64 → ∃ t o, s.accept r 0x0508 true = some (t, o)
    ∧ exec (.checkpointNow r) s = .next (t.onPower fun p => { p with ckptNow := true, ckptOps := p.ckptOps ++ [o] }))
  ∧ (∀ s r t, Asked s r 0x0504 → r.params = [] → s.events.freeze = none →
    t = s.onEvents (fun e => { e with freeze := some { seq := e.seq, start := s.now } }) →
    exec (.freezeLog r) s = .next (t.replyOk r (le 4 s.events.seq ++ sample8 (s.now + 76800000))))
  ∧ (∀ s r, Asked s r 0x0505 → r.params = [] →
    (s.events.freeze = none → exec (.unfreezeLog r) s = .next (s.replyOk r (le 1 1 ++ zeros 11)))
    ∧ ∀ f, s.events.freeze = some f → exec (.unfreezeLog r) s = .next
      ((s.replyOk r (le 1 0 ++ zeros 3 ++ le 4 f.count ++ le 4 f.lost) .store).releaseLog 0 (some r.port)))

/-- BIND_MP and UNBIND_MP complete: the binding gets the next SEQ and takes effect at the next round boundary, or its reply and its
effect wait until the loop has climbed (R222); an unbinding waits for the round boundary (R248, R249). -/
def Obligations.BindingCommandsComplete : Prop :=
  (∀ s s5 r auth m ch b after out t, Takes s r → authField r 36 = .ok auth → m = byteAt r 0 → m < s.nMp →
    ch = (List.range 7).map (fun i => fieldAt r (4 + 2 * i) 2) → byteAt r 1 ≤ 2 → byteAt r 2 < 4 → byteAt r 3 ≤ 3 →
    (∀ c ∈ ch, c = 0xFFFF ∨ c < 512 ∧ c < s.nChan ∧ (s.isl (c / 64)).retired = false) → isZero r.params 18 2 = true →
    order5 s s.time r 0x0201 s.opsWhenSealed 36 auth = .ok s5 → s.life ≠ .retired → modeNoCal s = .ok () →
    b = { type := byteAt r 1, flags := byteAt r 2, plan := byteAt r 3, ch := ch, mpId := sub r.params 20 16,
          seq := s.bindSeq + 1, start := s.nextRound, time := s.timeOf s.nextRound } →
    (s.point m).bind = none → ((ch.drop 3).any fun c => c != 0xFFFF && s.bound c) = false →
    s.configured.bindingOk b = true → after = s.configured.onPoint m (fun p => { p with bind := some b }) →
    after.ratesOk m = true →
    (after.boundPoints.filter fun k => match (after.point k).bind with
      | some y => y.isRef == b.isRef
      | none => false).length ≤ (if b.isRef then s.refMax else s.billMax) →
    capacityFails s.configured after = false → out = le 4 (s.bindSeq + 1) ++ le 4 (after.load / 1000) →
    t = (((s5.onPoint m fun p => p.rebind b (s.plan b.plan).rate (s.plan b.plan).friendly
      (s.standardMin b.time / 1440)).setBindSeq (s.bindSeq + 1)).configWrite).initialCauses m b →
    (t.mustClimb after.load = false →
      exec (.bindMp r) s = .next (((t.gateFrom b).replyOk r (out ++ sample8 s.nextRound)).accepted 0x0201 s.security.sealSt))
    ∧ (t.mustClimb after.load = true → exec (.bindMp r) s = .next
      ((((t.onPoint m fun p => { p with bind := p.bind.map fun b => { b with start := 2 ^ 56 - 1 } }).replyOk r out .round).onEngine
        fun e => { e with loopBinds := e.loopBinds ++ [(m, r.port)] }).accepted 0x0201 s.security.sealSt)))
  ∧ (∀ s s5 r auth m b, Takes s r → authField r 4 = .ok auth → m = byteAt r 0 → m < s.nMp → isZero r.params 1 3 = true →
    order5 s s.time r 0x0202 s.opsWhenSealed 4 auth = .ok s5 → s.life ≠ .retired → modeNoCal s = .ok () →
    (s.point m).bind = some b → (s.point m).unbindAt = none →
    (∀ g ∈ s.groups, (g.set.window = 0 ∨ g.set.ref ≠ m) ∧ ∀ x, g.next = some x → x.window = 0 ∨ x.ref ≠ m) →
    exec (.unbindMp r) s = .next ((((s5.onPoint m fun p => { p with unbindAt := some s.nextRound }).configWrite).replyOk r
      (le 4 b.seq ++ sample8 s.nextRound)).accepted 0x0202 s.security.sealSt))

/-- LOAD_FIR_BANK, SET_BALANCE_GROUP and PULSE_ASSIGN complete (R206, R270, R267): a bank, a group's setting and an output's
assignment wait for the round boundary. -/
def Obligations.EngineSettingsComplete : Prop :=
  (∀ s r n k t cs after wait x, Asked s r 0x0106 → n = byteAt r 0 → k = byteAt r 1 → t = fieldAt r 2 2 →
    r.params.length = 8 + 3 * t → n ≤ 15 → 1 ≤ k → k ≤ 5 → 1 ≤ t → t ≤ 320 → isZero r.params 4 4 = true → s.life ≠ .retired →
    (s.life = .sealed → s.configured.bankInUse n = false) → cs = readCoeff (r.params.drop 8) t → (s.bank n).pending = [] →
    after = s.withItems [.bank n t k cs] → (∀ m ∈ after.boundPoints, rateBreaks s.configured after m = false) →
    capacityFails s.configured after = false → wait = (s.mustClimb after.load && decide (s.configured.load < after.load)) →
    x = (s.loadBank n t k cs).onEngine (fun e => { e with
      banks := upd e.banks n fun b => if wait then { b with waits := true, from_ := s.nextRound + 1 } else b }) →
    exec (.loadFirBank r) s = .next (x.configWrite.replyOk r (le 1 n ++ le 1 (b2n (!(s.selecting n).isEmpty))
      ++ le 4 (crc32c (r.params.drop 8)).toNat ++ le 2 (s.selecting n).length
      ++ sample8 (if (s.selecting n).isEmpty then 0 else ((s.selecting n).map s.stepAhead).foldl min (2 ^ 56)))))
  ∧ (∀ s r g w x, Takes s r → r.params.length = 44 → g = byteAt r 0 → w = byteAt r 1 →
    x = { window := w, ref := byteAt r 2, ppm := fieldAt r 4 4, fix := fieldAt r 8 4,
          members := BitVec.ofNat 256 (fieldAt r 12 32) } →
    g ≤ 15 → w ∈ ([0, 1, 2, 3, 4, 5, 6, 10, 12, 15, 20, 30, 60] : List Nat) → fieldAt r 4 4 ≤ 200000 → isZero r.params 3 1 = true →
    byteAt r 2 < s.nMp → needMask s x.members.toNat = .ok () → needPriv s r 0x0205 = .ok () → modeNoCal s = .ok () →
    (∃ b, (s.point x.ref).bind = some b ∧ b.isRef = true) →
    (∀ m ∈ bitsSet x.members.toNat 256, (s.point m).bind.isSome = true) → x.members.getLsbD x.ref = false →
    exec (.setBalanceGroup r) s = .next ((((s.onGroup g fun b => { b with
      next := some x
      windowEnd := if (s.groups.getD g {}).set.window = 0 then windowEndAfter w s.time else b.windowEnd }).configWrite)).replyOk r []))
  ∧ (∀ s r o m q w k, Asked s r 0x0206 → r.params.length = 8 → o = byteAt r 0 → m = byteAt r 1 → q = byteAt r 2 → w = byteAt r 3 →
    k = fieldAt r 4 4 → o ≤ 7 → (q ≤ 28 ∨ q = 0xFF) → (w = 0 ∨ 10 ≤ w ∧ w ≤ 80) → 1 ≤ k → k ≤ 1000000 → m < s.nMp →
    (s.point m).bind.isSome = true →
    exec (.pulseAssign r) s = .next (((s.onPulse o fun x => { x with next := some (m, q, w, k) }).configWrite).replyOk r
      (sample8 s.nextRound)))

/-- SET_TIME, ADJUST_TIME, LOAD_PLAN and READ_BOUNDARIES complete (R332, R331, R315, R337): a step and its reply wait for the
round boundary, a slew joins the slew in force and counts against 2 s an hour, a complete plan package becomes a job. -/
def Obligations.TimeCommandsComplete : Prop :=
  (∀ s s5 r auth d, Takes s r → authField r 8 = .ok auth → isZero r.params 6 2 = true → d = (fieldAt r 0 6 : Int) - s.time →
    order5 s s.time r 0x0301 (if 300 * 65536 < d.natAbs then some 1 else none) 8 auth = .ok s5 →
    s.mode.mode.responding = true →
    (d = 0 → exec (.setTime r) s = .next ((s5.replyOk r (zeros 8 ++ sample8 s.now)).accepted 0x0301 s.security.sealSt))
    ∧ (d ≠ 0 → exec (.setTime r) s = .next (((s5.replyOk r [] .round).onClock fun c =>
      { c with setTimes := c.setTimes ++ [{ delta := d, auth := if auth.isEmpty then 0 else 1, port := r.port }] }).accepted
        0x0301 s.security.sealSt)))
  ∧ (∀ s r d log used, Asked s r 0x0302 → r.params.length = 8 → isZero r.params 4 4 = true → d = fldI r.params 0 4 →
    d.natAbs ≤ 2000 → log = s.clock.slewLog.filter (fun e => decide (s.now < e.1 + 460800000)) →
    used = (log.map fun e => e.2).sum + d.natAbs → used ≤ 2000 →
    exec (.adjustTime r) s = .next ((s.onClock fun c => { c with
      slewNext := c.slewNext + d * 65536, slewLog := log ++ [(s.now, d.natAbs)], lastSet := some s.now }).replyOk r
        (leI 4 (roundDiv (s.clock.slew + (s.clock.slewNext + d * 65536)) 65536) ++ le 2 (2000 - used) ++ zeros 2)))
  ∧ (∀ s r p total q, Takes s r → 13 ≤ r.params.length → p = byteAt r 0 → p ≤ 3 → total = fieldAt r 8 4 → 1 ≤ total →
    total ≤ 16384 → byteAt r 1 < 2 → isZero r.params 2 2 = true → needPriv s r 0x0303 true = .ok () →
    s.mode.mode.responding = true →
    joinFragment (s.security.plans.getD p none) (bit (byteAt r 1) 0) (fieldAt r 4 4) total (r.params.drop 12) r.port 0 = some q →
    (q.data.length < total → exec (.loadPlan r) s = .next
      ((s.onSec fun x => { x with plans := upd x.plans p fun _ => some q }).replyOk r (le 4 q.data.length)))
    ∧ (total ≤ q.data.length → (s.port r.port).handles.length < 64 → ∃ t o, s.accept r 0x0303 = some (t, o)
      ∧ exec (.loadPlan r) s = .next (t.onSec fun x => { x with
        plans := upd x.plans p fun _ => none
        jobs := x.jobs ++ [{ kind := .plan p, op := some o, data := q.data, port := r.port }] })))
  ∧ (∀ s r n, Asked s r 0x0304 → r.params.length = 12 → isZero r.params 1 1 = true → isZero r.params 11 1 = true →
    n = fieldAt r 2 2 →
    (byteAt r 0 = 0 → 1 ≤ n → n ≤ 254 → ∀ es, es = (s.tariff.table.filter fun e => decide (fieldAt r 4 7 ≤ e.instant)).take n →
      exec (.readBoundaries r) s = .next (s.replyOk r (le 2 es.length ++ zeros 6 ++ (es.map Entry.bytes).flatten)))
    ∧ (byteAt r 0 = 1 → exec (.readBoundaries r) s = .next (s.replyOk r
      (sample8 ((s.tariff.table.getLast?.map fun e => e.instant).getD 0) ++ le 4 s.horizonS ++ le 2 s.tariff.table.length
        ++ leI 2 ((s.zoneMin + s.dst (s.standardMin s.time)) / 15) ++ (s.tariff.plans.map Plan.bytes).flatten
        ++ lastBytes s.tariff.lastExec
        ++ le 2 (b2n s.clock.timeUnset + 2 * b2n (s.clock.slew + s.clock.slewNext != 0) + 4 * b2n s.tariff.tableLow)
        ++ leI 2 (roundDiv (s.clock.slew + s.clock.slewNext) 65536) ++ zeros 4))))

/-- BILLING_CLOSE and DEMAND_RESET complete (R329, R325): a close enters the table of boundaries at a round boundary ahead of the
engine, and its reply waits for every point; a reset waits for the round boundary. -/
def Obligations.BillingCommandsComplete : Prop :=
  (∀ s r mask ms at_ e t, Takes s r → r.params.length = 32 → mask = fieldAt r 0 32 → needMask s mask = .ok () →
    needPriv s r 0x0305 = .ok () → (s.mode.mode = .meter ∨ s.mode.mode = .degraded ∧ s.mode.base = .meter) →
    ms = bitsSet mask 256 → needBound s ms = .ok () → at_ = nextMul (s.engine.runAhead + 1024) 256 →
    e = { instant := at_, frozen := true, command := true, time := s.timeOf at_, kinds := 8, points := ms } →
    t = (s.onTariff fun t => { t with table := placeEntry e t.table }).writeSequencer →
    (ms = [] → exec (.billingClose r) s = .next (t.replyOk r (sample8 at_ ++ le 2 0 ++ zeros 6)))
    ∧ (ms ≠ [] → exec (.billingClose r) s = .next ((t.replyOk r [] .close).onTariff fun t =>
      { t with closes := t.closes ++ [{ instant := at_, port := r.port, left := ms }] })))
  ∧ (∀ s r mask, Takes s r → r.params.length = 32 → mask = fieldAt r 0 32 → needMask s mask = .ok () →
    needPriv s r 0x0306 = .ok () → modeNoCal s = .ok () → needBound s (bitsSet mask 256) = .ok () →
    exec (.demandReset r) s = .next ((s.replyOk r [] .round).onTariff fun t =>
      { t with demReset := t.demReset ++ [(bitsSet mask 256, some r.port)] }))

/-- SUBMIT_TOKEN completes (R355): a token that is sound waits for the round boundary with its reply; a locked-out, forged or
failing one is refused with its status, a forged one counting as a failure. -/
def Obligations.TokenSubmissionCompletes : Prop :=
  ∀ s r m v b, Takes s r → r.params.length = 24 → isZero r.params 1 3 = true → m = byteAt r 0 →
    digitsValue (r.params.drop 4) 0 = some v → v < 2 ^ 66 → m < s.nMp → needPriv s r 0x0401 = .ok () → modeMeter s = .ok () →
    needLedger s m = .ok b →
    (s.now < (s.point m).ledger.lockEnd →
      exec (.submitToken r) s = .next (s.tokenRefused r m .tokenLockout 0xFF 0 (bits v 42 20)))
    ∧ ((s.point m).ledger.lockEnd ≤ s.now → (∀ k ∈ s.vendKeys b.plan, tokenMac k b.mpId v ≠ v % 2 ^ 24) →
      exec (.submitToken r) s = .next ((s.macFailure m).tokenRefused r m .tokenMac 0xFF 0 (bits v 42 20)))
    ∧ (∀ k st, (s.point m).ledger.lockEnd ≤ s.now → k ∈ s.vendKeys b.plan → tokenMac k b.mpId v = v % 2 ^ 24 →
      (s.ledgerAhead m).tokenFails (bits v 62 4) (bits v 42 20) (tokenAmount v) = some st →
      exec (.submitToken r) s = .next (s.tokenRefused r m st (bits v 62 4) (bits v 42 20) (bits v 42 20)))
    ∧ (∀ k, (s.point m).ledger.lockEnd ≤ s.now → k ∈ s.vendKeys b.plan → tokenMac k b.mpId v = v % 2 ^ 24 →
      (s.ledgerAhead m).tokenFails (bits v 62 4) (bits v 42 20) (tokenAmount v) = none →
      exec (.submitToken r) s = .next ((s.replyOk r [] .token).onRelays fun x => { x with tokens := x.tokens
        ++ [{ port := r.port, mp := m, class_ := bits v 62 4, serial := bits v 42 20, amount := tokenAmount v }] }))

/-- RELAY_COMMAND, RECONNECT_ARM and SET_CREDIT_POLICY complete (R357, R358, R359). -/
def Obligations.RelayCommandsComplete : Prop :=
  (∀ s s5 r auth, Takes s r → authField r 8 = .ok auth → isZero r.params 2 2 = true → byteAt r 1 ≤ 4 →
    (fieldAt r 4 4 = 0 ∨ byteAt r 1 = 1 ∨ byteAt r 1 = 2) → byteAt r 0 < s.nMp →
    order5 s s.time r 0x0403 s.opsWhenSealed 8 auth = .ok s5 → s.mode.mode.responding = true →
    exec (.relayCommand r) s = .next (((s5.replyOk r [] .round).onRelays fun x => { x with commands := x.commands
      ++ [{ mp := byteAt r 0, action := byteAt r 1, seconds := fieldAt r 4 4, port := r.port }] }).accepted
        0x0403 s.security.sealSt))
  ∧ (∀ s r m b l raw res, Takes s r → r.params.length = 4 → isZero r.params 1 3 = true → m = byteAt r 0 → m < s.nMp →
    needPriv s r 0x0404 = .ok () → modeMeter s = .ok () → needLedger s m = .ok b → l = (s.point m).ledger →
    raw = s.relayCauses m →
    res = (if l.recon = .closed then 2 else if l.recon = .awaitArm ∧ l.acting raw = 0 then 0 else 1) →
    exec (.reconnectArm r) s = .next ((if res = 0 then s.onRelays fun x => { x with arms := union x.arms [m] } else s).replyOk r
      (le 1 res ++ le 1 raw ++ zeros 2)))
  ∧ (∀ s s5 r auth mask flags p, Takes s r → authField r 64 = .ok auth → mask = fieldAt r 0 32 → flags = fieldAt r 32 4 →
    flags < 16 →
    p = { points := bitsSet mask 256, flags := BitVec.ofNat 32 flags, low1 := fieldAt r 36 4, low2 := fieldAt r 40 4,
          low3 := fieldAt r 44 4, ecLimit := fieldAt r 48 4, daily := fieldAt r 52 4, creditMax := fieldAt r 56 8 } →
    1 ≤ fieldAt r 56 8 → fieldAt r 56 8 ≤ 2 ^ 62 → needMask s mask = .ok () →
    order5 s s.time r 0x0405 s.opsWhenSealed 64 auth = .ok s5 → s.life ≠ .retired → modeNoCal s = .ok () →
    (∀ m ∈ bitsSet mask 256, s.isBilling m = true) → fieldAt r 40 4 ≤ fieldAt r 36 4 → fieldAt r 44 4 ≤ fieldAt r 40 4 →
    (bit flags 0 = false ∨ fieldAt r 52 4 = 0) →
    (∀ m ∈ bitsSet mask 256, (s.point m).ledger.policy.getLsbD 0 = bit flags 0
      ∨ (s.point m).ledger.credit = 0 ∧ (s.point m).ledger.ec = .idle) →
    exec (.setCreditPolicy r) s = .next (((s5.onRelays fun x => { x with policies := x.policies ++ [p] }).replyOk r
      (le 2 (bitsSet mask 256).length ++ zeros 6 ++ sample8 s.nextRound)).accepted 0x0405 s.security.sealSt))

/-- ARM_CAPTURE and READ_CAPTURE complete (R299, R300): a host trigger takes the next round boundary, and a read that disarms
leaves the unit idle. -/
def Obligations.CaptureCommandsComplete : Prop :=
  (∀ s r n cs, Asked s r 0x0603 → n = byteAt r 2 → r.params.length = 4 + 2 * n → byteAt r 0 < 16 → byteAt r 1 % 2 = 0 →
    byteAt r 1 < 64 → isZero r.params 3 1 = true → cs = (List.range n).map (fun i => fieldAt r (4 + 2 * i) 2) → cs.Nodup →
    s.hasCapt = true → (∀ c ∈ cs, c ≤ 511 ∧ c < s.nChan ∧ s.islOn (c / 64) = true ∧ (s.chan c).set.role ≠ 0) →
    s.pq.capture.state ≠ .post → (s.pq.capture.state = .held → bit (byteAt r 0) 1 = true) →
    (bit (byteAt r 0) 0 = true → n = 0 → (bit (byteAt r 0) 3 = true → s.pq.capture.state = .armed) →
      ∃ t, t = (if s.pq.capture.state = .armed then s.onCapture fun c => { c with state := .idle }
          else if s.pq.capture.state = .held then s.onCapture fun c => { seq := c.seq } else s)
        ∧ exec (.armCapture r) s = .next (t.replyOk r (le 1 t.pq.capture.state.num ++ zeros 3 ++ sample8 t.pq.capture.from_)))
    ∧ (bit (byteAt r 0) 0 = false → bit (byteAt r 0) 3 = true → n = 0 → s.pq.capture.state = .armed →
      ∃ t, t = s.onCapture (fun c => { c with
          state := .post, cause := 0, source := 0xFFFF, trig := nextMul s.now 256, trigTime := s.timeOf (nextMul s.now 256)
          flags := c.flags ||| (2 * b2n (decide (nextMul s.now 256 < c.from_ + 128000))) })
        ∧ exec (.armCapture r) s = .next (t.replyOk r (le 1 t.pq.capture.state.num ++ zeros 3 ++ sample8 t.pq.capture.from_)))
    ∧ (bit (byteAt r 0) 0 = false → bit (byteAt r 0) 3 = false → 1 ≤ n → n ≤ 16 →
      ∃ t, t = s.onCapture (fun c => {
          state := if s.pq.capture.state = .suspended then .suspended else .armed
          triggers := byteAt r 1, any := bit (byteAt r 0) 2, seq := c.seq, from_ := s.nextRound
          tracks := cs.map fun k =>
            { ch := k, rate := if (s.chan k).set.single then 6 else (s.bank (s.chan k).set.bank).k } })
        ∧ exec (.armCapture r) s = .next (t.replyOk r (le 1 t.pq.capture.state.num ++ zeros 3 ++ sample8 t.pq.capture.from_))))
  ∧ (∀ s r off n, Asked s r 0x0604 → r.params.length = 8 → off = fieldAt r 0 4 → n = fieldAt r 4 2 → 1 ≤ n → n ≤ 4000 →
    byteAt r 6 < 2 → isZero r.params 7 1 = true → s.hasCapt = true →
    (s.pq.capture.state = .held ∨ off + n ≤ 256 ∧ byteAt r 6 = 0) → off + n ≤ s.pq.capture.length →
    ∃ t bs, t = (s.drawBytes 3).2.replyOk r (le 4 off ++ le 2 n ++ bs) ∧ bs.length = n
      ∧ (∀ i < n, off + i < 256 → bs.getD i 0 = (s.drawBytes 3).2.pq.capture.header.getD (off + i) 0)
      ∧ (bit (byteAt r 6) 0 = false → exec (.readCapture r) s = .next t)
      ∧ (bit (byteAt r 6) 0 = true → exec (.readCapture r) s = .next (t.onCapture fun c => { seq := c.seq })))

/-- CAL_WRITE, CAL_MEASURE and SPOT_CHECK complete (R467, R468, R184): a complete package becomes a job of the security plane, a
measurement is begun or read back, a check request enters Q28 at acceptance. -/
def Obligations.CalibrationCommandsComplete : Prop :=
  (∀ s r total q, Asked s r 0x0701 → 13 ≤ r.params.length → total = fieldAt r 8 4 → byteAt r 0 < 2 → isZero r.params 1 3 = true →
    1 ≤ total → total ≤ 65536 → s.life ≠ .retired →
    (s.life = .sealed → s.lockOn = false ∧ s.mode.mode ≠ .commission ∧ s.tamper.calLink = true) →
    joinFragment s.security.calPart (bit (byteAt r 0) 0) (fieldAt r 4 4) total (r.params.drop 12) r.port 0 = some q →
    (q.data.length < total → exec (.calWrite r) s = .next
      (((s.onSec fun x => { x with calPart := some q }).replyOk r (le 4 q.data.length)).accepted 0x0701 s.security.sealSt))
    ∧ (total ≤ q.data.length → (s.port r.port).handles.length < 64 → ∃ t o, s.accept r 0x0701 = some (t, o)
      ∧ exec (.calWrite r) s = .next ((t.onSec fun x => { x with
        calPart := none
        jobs := x.jobs ++ [{ kind := .cal, op := some o, data := q.data, port := r.port }] }).accepted 0x0701 s.security.sealSt)))
  ∧ (∀ s r c ref n, Takes s r → needPriv s r 0x0702 = .ok () → s.mode.mode = .calibrate → r.params.length = 12 → byteAt r 0 < 2 →
    isZero r.params 1 1 = true → isZero r.params 10 2 = true → c = fieldAt r 2 2 → ref = fieldAt r 4 2 → n = fieldAt r 6 2 →
    (∀ e, bit (byteAt r 0) 0 = true → ((s.port r.port).calResults.find? fun e => e.1 == fieldAt r 8 2) = some e →
      exec (.calMeasure r) s = .next ((s.replyOk r e.2).accepted 0x0702 s.security.sealSt))
    ∧ (bit (byteAt r 0) 0 = false → c ≤ 511 → 1 ≤ n → n ≤ 250 → needChans s (if ref = 0xFFFF then [c] else [c, ref]) = .ok () →
      (ref = 0xFFFF ∨ ref ≤ 511 ∧ (s.chan ref).set.role = 1) → meteringRole (s.chan c).set.role = true →
      (s.port r.port).handles.length < 64 → ∃ t o, s.accept r 0x0702 = some (t, o)
        ∧ exec (.calMeasure r) s = .next ((t.onSec fun x => { x with measures := x.measures
          ++ [{ op := o, ch := c, ref := if ref = 0xFFFF then none else some ref, cycles := n, from_ := t.now }] }).accepted
            0x0702 s.security.sealSt)))
  ∧ (∀ s r c, Asked s r 0x0703 → r.params.length = 4 → c = fieldAt r 0 2 → c ≤ 511 → isZero r.params 2 2 = true →
    c < s.nChan → (s.isl (c / 64)).retired = false → (s.chan c).set.role ≠ 0 → (s.port r.port).handles.length < 64 →
    ∃ t o, s.accept r 0x0703 true = some (t, o)
      ∧ exec (.spotCheck r) s = .next ((t.ask { ch := c, spot := [o] }).accepted 0x0703 s.security.sealSt))

/-- SEAL completes for its three targets (R469): the seeds are drawn, the lifecycle becomes UNSEALED, the lifecycle becomes
SEALED; the last two record EV_LIFECYCLE_CHANGE. -/
def Obligations.SealCompletes : Prop :=
  ∀ s s5 r auth k, Takes s r → authField r 4 = .ok auth → k = byteAt r 0 → isZero r.params 1 3 = true →
    order5 s s.time r 0x0704 (if k = 2 then some 1 else none) 4 auth true = .ok s5 →
    (s5.mode.mode = .commission ∨ s5.mode.mode = .meter) →
    (k = 0 → s5.life = .manufacture → needEntropy s5 = .ok () → s5.otp.idSeed = none → s5.otp.transportSeed = none →
      ∃ t x y, t.otp = { s5.otp with idSeed := some x, transportSeed := some y } ∧ x.length = 32 ∧ y.length = 64
        ∧ Same (partOtp ||| partFree) s5 t
        ∧ exec (.seal r) s = .next ((t.replyOk r (le 1 0 ++ zeros 3 ++ zeros 32)).accepted 0x0704 s.security.sealSt))
    ∧ (k = 1 → s5.life = .manufacture → (s5.anchorSlot 0).isSome = true → (s5.anchorSlot 1).isSome = true →
      (s5.anchorSlot 2).isSome = true → s5.otp.idSeed.isSome = true →
      ∃ t, t = ((s5.onOtp fun o => { o with l1 := programmed }).onSec
          fun x => { x with idKey := true, transportKey := true }).raise 63 0 0 []
        ∧ exec (.seal r) s = .next ((t.replyOk r (le 1 t.life.num ++ zeros 3 ++ (t.identityKey.map fun d => shake256 d 32).getD
            (zeros 32))).accepted 0x0704 s.security.sealSt))
    ∧ (k = 2 → s5.life = .unsealed →
      ∃ t, t = (s5.onOtp fun o => { o with l2 := programmed }).raise 63 0 0 []
        ∧ exec (.seal r) s = .next ((t.replyOk r (le 1 t.life.num ++ zeros 3 ++ (t.identityKey.map fun d => shake256 d 32).getD
            (zeros 32))).accepted 0x0704 s.security.sealSt))

/-- ZEROISE, SET_MODE, RESET_CMD and DEBUG_AUTH complete (R475, R104, R117, R474): the lifecycle becomes RETIRED with every seed
burnt and every secret gone; a change of mode waits for the round boundary, DORMANT is armed at once; a reset of the control plane
or a restart is asked for; a debug level is granted or closed. -/
def Obligations.ModeAndLifecycleCommandsComplete : Prop :=
  (∀ s s5 r auth, Takes s r → authField r 4 = .ok auth → fieldAt r 0 4 = 0x4F52455A →
    order5 s s.time r 0x0806 (if s.life = .manufacture then none else some 1) 4 auth true = .ok s5 → s5.life ≠ .retired →
    s5.mode.mode.responding = true →
    exec (.zeroise r) s = .next ((((((((s5.onOtp fun o =>
        ({ o with l1 := programmed, l2 := programmed, l3 := programmed } : Otp).burnSeeds).onSec fun x => { x with
          opsSession := none, metSession := none, idKey := false, transportKey := false, vending := List.replicate 4 {}
          cert := [] }).configWrite).raise 63 0 0 []).requestMode { target := .commission, cause := 8 }).replyOk r [])).accepted
            0x0806 s.security.sealSt))
  ∧ (∀ s s5 r auth k f target now, Takes s r → authField r 4 = .ok auth → k = byteAt r 0 → f = byteAt r 1 →
    isZero r.params 2 2 = true → order5 s s.time r 0x0003 (s.modeAnchor k) 4 auth false (k == 3) = .ok s5 →
    s5.mode.mode.responding = true → now = (if s5.mode.mode = .degraded then s5.mode.base else s5.mode.mode) →
    (k = 0 → f ≤ 1 → ∃ t, t = ((if f = 0 then (s5.onMode fun m => { m with armed := f == 0 }).onPower
          fun p => { p with ckptNow := true } else s5.onMode fun m => { m with armed := f == 0 }).configWrite)
        ∧ exec (.setMode r) s = .next ((t.replyOk r t.modeReply).accepted 0x0003 s.security.sealSt))
    ∧ (f = 0 →
      (k = 2 ∧ target = .commission ∨ k = 4 ∧ target = .meter ∧ s5.life ≠ .manufacture ∧ s5.life ≠ .retired
        ∨ k = 3 ∧ target = .calibrate ∧ s5.life ≠ .retired ∧ s5.mode.mode ≠ .degraded
          ∧ (s5.life = .sealed → s5.lockOn = false ∧ s5.tamper.calLink = true)) →
      (target = now → exec (.setMode r) s = .next ((s5.replyOk r s5.modeReply).accepted 0x0003 s.security.sealSt))
      ∧ (target ≠ now → exec (.setMode r) s = .next (((s5.requestMode
          { target := target, cause := 0, port := some r.port }).replyOk r [] .round).accepted 0x0003 s.security.sealSt))))
  ∧ (∀ s s5 r auth full, Takes s r → authField r 4 = .ok auth → full = bit (byteAt r 0) 0 → byteAt r 0 < 2 →
    isZero r.params 1 3 = true → (full = false → auth = []) →
    order5 s s.time r 0x0004 (if full then s.opsWhenSealed else none) 4 auth true = .ok s5 → s5.mode.mode.responding = true →
    exec (.resetCmd r) s = .next ((((s5.onCp fun c => { c with resetReq := some full, resetAt := s5.now }).replyOk r []).onPort r.port
      fun q => { q with replies := q.replies.modify (q.replies.length - 1) fun x => { x with reset := true } }).accepted 0x0004
        s.security.sealSt))
  ∧ (∀ s r k x, Takes s r → needPriv s r 0x0805 = .ok () → s.mode.mode.responding = true → 4 ≤ r.params.length → k = byteAt r 0 →
    k ≤ 2 → isZero r.params 1 3 = true → (s.levelFree k = true → r.params.drop 4 = []) →
    debugRight s k (r.params.drop 4) = .ok x → (k = 0 ∨ s.lockOn = false) →
    exec (.debugAuth r) s = .next (((if k = 0 then x.1.closeDebug
      else x.1.onMode fun m => { m with debugReq := some { level := if k = 1 then .d1 else .d2, seconds := x.2 } }).replyOk r
        (le 1 k ++ zeros 3 ++ sample8 (if x.2 = 0 then 0 else x.1.nextRound + x.2 * slotsPerS))).accepted 0x0805 s.security.sealSt))

/-- ATTEST, SIGN_READING, GET_CERTS and LOAD_KEYS complete (R470, R472, R473, R463): what is signed is the report or the statement
itself, under its context string; a complete key package becomes a job. -/
def Obligations.SignatureCommandsComplete : Prop :=
  (∀ s r, Asked s r 0x0801 → r.params.length = 32 → needKeys s = .ok () → needEntropy s = .ok () →
    ∃ t u n sig, n.length = 32 ∧ Same partFree s t ∧ Same partFree t u
      ∧ (sig, u) = t.sign "OVP-ATTEST" (s.attestReport r.params n)
      ∧ exec (.attest r) s = .next (u.replyOk r (s.attestReport r.params n ++ sig)))
  ∧ (∀ s r k m age body h, Asked s r 0x0802 → r.params.length = 36 → k = byteAt r 0 → m = byteAt r 1 → age = byteAt r 2 →
    isZero r.params 3 1 = true → m < s.nMp → needKeys s = .ok () → needEntropy s = .ok () →
    (k = 1 ∧ body = s.registerRecord m
      ∨ k = 0 ∧ age ≤ 23 ∧ age < (s.point m).snapCount
        ∧ ∃ x, ringAt (s.store.snaps.getD m []) ((s.point m).sseq - age) = some x ∧ body = x.bytes) →
    h = s.statementHeader k m body.length (r.params.drop 4) →
    exec (.signReading r) s = .next ((s.sign "OVP-CRAISKIX" (h ++ body)).2.replyOk r
      (h ++ body ++ (s.sign "OVP-CRAISKIX" (h ++ body)).1)))
  ∧ (∀ s r i n, Asked s r 0x0804 → r.params.length = 4 → i = byteAt r 0 → n = byteAt r 1 → isZero r.params 2 2 = true →
    (∀ d, (i = 0 ∧ needKeys s = .ok () ∧ d = s.identityKey.getD []
      ∨ i = 1 ∧ needKeys s = .ok ()
        ∧ d = (if s.security.transportKey then (s.otp.transportSeed.map Config.mlKemPublic).getD [] else [])
      ∨ i = 2 ∧ d = s.security.cert ∨ i = 3 ∧ n ≤ 2 ∧ d = s.security.pubKeys.getD n []) →
    exec (.getCerts r) s = .next (s.replyOk r (le 1 i ++ le 1 n ++ le 2 d.length ++ d))))
  ∧ (∀ s r f total data old q, Takes s r → 13 ≤ r.params.length → f = byteAt r 0 → f ≤ 4 → byteAt r 1 < 2 →
    isZero r.params 2 2 = true → total = fieldAt r 8 4 → 1 ≤ total → total ≤ 16384 → data = r.params.drop 12 →
    old = s.security.keyPart.filter (fun p => p.func == f) →
    needPriv s r 0x0803 (f == 0 || (f == 3 && rotationUtility (if bit (byteAt r 1) 0 then data
      else (old.map fun p => p.data ++ data).getD data))) = .ok () →
    s.life ≠ .retired → (f = 2 → s.life = .manufacture) → s.mode.mode.responding = true →
    joinFragment old (bit (byteAt r 1) 0) (fieldAt r 4 4) total data r.port f = some q →
    (q.data.length < total → exec (.loadKeys r) s = .next
      ((s.onSec fun x => { x with keyPart := some q }).replyOk r (le 4 q.data.length)))
    ∧ (total ≤ q.data.length → (s.port r.port).handles.length < 64 → ∃ t o, s.accept r 0x0803 = some (t, o)
      ∧ exec (.loadKeys r) s = .next (t.onSec fun x => { x with
        keyPart := none, jobs := x.jobs ++ [{ kind := .key f, op := some o, data := q.data, port := r.port }] })))

/-- The five image commands complete (R478 to R485): a session opens on the slot that is not active, its bytes go to the writer in
order, its end asks for verification, and an activation waits. -/
def Obligations.ImageCommandsComplete : Prop :=
  (∀ s r k total x, Asked s r 0x0901 → r.params.length = 8 → byteAt r 0 ≤ 1 → total = fieldAt r 4 4 → 3374 ≤ total →
    total ≤ (if byteAt r 0 = 0 then 4194304 else 524288) → isZero r.params 1 3 = true → s.images.session = none →
    k = s.images.spare (byteAt r 0) → x = { target := byteAt r 0, slot := k, port := r.port, total := total, last := s.now } →
    exec (.imageBegin r) s = .next ((((s.onImages fun i => { i with session := some x }).onImages fun i =>
        i.on (byteAt r 0) k fun x => { x with ok := false, factory := false, package := [] }).configWrite).replyOk r
          (le 1 k ++ zeros 3)))
  ∧ (∀ s r x n data, Asked s r 0x0902 → 9 ≤ r.params.length → r.params.length ≤ 4080 → isZero r.params 1 3 = true →
    data = r.params.drop 8 → s.images.session = some x → x.port = r.port → x.target = byteAt r 0 → byteAt r 0 ≤ 1 →
    fieldAt r 4 4 = x.received → n = x.received + data.length → n ≤ x.total →
    exec (.imageData r) s = .next (((s.onImages fun i => { i with session := some { x with received := n, last := s.now } }).enqueue
      { prio := 3, recs := [.image (byteAt r 0) x.slot x.received data], reply := some r.port }).replyOk r (le 4 n) .store))
  ∧ (∀ s r x, Asked s r 0x0903 → r.params.length = 4 → byteAt r 0 ≤ 1 → isZero r.params 1 3 = true →
    s.images.session = some x → x.target = byteAt r 0 → x.received = x.total → (s.port r.port).handles.length < 64 →
    ∃ t o, s.accept r 0x0903 = some (t, o) ∧ exec (.imageEnd r) s = .next (t.onSec fun y =>
      { y with jobs := y.jobs ++ [{ kind := .image (byteAt r 0) x.slot, op := some o, port := r.port }] }))
  ∧ (∀ s r k, Asked s r 0x0904 → r.params.length = 4 → k = byteAt r 0 → k ≤ 1 → byteAt r 1 < 2 → isZero r.params 2 2 = true →
    needSlot s 0 k = .ok () → (bit (byteAt r 1) 0 = true ∨ s.allOutstanding = []) →
    exec (.imageActivate r) s = .next (((s.onImages fun i =>
      { i with ccReq := some { slot := k, force := bit (byteAt r 1) 0, port := r.port, at_ := s.now } }).replyOk r []).onPort r.port
        fun q => { q with replies := q.replies.modify (q.replies.length - 1) fun x => { x with switch := true } }))
  ∧ (∀ s r k, Asked s r 0x0905 → r.params.length = 4 → k = byteAt r 0 → k ≤ 1 → isZero r.params 1 3 = true →
    needSlot s 1 k = .ok () → s.images.ucReq = none → (s.port r.port).handles.length < 64 → ∃ t o, s.accept r 0x0905 = some (t, o)
      ∧ exec (.ucodeActivate r) s = .next (t.onImages fun i => { i with ucReq := some { slot := k, op := o, from_ := t.now } }))

/-- REMAP_CHANNEL, RETIRE_ISLAND, RESTORE_ISLAND, LANE_TEST and HOLDUP_TEST complete (R486, R489, R490, R491, R71): each becomes an
operation that its events carry on. A role signature that stands with the request is held with its handle: its sequence number is
taken at the operation's commit point. -/
def Obligations.MaintenanceCommandsComplete : Prop :=
  (∀ s s5 r auth old new, Takes s r → authField r 4 = .ok auth → old = fieldAt r 0 2 → new = fieldAt r 2 2 → old ≤ 511 →
    new ≤ 511 → needChans s [old, new] = .ok () → order5 s s.time r 0x0A01 s.opsWhenSealed 4 auth = .ok s5 →
    s.life ≠ .retired → modeNoCal s = .ok () →
    s.bound old = true → 1 ≤ (s.chan old).set.role → (s.chan old).set.role ≤ 3 → (s.chan new).set.role = 5 →
    (s.chan new).fs ≠ 0 → s.chanPeriod old = s.chanPeriod new →
    (∀ x ∈ s.engine.remaps, x.done = true ∨ x.old ≠ old ∧ x.new ≠ old ∧ x.old ≠ new ∧ x.new ≠ new) →
    (s.port r.port).handles.length < 64 → ∃ t o, s.accept r 0x0A01 = some (t, o)
      ∧ exec (.remapChannel r) s = .next ((((t.holdAuth o auth).onEngine fun e => { e with remaps := e.remaps
        ++ [{ old := old, new := new, op := o, limit := t.engine.runAhead + 1024 }] }).configWrite).accepted 0x0A01 s.security.sealSt))
  ∧ (∀ s r auth n, Takes s r → islandRequest s r 0x0A02 = .ok (auth, n) → ((List.range s.nIsl).filter s.islOn) ≠ [n] →
    (s.port r.port).handles.length < 64 → ∃ t o, s.accept r 0x0A02 = some (t, o)
      ∧ exec (.retireIsland r) s = .next (((t.holdAuth o auth).onIsland n fun i => { i with retireOp := some (some o) }).accepted
        0x0A02 s.security.sealSt))
  ∧ (∀ s r auth n, Takes s r → islandRequest s r 0x0A03 = .ok (auth, n) → (s.isl n).retired = true →
    (s.onIsland n fun i => { i with retired := false, dropped := false }).admitted = true →
    (s.onIsland n fun i => { i with retired := false, dropped := false }).stagingOk = true →
    (s.port r.port).handles.length < 64 → ∃ t o, s.accept r 0x0A03 = some (t, o)
      ∧ exec (.restoreIsland r) s = .next (((t.holdAuth o auth).onIsland n fun i => { i with
        restoreOp := some o, restoreSince := t.now, restoreGood := 0, restoreReady := false, refBad := 0, supBad := 0 }).accepted
          0x0A03 s.security.sealSt))
  ∧ (∀ s s5 r auth n a, Takes s r → authField r 4 = .ok auth → n = byteAt r 0 → a = byteAt r 1 → n ≤ 7 → a ≤ 2 →
    byteAt r 2 < 2 → isZero r.params 3 1 = true →
    order5 s s.time r 0x0A04 (if a = 0 then none else s.opsWhenSealed) 4 auth = .ok s5 → s.mode.mode.responding = true →
    (a = 1 → (s.lane n).retired = false ∧ 1 < s.lanesOn ∧ (bit (byteAt r 2) 0 = true
      ∨ (s.onLane n fun l => { l with retired := true }).load
        ≤ loadLimit (s.onLane n fun l => { l with retired := true }).lanesOn)) →
    (a = 2 → (s.lane n).retired = true) → (s.lane n).op = none → (s.port r.port).handles.length < 64 →
    ∃ t o, s.accept r 0x0A04 = some (t, o)
      ∧ exec (.laneTest r) s = .next (((t.holdAuth o auth).onLane n fun l =>
        { l with op := some o, opAt := t.now / 256, action := a, passes := 0 }).accepted 0x0A04 s.security.sealSt))
  ∧ (∀ s r, Asked s r 0x0A05 → r.params = [] → s.power.test = .idle → s.capService = false →
    (s.port r.port).handles.length < 64 → ∃ t o, s.accept r 0x0A05 = some (t, o)
      ∧ exec (.holdupTest r) s = .next (t.onPower fun p => { p with test := .waiting, testSince := t.now, testOp := some o }))

/-- R125: READ_PACKET presents the oldest waiting reply from its first byte; what is clocked beyond its end, and everything when
none waits, reads 0x00; the reply goes only when all of its bytes have been clocked out, and is presented again otherwise. -/
def Obligations.ReadPacketLosesNothing : Prop :=
  ∀ (s : State) (p n : Nat), (p = 0 ∨ p = 2) → s.hears p = true → p < s.ports.length →
    ∃ t, exec (.readPacket p n) s = .next t ∧ (t.port p).out.length = n
      ∧ ((s.port p).head = none → (∀ i < n, (t.port p).out.getD i 0 = 0) ∧ (t.port p).replies = (s.port p).replies)
      ∧ ∀ r, (s.port p).head = some r →
        (∀ i < n, (t.port p).out.getD i 0 = (s.packetOf p r).getD i 0)
        ∧ ((s.packetOf p r).length ≤ n → (t.port p).replies = (s.port p).replies.drop 1)
        ∧ (n < (s.packetOf p r).length →
          (t.port p).replies = (s.port p).replies ∧ (t.port p).head = some r ∧ t.packetOf p r = s.packetOf p r)

/-- The transactions of P0 and P2 complete (R122 to R125, R129, R141): a status word, a packet taken in, a quad transaction of P0,
and every instruction byte that a port does not know as a framing error. P0 is heard while VDDIO_H is there (R50). -/
def Obligations.SpiTransactionsComplete : Prop :=
  ∀ (s : State),
    (∀ p, p = 0 ∨ p = 2 → s.hears p = true →
      exec (.readPortStatus p) s = .next (s.onPort p fun q => { q with out := s.statusWord p })
      ∧ (∀ code : BitVec 8, spiOf p code.toNat = none → exec (.spiUnknownInstruction p code) s = .next (s.framingError p))
      ∧ (∀ bs, bs ≠ [] → (s.port p).resyncOwed = false →
        exec (.writePacket p bs) s = .next ((s.arrive p (rawOf bs)).drainPort p))
      ∧ exec (.writePacket p []) s = .next s
      ∧ (∀ bs, (s.port p).resyncOwed = true → exec (.writePacket p bs) s = .next s))
    ∧ (∀ bs, exec (.writePacketQ 0 bs) s = exec (.writePacket 0 bs) s)
    ∧ (∀ n, exec (.readPacketQ 0 n) s = exec (.readPacket 0 n) s)
    ∧ (∀ bs, s.hears 2 = true → exec (.writePacketQ 2 bs) s = .next (s.framingError 2))
    ∧ (∀ n, s.hears 2 = true → exec (.readPacketQ 2 n) s = .next (s.framingError 2))
    ∧ (∀ n r, s.hears 0 = true → (s.port 0).head = some r → (s.packetOf 0 r).length ≤ n → exec (.readPacketQ 0 n) s =
      .next ((s.onPort 0 fun q => { q with out := padTo n ((s.packetOf 0 r).take n) }).sent 0))
    ∧ (∀ bs, bs ≠ [] → s.hears 0 = true → (s.port 0).resyncOwed = false →
      exec (.writePacketQ 0 bs) s = .next ((s.arrive 0 (rawOf bs)).drainPort 0))

/-- A packet that arrives without credit is dropped before every other check: nothing is executed and no reply is placed, the
count stays at zero, the violation is counted and its event sent to the port (R139). -/
def Obligations.PacketWithoutCreditIsDropped : Prop :=
  ∀ (s : State) (p : Nat), p < s.ports.length → s.hears p = true → (s.port p).credits = 0 → (s.port p).rx = [] →
    ∀ t, t = (s.onPort p fun q => { q with violations := incSat 32 q.violations }).raisePort p 12
        (le 1 p ++ le 2 Status.noCredit.code) →
      (t.port p).credits = 0 ∧ (t.port p).replies = (s.port p).replies ∧ Same (partPorts ||| partEvents) s t
      ∧ (p = 0 ∨ p = 2 → (s.port p).resyncOwed = false → ∀ bs, bs ≠ [] → exec (.writePacket p bs) s = .next t)
      ∧ (p = 1 → (s.port 1).sending = false → ∀ cs low, auxChars cs low ≠ [] → exec (.auxFrame cs low) s = .next t)

/-- P1 completes a frame, a break and a sent reply (R127, R128, R138), and P3 its instructions, its reset and the mailbox (R131,
R132, R133). BYPASS is every code that the table does not list. -/
def Obligations.AuxiliaryAndTestPortsComplete : Prop :=
  (∀ s cs low, s.responds = true → (s.port 1).sending = false → auxChars cs low ≠ [] →
    exec (.auxFrame cs low) s = .next ((s.arrive 1 (frameOf (auxChars cs low))).drainPort 1))
  ∧ (∀ s ms t, s.responds = true → 10 ≤ ms →
    t = s.onPort 1 (fun q => { q with credits := 8, sending := true, rx := q.rx ++ [{ resync := true }] }) →
    exec (.auxBreak ms) s = .next ((if 1000 ≤ ms then ((t.setPar 0x23 0).onPort 1
      fun q => { q with baud := 0, baudNext := none }).configWrite else t).drainPort 1))
  ∧ (∀ s r, s.responds = true → (s.port 1).head = some r → exec .auxReplySent s = .next ((s.onPort 1 fun q =>
      if r.resync then { q with
        out := auxBytes (s.packetOf 1 r), replies := q.replies.drop 1, resyncOwed := false
        sending := q.sending && ((q.replies.drop 1).any (fun x => x.resync) || q.rx.any fun x => x.resync) }
      else { q with out := auxBytes (s.packetOf 1 r), replies := q.replies.drop 1, credits := min 8 (q.credits + 1) }).applyRate))
  ∧ (∀ s, s.tapOn = true →
    exec .idcode s = .next (s.onTap fun t => { t with ir := 0x01, dr := s.idcode })
    ∧ (∀ pins pre, exec (.samplePreload pins pre) s = .next (s.onTap fun t =>
      { t with ir := 0x02, dr := s.captured pins, bsr := (List.range 48).map fun i => pre.getD i false }))
    ∧ (∀ pins, s.scanFree = true → exec (.extest pins) s = .next (s.onTap fun t =>
      { t with ir := 0x03, dr := (s.onTap fun t => { t with ir := 0x03 }).captured pins }))
    ∧ (∀ pins, s.scanFree = false → exec (.extest pins) s = .next (s.onTap fun t => { t with ir := 0x03, dr := 0 }))
    ∧ exec .clamp s = .next (s.onTap fun t => { t with ir := 0x04, dr := 0 })
    ∧ exec .highz s = .next (s.onTap fun t => { t with ir := 0x05, dr := 0 })
    ∧ (∀ op, s.mode.debug = .d0 → exec (.debug op) s = .next (s.onTap fun t => { t with ir := 0x21, dr := 0 }))
    ∧ (∀ op t, s.mode.debug = .d1 → t = s.onTap (fun t => { t with ir := 0x21 }) → exec (.debug op) s = .next (t.debugRead op))
    ∧ (∀ op t, s.mode.debug = .d2 → t = s.onTap (fun t => { t with ir := 0x21 }) →
      exec (.debug op) s = .next ((t.debugRead op).debugWrite op))
    ∧ (∀ a t, s.mode.debug ≠ .d0 → t = s.onTap (fun t => { t with ir := 0x21, dr := (readCell s.cp.ram a).toNat }) →
      exec (.debug (.readRam a)) s = .next t)
    ∧ (s.mode.debug = .d2 → exec (.debug .halt) s =
      .next ((s.onTap fun t => { t with ir := 0x21 }).onCp fun c => { c with halted := true }))
    ∧ (∀ code : BitVec 8, code ∉ [(0x01 : BitVec 8), 0x02, 0x03, 0x04, 0x05, 0x20, 0x21] →
      exec (.bypass code) s = .next (s.onTap fun t => { t with ir := code, dr := 0 }))
    ∧ exec .trstN s = .next (((s.onMode fun m => { m with debug := .d0, debugEnd := 0, debugReq := none }).onCp fun c =>
      { c with halted := false }).onTap fun t => { t with ir := 1, dr := s.idcode, credit := 1, reqBytes := [], replyBytes := [] }))
  ∧ (∀ s t, s.tapOn = true → t = s.onTap (fun x => { x with ir := 0x20 }) →
    (∀ reg, exec (.jorosMailbox true reg) s = .next (t.onTap fun x => match x.replyBytes with
      | [] => { x with dr := 0 }
      | b :: r => { x with dr := b.toNat + 256 + 512 * b2n r.isEmpty, replyBytes := r, credit := if r.isEmpty then 1 else x.credit }))
    ∧ (∀ reg : BitVec 10, reg.getLsbD 8 = true → reg.getLsbD 9 = false → exec (.jorosMailbox false reg) s =
      .next (t.onTap fun x => { x with reqBytes := x.reqBytes ++ [reg.setWidth 8] }))
    ∧ (∀ reg : BitVec 10, reg.getLsbD 8 = true → reg.getLsbD 9 = true → s.responds = true → 1 ≤ s.tap.credit →
      exec (.jorosMailbox false reg) s =
        .next ((t.onTap fun x => { x with reqBytes := [], credit := x.credit - 1 }).runRaw 3 (rawOf (s.tap.reqBytes ++ [reg.setWidth 8])))))

/-- R133: the mailbox of P3 accepts GET_IDENTITY, GET_STATUS and DEBUG_AUTH; a request for any other command fails there. -/
def Obligations.MailboxRunsThreeCommands : Prop :=
  ∀ (op : Nat) (f : State → Request → Except Deny State) (s : State) (r : Request), commandOf op = some f → r.port = 3 →
    op ≠ 0x0001 → op ≠ 0x0002 → op ≠ 0x0805 → ∃ d, f s r = .error d

/-- The events of the control plane complete where they are due: RESET_N and its release (R116), the watchdog (R36), the restart that
RESET_CMD asked for (R117), readiness after a reset (R140, R144), a notice (R33, R34), a resynchronised queue (R29), and the switch
and fall-back of the control core (R483, R484). -/
def Obligations.ControlPlaneEventsComplete : Prop :=
  (∀ s v, s.cpRuns = true → s.cp.resetNLow = false → ∃ t, exec (.resetN v) s = .next t ∧ t.cp.resetNLow = true ∧ t.cp.st = .held
    ∧ (s.mode.mode ≠ .boot → t.cp.resetCause = 1) ∧ t.cp.resetReq = none ∧ t.cp.icache = none ∧ t.power.vddioMv = v
    ∧ t.security.jobs = [] ∧ t.security.opsSession = none ∧ t.security.metSession = none ∧ t.images.session = none
    ∧ t = (s.onCp fun c => { c with resetNLow := true }).cpReset (if s.mode.mode = .boot then s.cp.resetCause else 1) v)
  ∧ (∀ s, s.cp.resetNLow = true → exec .resetNRelease s = .next (s.onCp fun c => { c with
      resetNLow := false, st := if s.cpRuns ∧ c.st = .held then .starting else c.st }))
  ∧ (∀ s v, s.cpRuns = true → (s.cp.st = .ready ∨ s.cp.st = .starting) → exec (.watchdogExpiry v) s = .next
      ((if s.images.trial = true ∧ s.cp.st = .starting then s.fallBack 2 v else s.cpReset 2 v).onCp
        fun c => { c with watchdogEvent := true }))
  ∧ (∀ s v, s.cp.resetReq = some true → s.mode.mode.responding = true → s.resetDue = true →
    exec (.resetCmdStart v) s = .next (s.startAdjourn 2))
  ∧ (∀ s v, s.cp.resetReq = some false → s.cpRuns = true → s.resetDue = true →
    exec (.resetCmdStart v) s = .next (s.cpReset 4 v))
  ∧ (∀ s, s.cpRuns = true → s.cp.st = .starting → s.mode.mode ≠ .boot →
    ∃ t u v, exec .controlPlaneReady s = .next t
      ∧ u = s.resyncPorts.postOwed (if s.cp.resetCause = 0 ∨ s.cp.resetCause = 5 then .abortedPower else .cancelled)
      ∧ v = (((u.onCp fun c => { c with
          st := .ready, readyAt := u.now, icache := some (if c.recovery then 2 else u.images.fwSlot)
          watchdogEvent := false }).sendNotices).raise 0 0 0 [])
      ∧ t = (if u.cp.watchdogEvent then v.raise 6 0 0 [] else v).imagesReady
      ∧ t.cp.st = .ready ∧ (0 < u.creditsMax 30 → t.cp.notices = []))
  ∧ (∀ s code, s.metering = true →
    (s.cp.st = .ready → 0 < s.creditsMax 30 → exec (.notice code) s = .next (s.onCp fun c => { c with
      taken := c.taken + (union c.notices [code]).length, notices := [] }))
    ∧ (s.cp.st ≠ .ready ∨ s.creditsMax 30 = 0 →
      exec (.notice code) s = .next (s.onCp fun c => { c with notices := union c.notices [code] })))
  ∧ (∀ s q, q < 32 → s.queuePresent q = true → s.wordsFor q = 0 → s.credits q ≠ queueDepth q → exec (.creditResync q) s =
    .next (((s.onQueue q fun x => { x with lost := 0 }).poisoned q).sendNotices))
  ∧ (∀ s q vd, s.images.ccReq = some q → s.cp.st = .ready → s.switchDue q = true → ∀ t, t = (if q.force then
        (s.onImages fun i => { i with ccReq := none }).detachOps.postOwed .cancelled
        else s.onImages fun i => { i with ccReq := none }) →
      (t.slotCheck 0 q.slot = .ok () → exec (.controlCoreSwitch vd) s = .next ((((t.onImages fun i => { i with
        ccActive := q.slot, trial := true, switchSlot := t.now }).configWrite).runSlot q.slot).cpReset 3 vd))
      ∧ (∀ e, t.slotCheck 0 q.slot = .error e → exec (.controlCoreSwitch vd) s = .next
        (((t.clearSlot 0 q.slot).pkgFail e 0xFF).fwEvent 0 q.slot (t.images.slot 0 q.slot).version 2)))
  ∧ (∀ s v, s.images.trial = true → s.cpRuns = true → s.cp.st ≠ .ready → s.images.switchSlot + 6400 ≤ s.now →
    exec (.controlCoreFallback v) s = .next (s.fallBack 3 v))

/-- The events of elapsed time complete where they are due: the calibration link and what ends CALIBRATE (R130, R101), a debug level
(R474), a log freeze (R409), a load session (R480), a session key (R460), a lock (R416), the token lockout (R354), the ends of an
override, a relay test and a power-limit hold (R357, R344, R345), and the failure of the entropy source (R449). -/
def Obligations.TimeoutEventsComplete : Prop :=
  (∀ s, exec (.calLink []) s = .next s
    ∧ exec (.calLink [s.tamper.calLink]) s = .next (s.onTamper fun t => { t with calLinkRun := 0 })
    ∧ (s.tamper.calLinkRun < 2 → exec (.calLink [!s.tamper.calLink]) s = .next (s.onTamper fun t =>
      { t with calLinkRun := t.calLinkRun + 1 }))
    ∧ (2 ≤ s.tamper.calLinkRun → s.tamper.calLink = false → exec (.calLink [true]) s = .next (s.onTamper fun t =>
      { t with calLink := true, calLinkRun := 0 }))
    ∧ (2 ≤ s.tamper.calLinkRun → s.tamper.calLink = true → exec (.calLink [false]) s = .next
      ((s.onSec fun x => { x with calPart := none }).onTamper fun t => { t with calLink := false, calLinkRun := 0, calOpenAt := s.now }))
    ∧ ∀ xs ys t, exec (.calLink xs) s = .next t → exec (.calLink (xs ++ ys)) s = exec (.calLink ys) t)
  ∧ (∀ s, s.mode.mode = .calibrate → s.life = .sealed → s.tamper.calLink = false → s.tamper.calOpenAt + 12800 ≤ s.now →
    exec .calLinkOpenTimeout s = .next (s.requestMode { target := s.mode.ret, cause := 1 }))
  ∧ (∀ s k, k = s.parN 0x10 → s.mode.mode = .calibrate → k ≠ 0 → s.mode.calSince + k * 60 * slotsPerS ≤ s.nextRound →
    exec .calibrateTimeout s = .next (s.requestMode { target := s.mode.ret, cause := 2 }))
  ∧ (∀ s, s.mode.debugEnd ≠ 0 → s.mode.debugEnd ≤ s.now → exec .debugLevelExpiry s = .next
    ((s.onMode fun m => { m with debug := .d0, debugEnd := 0, debugReq := none }).onCp fun c => { c with halted := false }))
  ∧ (∀ s f, s.events.freeze = some f → f.start + 76800000 ≤ s.now → exec .logFreezeTimeout s = .next (s.releaseLog 1 none))
  ∧ (∀ s x, s.images.session = some x → x.last + 600 * slotsPerS ≤ s.now →
    exec .imageSessionTimeout s = .next (s.onImages fun i => { i with session := none }))
  ∧ (∀ s a k, s.session a = some k → k.end_ ≤ s.now → exec (.sessionKeyExpiry a) s = .next
    (s.onSec fun x => if a = 1 then { x with opsSession := none } else { x with metSession := none }))
  ∧ (∀ s, exec .lockExpiry s = .next (s.onTamper fun t => { t with locks := t.locks.filter fun e => decide (s.now < e) }))
  ∧ (∀ s m, (s.point m).ledger.lockEnd ≠ 0 → (s.point m).ledger.lockEnd ≤ s.now → exec (.tokenLockoutEnd m) s = .next
    ((s.onLedger m fun l => { l with lockPrev := l.lockEnd, lockEnd := 0 }).writeLedger m))
  ∧ (∀ s m, (s.point m).ledger.override ≠ .none → (s.point m).ledger.overrideEnd ≠ 0 → (s.point m).ledger.overrideEnd ≤ s.now →
    exec (.relayOverrideEnd m) s = .next
      (((s.onLedger m fun l => { l with override := .none, overrideEnd := 0 }).writeLedger m).evalRelay m true))
  ∧ (∀ s m, (s.point m).ledger.testEnd ≠ 0 → (s.point m).ledger.testEnd ≤ s.now → exec (.relayTestEnd m) s = .next
    ((s.onLedger m fun l => { l with testEnd := 0 }).evalRelay m))
  ∧ (∀ s m, (s.point m).ledger.limEnd ≠ 0 → (s.point m).ledger.limEnd ≤ s.now → exec (.powerLimitHoldEnd m) s = .next
    ((s.onLedger m fun l => { l with limEnd := 0 }).evalRelay m))
  ∧ (∀ s, s.security.entropyFailed = false → exec .entropyFailure s = .next
    ((s.onSec fun x => { x with entropyFailed := true }).authFail 3 0xFF))

/-- The events of the supply complete where they are due: VMAIN failing and returning and the end of ride-through (R72 to R76), the
health test of the backup capacitor (R67, R69, R71), its service and the battery's measurements (R493, R92), the temperature
reduction (R62), and a checkpoint (R85, R387). -/
def Obligations.SupplyEventsComplete : Prop :=
  (∀ s vmain vhold t, s.storeOn = true → s.power.pfail = false → vmain < 10000 → t = s.onPower (fun p => { p with
      vmainMv := vmain, vholdMv := vhold, pfail := true, lean := true, rideStart := s.now, lastPfail := some s.now }) →
    exec (.pfail vmain vhold) s = .next (((t.raise 2 0 0 []).discardTest.stopCheckpoint.pauseScrub).pauseHarm.stopCapture))
  ∧ (∀ s vmain, s.storeOn = true → s.power.pfail = true → 10500 < vmain → exec (.fullMeteringReturn vmain) s = .next
      ((((s.onPower fun p => { p with vmainMv := vmain, pfail := false, lean := false }).onStore fun t =>
        { t with scrub := { t.scrub with paused := false } }).fullWork).evalRelays []))
  ∧ (∀ s vhold t, s.storeOn = true → s.power.pfail = true → t = s.onPower (fun p => { p with vholdMv := vhold }) →
    (∀ c, t.rideEnds vhold = some c → exec (.rideThroughEnd vhold) s = .next (t.startAdjourn c))
    ∧ (t.rideEnds vhold = none → exec (.rideThroughEnd vhold) s = .next t))
  ∧ (∀ s vmain vhold t, t = s.onPower (fun p => { p with vmainMv := vmain, vholdMv := vhold }) → t.mode.mode.responding = true →
    t.testDue = true → t.capService = false →
    (t.testAllowed = true → s.power.testOp = none →
      exec (.healthTestStart vmain vhold) s = .next (t.onPower fun p => { p with test := .running }))
    ∧ (∀ o, t.testAllowed = true → s.power.testOp = some o →
      exec (.healthTestStart vmain vhold) s = .next ((t.onPower fun p => { p with test := .running }).commitOp o))
    ∧ (∀ o, t.testAllowed = false → s.power.testOp = some o → s.power.testSince + 60 * slotsPerS ≤ s.now →
      exec (.healthTestStart vmain vhold) s = .next
        ((t.onPower fun p => { p with test := .idle, testOp := none }).finish o .abortedPower 0 0)))
  ∧ (∀ s m c esr h t u, s.power.test = .running → c = measuredUf m → esr = satN 16 (roundDivN m.stepUv 100) →
    h = healthOf c esr (m.vaUv - m.vbUv) → t = s.onPower (fun p => { p with
      test := .idle, testOp := none, health := h, cUf := c, esrMohm := esr, healthTime := secondsOf s.time, lastTest := s.now }) →
    u = (if h = s.power.health then t else t.raise 61 0 0 []) →
    (s.power.testOp = none → exec (.healthTestComplete m) s = .next u)
    ∧ ∀ o, s.power.testOp = some o → exec (.healthTestComplete m) s = .next (u.finish o .ok 0 0))
  ∧ (∀ s on, s.mode.mode.responding = true → exec (.capService on) s = .next (s.capServiceWritten on))
  ∧ (∀ s mv, s.mode.mode.responding = true → exec (.vbatMeasure mv) s = .next (s.vbatMeasured mv))
  ∧ (∀ s mv vhold, s.asleep = true → s.power.src ≠ .none →
    exec (.vbatMeasurement mv vhold) s = .next ((s.onPower fun p => { p with
      vholdMv := vhold, src := if 4500 < vhold then .vhold else .vbat }).vbatMeasured mv))
  ∧ (∀ s mv vhold, s.asleep = false → s.storeOn = true →
    (s.power.vbatReq = true ∨ s.power.vbatAt + 86400 * slotsPerS ≤ s.now) →
    exec (.vbatMeasurement mv vhold) s = .next (s.vbatMeasured mv))
  ∧ (∀ (s t : State) (mv : Nat), t = s.onPower (fun p => { p with vbatMv := mv, vbatAt := s.slotNow, vbatReq := false }) →
    s.vbatMeasured mv = if mv < t.parN 0x6C2 then t.raiseAlarm 12 0 mv
      else if t.parN 0x6C2 + 100 ≤ mv then t.clearAlarm 12 0 else t)
  ∧ (∀ s t16, s.storeOn = true → s.power.leanTemp = false → 122 * 16 ≤ t16 → exec (.temperatureReduction t16) s = .next
    ((s.onPower fun p => { p with leanTemp := true }).pauseHarm.stopCapture.raiseAlarm 9 0))
  ∧ (∀ s t16, s.storeOn = true → s.power.leanTemp = true → t16 ≤ 112 * 16 → exec (.temperatureRecovery t16) s = .next
    (((s.onPower fun p => { p with leanTemp := false }).fullWork).clearAlarm 9 0))
  ∧ (∀ s, s.storeOn = true → s.power.lean = false → (∀ j ∈ s.store.jobs, j.ckpt = false) →
    (s.power.ckptNow = true ∨ s.power.ckptStart + s.ckptInterval * slotsPerS ≤ s.now) →
    ∃ t, exec .checkpoint s = .next t ∧ t.power.ckptStart = s.now ∧ t.power.ckptNow = false ∧ t.power.ckptRun = s.power.ckptOps
      ∧ t.power.ckptOps = [] ∧ Same (partPower ||| partPoints ||| partStore) s t)

/-- An adjournment, a start, a start given up and the loss of the always-on supply complete where they are due (R77, R86, R90, R100,
R37, R305): after an adjournment only the always-on domain runs. That an abandoned start ends in WATCH is the model's choice (log entry
170). -/
def Obligations.StartAndStopEventsComplete : Prop :=
  (∀ s a, s.mode.mode = .adjourn → ∃ t, exec (.adjournment a) s = .next t ∧ t.asleep = true
    ∧ t = ((s.adjournMetering a).1.endDetection).adjournSave a (s.adjournMetering a).2)
  ∧ (∀ s a, s.startDue a = true → ∃ t, exec (.startCondition a) s = .next t ∧ t = (s.bootPower a).bootUpTo a.upTo
    ∧ (a.upTo ≤ 1 → t = s.bootPower a ∧ t.mode.mode = .boot ∧ t.mode.bootStep = 1 ∧ t.power.src = .vhold
      ∧ ∀ p < 3, p < s.ports.length → (t.port p).latch = 0 ∧ (t.port p).notify = []))
  ∧ (∀ s vhold t, s.mode.mode = .boot → 1 ≤ s.mode.bootStep → s.mode.bootStep < 5 → t = s.onMode (fun m => { m with
      mode := .watch, bootStep := 0, abandoned := incSat 8 m.abandoned
      abFirst := if 4 ≤ s.mode.bootStep then m.firstSample else m.abFirst
      abLast := if 4 ≤ s.mode.bootStep then s.now - 1 else m.abLast }) →
    exec (.startAbandoned vhold) s = .next (t.unpowered.onPower fun p => { p with
      vholdMv := vhold, src := if p.src = .none then .none else if 4500 < vhold then .vhold else .vbat }))
  ∧ (∀ s, s.asleep = true → s.power.src ≠ .none → ∃ t, exec .vaonLoss s = .next t ∧ t.power.src = .none ∧ t.mode.mode = .dormant
    ∧ t.clock.retentionLost = true ∧ t.clock.rtcLost = true ∧ t.tamper.buffer = [] ∧ t.tamper.total = 0
    ∧ Same (partPower ||| partMode ||| partClock ||| partTamper) s t)

/-- The events of the time base complete where they are due (R21, R303, R304, R306, R331, R516, R426): a reference window advances
the RTC and the period count, and finds or ends the loss of the reference; an anchor, a correction, a drift check, the last part of
a slew, a change of zone, and the RTC's oscillator. -/
def Obligations.TimeBaseEventsComplete : Prop :=
  (∀ s n t, s.power.src ≠ .none → t = s.onClock Clock.window →
    (s.clock.windows + 1 ≠ 32768 → t.clock.periods = s.clock.periods + 32)
    ∧ (s.clock.slew = 0 → s.clock.rtcMilli < 1000 → t.clock.rtcMilli = s.clock.rtcMilli
      ∧ t.clock.rtc = if s.clock.windows + 1 = 32768 then wrap48 (s.clock.rtc + 64 + 2 * s.clock.corrPeriods)
        else wrap48 (s.clock.rtc + 64))
    ∧ (s.metering = false → exec (.referenceWindow n) s = .next t)
    ∧ (s.metering = true → s.clock.refLost = false → 15840 ≤ n → n ≤ 16160 → exec (.referenceWindow n) s = .next t)
    ∧ (s.metering = true → s.clock.refLost = false → n < 15840 ∨ 16160 < n →
      exec (.referenceWindow n) s = .next t.declareLoss)
    ∧ (s.metering = true → s.clock.refLost = true → ∀ u, u = t.onClock (fun c => { c with
        slot := c.slot + 125, refGood := if 15840 ≤ n ∧ n ≤ 16160 then c.refGood + 1 else 0 }) →
      exec (.referenceWindow n) s = .next (if 1000 ≤ u.clock.refGood then u.restoreReference else u)))
  ∧ (∀ s, s.metering = true → s.now % 1048576 = 0 → exec .anchor s = .next
      (((s.placeAnchor { s := s.now, t := s.clock.rtc }).refine).tableChanged s.pastInstants))
  ∧ (∀ s t16 t, s.power.src ≠ .none → t = s.onClock (fun c => { c with
      tempC16 := t16, maxTempC16 := max c.maxTempC16 t16, corrPeriods := rtcCorrection (s.parN 0x301) t16 }) →
    (s.asleep = false → exec (.rtcCorrection t16) s = .next t)
    ∧ (s.asleep = true → exec (.rtcCorrection t16) s = .next (if 122 * 16 ≤ t16 then t.raiseAlarm 9 0 (toTwos 32 t16)
      else if t16 ≤ 112 * 16 then t.clearAlarm 9 0 else t)))
  ∧ (∀ s a p n num t, s.metering = true → s.clock.refLost = false → s.clock.driftFrom = some (a, p) → n = s.clock.periods - p →
    33554432 ≤ n → num = (((s.now - a : Nat) : Int) * 32 - (n * 125 : Nat)) * 1000000 →
    t = s.onClock (fun c => { c with driftFrom := some (s.now, s.clock.periods) }) →
    exec .rtcDriftCheck s = .next (if 120 * (n * 125) < num.natAbs then t.driftEvent 0 (roundDiv num (n * 125)) else t))
  ∧ (∀ s, s.clock.slew ≠ 0 → s.clock.slew.natAbs ≤ 64 → ∃ t, exec .slewComplete s = .next t ∧ t.clock.slew = 0
    ∧ (∃ x : Int, t.clock.rtc = wrap48 x ∧ x * 1000 + t.clock.rtcMilli = s.clock.rtc * 1000 + s.clock.rtcMilli + s.clock.slew)
    ∧ t.clock.rtcMilli < 1000
    ∧ Same partClock s t)
  ∧ (∀ s n u es live t, s.tariff.zoneAt = some n → s.storeOn = true → u = s.timeOf n →
    es = ((List.range 4).map fun p =>
      s.planEntries p (u - 26 * 3600 * 65536) u ((s.plan p).rate, (s.plan p).friendly) 57).flatten →
    live = es.filter (fun e => s.liveKinds e != 0) →
    t = (s.onTariff fun x => { x with zoneAt := none }).openCommit
      { step := true, instant := n, time := u, exec := if n < s.now then s.now else n
        flags := s.commonFlags + 2 * b2n (!live.isEmpty) + b2n (decide (n < s.now)) } live true →
    exec .zoneChange s = .next ((((t.placeAnchor { s := n, t := u, step := true }).cutWindows).restartTable u).takeback 0
      (fun _ => true) fun a b => decide (a < n) && decide (n < b)))
  ∧ (∀ s, s.cellAlone = true → s.clock.oscStopped = false → exec .rtcOscillatorStop s = .next
      ((s.raiseAlarm 10 0).onClock fun c => { c with oscStopped := true, oscStopAt := s.clock.rtc }))
  ∧ (∀ s, s.clock.oscStopped = true → exec .rtcOscillatorResumed s = .next
      ((s.clearAlarm 10 0 (some ((s.timeNow - s.clock.oscStopAt) * 128000 / 65536).toNat)).onClock
        fun c => { c with oscStopped := false }))

/-- A sample of the tamper inputs, and the supply glitch and its clear complete (R422 to R426): an input that disagrees for as many
samples as its rule asks raises its alarm, one that agrees 64 times in a row clears it. -/
def Obligations.TamperEventsComplete : Prop :=
  (∀ s a, s.power.src ≠ .none → exec (.tamperSample a) s = .next ((List.range 9).foldl (fun s i => s.sampleInput a i)
      (s.onTamper fun t => { t with lfsr := t.lfsr.map lfsrStep })))
  ∧ (∀ (s : State) a i x n t, s.inputOn i = true → x = s.tamper.inputs.getD i {} →
    (s.agrees a i = true → n = min 64 (x.agree + 1) →
      t = s.onTamper (fun t => { t with inputs := upd t.inputs i fun _ => { agree := n } }) →
      s.sampleInput a i = if n = 64 then t.clearAlarm i 0 else t)
    ∧ (s.agrees a i = false → n = min 3 (x.disagree + 1) →
      t = s.onTamper (fun t => { t with inputs := upd t.inputs i fun _ => { disagree := n } }) →
      s.sampleInput a i = if t.raiseAfter i ≤ n then t.raiseAlarm i 0 (if i < 8 then i else 0) else t))
  ∧ (∀ s, s.power.src ≠ .none → exec .supplyGlitch s = .next
      ((s.raiseAlarm 11 0).onTamper fun t => { t with glitchAt := some s.slotNow }))
  ∧ (∀ s t, s.tamper.glitchAt = some t → t + slotsPerS ≤ s.slotNow → exec .supplyGlitchClear s = .next
      ((s.clearAlarm 11 0).onTamper fun x => { x with glitchAt := none }))

/-- The events of the engine and of energy complete where they are due: a round boundary (R217), a segment of Q8 (R257, R259), the
absence of crossings (R276), a cycle at its horizon or its deadline (R229, R230), the edges of a pulse output (R269), the end of a
balance window (R271), and the tokens handed over (R353). -/
def Obligations.MeteringEventsComplete : Prop :=
  (∀ s a, s.metering = true →
    (s.clock.refLost = false → ∃ t, exec (.roundBoundary a) s = .next t ∧ t.now = s.nextRound
      ∧ t = ((s.onClock fun c => { c with slot := s.nextRound }).roundBoundary a).drain)
    ∧ (s.clock.refLost = true → s.engine.runAhead < s.now / 256 * 256 → ∃ t, exec (.roundBoundary a) s = .next t ∧ t.now = s.now
      ∧ t = (((s.onClock fun c => { c with slot := s.now / 256 * 256 }).roundBoundary a).onClock
        fun c => { c with slot := s.now }).drain))
  ∧ (∀ s us ws t, 8 ≤ s.q8.length → ws = crossing 64 us (s.q8.take 8) →
    t = (s.onQ8 fun q => q.drop 8).poisonedN 8 (ws.filter fun w => w.poison).length →
    (t.salvage ws = none → exec (.segmentRecord us) s = .next t.drain)
    ∧ ∀ r f b, t.salvage ws = some (r, f) → (t.point r.mp).bind = some b → exec (.segmentRecord us) s = .next
      (if (t.point r.mp).covers r then t
        else ((if f then t.countFilled else t).fillGap r b).applySegment r b).drain)
  ∧ (∀ s c, (s.chan c).set.role = 1 → (s.chan c).noCross = false → s.metering = true → (s.chan c).provisional = none →
    (s.chan c).quietFrom + 3200 ≤ s.now → c < s.channels.length →
    ∃ t, exec (.noCrossing c) s = .next t ∧ (t.chan c).noCross = true ∧ Same partChannels s t
      ∧ (t.chan c).nextGate = s.gatesStart c)
  ∧ (∀ s m b x fin, (s.point m).bind = some b → (s.point m).slots.head? = some x → x.close = some fin → s.storeOn = true →
    32 ≤ s.q8Room →
    (s.power.lean = true → fin ≤ s.pointReady b → x.complete fin = true →
      exec (.cycleCommit m) s = .next (s.commitSlot m b x fin))
    ∧ (s.power.lean = false → x.horizon fin ≤ s.now → x.horizon fin ≤ s.pointReady b → x.provis = false → x.complete fin = true →
      s.redoPending m x.cycle = false → exec (.cycleCommit m) s = .next (s.commitSlot m b x fin))
    ∧ (fin + 3072 ≤ s.now →
      exec (.cycleCommitDeadline m) s = .next (s.commitSlot m b (s.completeSlot b m x fin) fin)))
  ∧ (∀ s o e r, o < s.pulses.length → (s.pulses.getD o {}).edges = e :: r → e.at_ < s.nextRound →
    ∃ t, exec (.pulseEdge o) s = .next t ∧ Same partPulses s t
      ∧ (t.pulses.getD o {}).level = e.rising ∧ (t.pulses.getD o {}).edges = r)
  ∧ (∀ s g x fin, x = s.groups.getD g {} → s.storeOn = true → (x.set.window ≠ 0 ∨ x.next.isSome = true) →
    fin = x.cut.getD (s.instantOf x.windowEnd) → fin ≤ s.now →
    ((∀ m ∈ s.boundPoints, x.set.involves m = true → fin ≤ (s.point m).sEnd) ∨ fin + 12800 ≤ s.now) →
    exec (.balanceWindow g) s = .next (if x.set.window = 0 then s.nextWindow g else (s.evaluateWindow g).nextWindow g))
  ∧ (∀ s, s.metering = true → ∃ t, exec .tokenApply s = .next t
    ∧ t = s.relays.tokens.foldl State.applyToken (s.onRelays fun x => { x with tokens := [] })
    ∧ Same (partPorts ||| partPoints ||| partRelays ||| partEvents ||| partStore ||| partFree) s t)

/-- The events of the calendar's boundaries complete where they are due: entries near their instants freeze (R307), commits that every
point has passed are recorded (R320), a deferred snapshot is signed (R328), and the table is filled and found low (R233, R318). -/
def Obligations.BoundaryEventsComplete : Prop :=
  (∀ s, ∃ t, exec .boundaryFreeze s = .next t ∧ Same partTariff s t
    ∧ t.tariff.table = s.tariff.table.map fun e => if e.instant ≤ s.now + 131072 then { e with frozen := true } else e)
  ∧ (∀ s t, t = s.onTariff (fun t => { t with commits := t.commits.map s.pruneCommit }) →
    exec .boundaryCommit s = .next ((t.tariff.commits.filter fun c => c.waiting.isEmpty).foldl State.finishCommit t).drain)
  ∧ (∀ s m q rest t, s.tariff.signQueue = (m, q) :: rest → s.cp.st = .ready → s.mode.mode.responding = true →
    s.security.entropyFailed = false → t = s.onTariff (fun x => { x with signQueue := rest }) →
    (∀ x h, t.findSnapshot m q = some x → s.security.idKey = true → h = t.statementHeader 0 m 512 (zeros 32) →
      exec .boundarySigning s = .next ((t.sign "OVP-CRAISKIX" (h ++ x.bytes)).2.q12
        [.signature m q (h ++ (t.sign "OVP-CRAISKIX" (h ++ x.bytes)).1)]))
    ∧ (t.findSnapshot m q = none → exec .boundarySigning s = .next t)
    ∧ (s.security.idKey = false → exec .boundarySigning s = .next t))
  ∧ (∀ s, s.cp.st = .ready → s.metering = true → exec .boundaryTableRefill s = .next
      (if s.rewriteTable.parN 0x303 * 3600 ≤ s.rewriteTable.horizonS then
        s.rewriteTable.onTariff fun t => { t with tableLow := false, lowAt := none } else s.rewriteTable))
  ∧ (∀ s, s.storeOn = true → (s.mode.mode = .boot → s.cp.st = .ready) → s.horizonS < s.parN 0x303 * 3600 →
    (∀ t, s.tariff.lowAt = some t → t + 460800000 ≤ s.now) →
    exec .boundaryTableLow s = .next ((s.onTariff fun t => { t with tableLow := true, lowAt := some s.now }).raise 38 0 0 []))

/-- The events of power quality and of overload complete where they are due: an item of Q9 (R278, R282), a gap word (R28), the end of
a 10 s window (R279, R280), of a harmonic window (R286), of an event window (R294), of a capture (R291) and of an overload (R169). -/
def Obligations.PowerQualityEventsComplete : Prop :=
  (∀ s us w0 w1 x0 x1 r c slot v t, s.pq.q9 = w0 :: w1 :: r → w0.gap = false → crossing 32 us [w0, w1] = [x0, x1] →
    x0.poison = false → c = bits x0.data 2 9 → slot = extend18 t.now (bits x0.data 14 18) → v = x1.data →
    t = (s.onPq fun p => { p with q9 := r }).poisonedN 9 (b2n x1.poison) → (t.chan c).set.role = 1 →
    (bits x0.data 0 2 = 0 → exec (.pqItem us) s = .next (t.halfValue c slot (if x1.poison then 2 else bits x0.data 11 3) v))
    ∧ (bits x0.data 0 2 = 1 → x1.poison = false → exec (.pqItem us) s = .next (t.freqCross c (256 * slot + v % 256)))
    ∧ (bits x0.data 0 2 = 1 → x1.poison = true → exec (.pqItem us) s = .next
      (t.onChan c fun h => { h with pqCross := none, pqUndo := none }))
    ∧ (bits x0.data 0 2 = 3 → x1.poison = false → exec (.pqItem us) s = .next (t.freqWithdraw c (256 * slot + v % 256))))
  ∧ (∀ s us w0 w1 x0 x1 r, s.pq.q9 = w0 :: w1 :: r → w0.gap = false → crossing 32 us [w0, w1] = [x0, x1] → x0.poison = true →
    exec (.pqItem us) s = .next ((s.onPq fun p => { p with q9 := r }).poisonedN 9 (1 + b2n x1.poison)))
  ∧ (∀ s us w0 r, s.pq.q9 = w0 :: r → w0.gap = true → exec (.pqItem us) s = .next
    ((s.onPq fun p => { p with q9 := r }).gapped 9).itemsLost)
  ∧ (∀ s c, (s.chan c).set.role = 1 → s.metering = true → s.f10Fin c + 1024 ≤ s.now → c < s.channels.length →
    ∃ t, exec (.frequencyWindowEnd c) s = .next t ∧ Same (partChannels ||| partPq ||| partEvents) s t
      ∧ (t.chan c).f10From = s.f10Fin c
      ∧ (t.chan c).f10Count = (s.chan c).f10NextCount
      ∧ (t.chan c).f10 = (if (s.chan c).f10Count = 0 then 0 else
        roundDivN ((s.chan c).f10Count * 32768000000) (s.chan c).f10Sum))
  ∧ (∀ s c w r, (s.chan c).harmReady = w :: r → s.hasHarm = true → c < s.channels.length →
    ∃ t, exec (.harmonicWindowEnd c) s = .next t ∧ (t.chan c).harmReady = r ∧ (t.chan c).harm = s.analyse c w
      ∧ Same (partChannels ||| partPoints ||| partPq ||| partEvents) s t)
  ∧ (∀ s ws, ws = s.pq.windows.filter (fun w => decide (w.close + 512 ≤ s.now)) →
    ∃ t, exec .coalesceWindowClose s = .next t ∧ Same (partPq ||| partEvents) s t
      ∧ t = ws.foldl State.closeWindow
        (s.onPq fun p => { p with windows := p.windows.filter fun w => decide (s.now < w.close + 512) }))
  ∧ (∀ s, s.pq.capture.state = .post → (∀ x ∈ s.pq.capture.tracks, s.pq.capture.trig + 128000 ≤ (s.chan x.ch).detAt) →
    ∃ t, exec .captureComplete s = .next t ∧ t.pq.capture.state = .held ∧ t.pq.capture.valid = true
      ∧ t.pq.capture.seq = incSat 32 s.pq.capture.seq ∧ Same (partPq ||| partEvents) s t)
  ∧ (∀ s c e r, (s.chan c).overEnds = e :: r → c < s.channels.length →
    ∃ t, exec (.overloadEpisodeEnd c) s = .next t ∧ (t.chan c).overEnds = r
      ∧ Same (partChannels ||| partPq ||| partEvents) s t)

/-- The events of the islands complete where they are due: the supply comparison (R172), the self-tests of the lanes (R240) and of the
seconds (R180), urgent requests (R181, R182), a comparison of a second (R178, R179) and the effect of a remap (R487). -/
def Obligations.IslandEventsComplete : Prop :=
  (∀ s n vref avdd t16, n < s.islands.length → n < s.nIsl → 3 ≤ s.mode.bootStep → s.metering = true → (s.isl n).retired = false →
    (vref.natAbs ≤ 10000 → avdd.natAbs ≤ 50000 → s.islFault n = false →
      ∃ t, exec (.islandSupplyCheck n vref avdd t16) s = .next t ∧ Same partIslands s t ∧ (t.isl n).refBad = 0
        ∧ (t.isl n).supBad = 0 ∧ (t.isl n).good = min 100 ((s.isl n).good + 1)
        ∧ (t.isl n).temp = ((s.isl n).refreshTemp s.now t16).temp)
    ∧ (10000 < vref.natAbs → avdd.natAbs ≤ 50000 →
      ∃ t, exec (.islandSupplyCheck n vref avdd t16) s = .next t ∧ Same (partIslands ||| partPq ||| partEvents) s t
        ∧ (t.isl n).good = 0 ∧ (t.isl n).refBad = min 3 ((s.isl n).refBad + 1)
        ∧ (t.isl n).refFault = ((s.isl n).refFault || decide (3 ≤ (s.isl n).refBad + 1))))
  ∧ (∀ s j sigs k, s.metering = true → j < 4 → s.pairDue j = some k → (s.lane (2 * j)).retired = false →
    (s.lane (2 * j + 1)).retired = false → s.idleFor (2 * j) = true → s.idleFor (2 * j + 1) = true → exec (.laneSelfTest j sigs) s = .next
      (((s.onEngine fun e => { e with pairDone := upd e.pairDone j fun _ => k }).laneTested (2 * j) sigs.1).laneTested (2 * j + 1) sigs.2))
  ∧ (∀ s u y t, takeable (fun _ => 1) (s.creditsMax 28) s.q28 = some u →
    y = refill (fun _ => 1) Urgent.unit (s.creditsMax 28) (s.queue 28).turn s.q28 →
    t = (s.onQ28 fun _ => y.1).onQueue 28 (fun x => { x with turn := y.2 }) →
    exec (.urgentRequest true) s = .next ((t.poisoned 28).answerEmpty .void u)
    ∧ (t.islOn (u.ch / 64) = false → exec (.urgentRequest false) s = .next (t.answerEmpty .retired u))
    ∧ (t.islOn (u.ch / 64) = true → (t.chan u.ch).set.role = 0 → exec (.urgentRequest false) s = .next (t.answerEmpty .void u))
    ∧ (t.islOn (u.ch / 64) = true → (t.chan u.ch).set.role ≠ 0 → (t.isl (u.ch / 64)).blind = false →
      (∀ v ∈ (t.isl (u.ch / 64)).waiting, v.ch ≠ u.ch) →
      (8 ≤ (t.isl (u.ch / 64)).waiting.length → exec (.urgentRequest false) s = .next (t.answerEmpty .busy u))
      ∧ ((t.isl (u.ch / 64)).waiting.length < 8 → ∀ b, b = (t.isl (u.ch / 64)).serving u.ch →
        exec (.urgentRequest false) s = .next (((t.onIsland (u.ch / 64) fun i => { i with urgents := i.urgents ++ [u] }).onSecond
          (u.ch / 64) b fun x => x.abort u.ch t.now).nextWork (u.ch / 64) b))))
  ∧ (∀ s n b count r rest len tol, ((s.isl n).second b).runs = r :: rest → r.urgent = none →
    r.endGate + (s.chan r.ch).set.int ≤ s.now → r.endGate + (s.chan r.ch).set.int ≤ (s.chan r.ch).takenAt →
    len = r.endGate - r.start → tol = s.parN (0x1000 + 8 * r.ch + 6) →
    (r.void = false → s.islFault (r.ch / 64) = false → 1600 ≤ len → len ≤ 3200 →
      ∀ ok, ok = decide (((count * 2 ^ 20 : Nat) - (r.sum : Int)).natAbs * 100000
        ≤ bits tol 0 16 * r.sum + bits tol 16 16 * 2 ^ 26 * len) →
      exec (.secondIntegrationEnd n b count false) s = .next
        ((((s.onSecond n b fun x => { x with runs := rest }).onIsland n fun i => { i with
          comparisons := (i.comparisons + 1) % 65536, mismatches := (i.mismatches + b2n (!ok)) % 65536 }).compared r.ch ok
            (min 0xFFFF (roundDivN r.sum (1024 * len))) (min 0xFFFF (roundDivN (count * 1024) len)) r.start).nextWork n b))
    ∧ (r.void = true ∨ len < 1600 ∨ 3200 < len → exec (.secondIntegrationEnd n b count false) s = .next
      ((s.onSecond n b fun x => { x with runs := rest }).nextWork n b))
    ∧ exec (.secondIntegrationEnd n b count true) s = .next
      (((s.poisoned 29).onSecond n b fun x => { x with runs := rest }).nextWork n b))
  ∧ (∀ s n b (a cH cZ : Nat), ((s.isl n).second b).testAt = some a → a + 5120 ≤ s.now →
    1000 * ((cH : Int) - 81920).natAbs ≤ 163840 → 1000 * cZ ≤ 163840 → exec (.secondSelfTest n b cH cZ) s = .next
      (((s.onSecond n b fun x => { x with testAt := none, failed := false }).onIslandChans n fun h =>
        if h.check = .unverified then { h with check := .unchecked, mismatches := 0 } else h).nextWork n b))
  ∧ (∀ s n b (a cH cZ : Nat) t, ((s.isl n).second b).testAt = some a → a + 5120 ≤ s.now →
    163840 < 1000 * cZ → t = (s.onSecond n b fun x => { x with testAt := none, failed := true }).islandFault n (2 + b2n b) cH →
    (t.isl n).blind = false → exec (.secondSelfTest n b cH cZ) s = .next (t.nextWork n b))
  ∧ (∀ s x at_, s.metering = true → s.engine.remaps = [x] → x.done = false → s.remapInstant x = some at_ →
    exec .remapEffect s = .next (s.exchange x at_))

/-- The events of the store, of the recorder, of the relay port, of the security engine and of the microcode complete where they are
due: the writer's first job (R369 to R372), the scrubber's word (R390), an event of Q13 (R399), a refresh of the relays (R363), a job
of the security engine (R451) and a switch of the microcode (R485). -/
def Obligations.StoreAndSecurityEventsComplete : Prop :=
  (∀ s v j r t, s.store.jobs = j :: r → s.storeOn = true → t = s.onPower (fun p => { p with vholdMv := v }) →
    (t.mayWrite v = true → j.wait = false → exec (.storeJobConfirm v) s = .next
      ((((t.onStore fun x => { x with jobs := r }).writeJob j).jobReleases j).ckptRecord j).drain)
    ∧ (t.mayWrite v = false → j.wait = false → exec (.storeJobConfirm v) s = .next (t.deferFirst j r v).drain)
    ∧ (t.mayWrite v = true → j.wait = true → exec (.writerEnergyRecheck v) s = .next
      ((((t.onStore fun x => { x with jobs := r }).writeJob j).jobReleases j).ckptRecord j).drain)
    ∧ (t.mayWrite v = false → j.wait = true → exec (.writerEnergyRecheck v) s = .next (t.deferFirst j r v).drain)
    ∧ (t.mayWord v = false → t.deferFirst j r v = t.onStore fun x => { x with
        jobs := { j with wait := true } :: r, deferred := if j.wait then x.deferred else incSat 32 x.deferred }))
  ∧ (∀ s a, s.storeOn = true → s.store.scrub.paused = false → s.store.scrub.pos + 1 < storeWords →
    ∃ t, exec (.scrubWord .good .good a) s = .next t ∧ t.store.scrub.pos = s.store.scrub.pos + 1
      ∧ Same (partStore ||| partClock) s t)
  ∧ (∀ s m a, s.storeOn = true → s.store.scrub.paused = false → s.store.scrub.pos + 1 < storeWords →
    ∃ t, exec (.scrubWord .corrected m a) s = .next t ∧ t.store.scrub.pos = s.store.scrub.pos + 1
      ∧ t.store.corrected = incSat 32 s.store.corrected ∧ t.store.scrub.corrected = s.store.scrub.corrected + 1)
  ∧ (∀ s g, takeable EvGroup.words (s.creditsMax 13) s.events.q13 = some g → s.events.freeze = none →
    (g.poison = false → ∃ t, exec (.eventGroup false) s = .next t ∧ (∃ l, t.events.q13 = s.eventTaken.events.q13 ++ l)
      ∧ t.events.seq = (s.events.seq + (s.groupRecords g).length) % 2 ^ 32)
    ∧ (∀ u, (g.poison || u) = true → exec (.eventGroup u) s = .next (s.eventTaken.poisoned 13)))
  ∧ (∀ s di n, n = s.parN 0x400 % 64 → n ≠ 0 → s.now % 12800 = 0 → s.storeOn = true →
    ∃ t, exec (.relayRefresh di) s = .next t ∧ Same (partRelays ||| partEvents) s t
      ∧ t.relays.dirs = takeDirectives s.relays.dirs s.relays.q15 ∧ t.relays.q15 = []
      ∧ t.relays.frames = (List.range n).map (fun b => relayFrame b ((takeDirectives s.relays.dirs s.relays.q15).getD b 0))
      ∧ t.relays.readback = (List.range n).map (fun b => wireFrame di (n - 1 - b))
      ∧ t.relays.config = s.parN 0x400 ∧ t.relays.refreshes = s.relays.refreshes + 1)
  ∧ (∀ s j rest, s.security.jobs = j :: rest → s.cp.st = .ready →
    exec (.securityJobDone false) s = .next ((s.onSec fun x => { x with jobs := rest }).jobDone j false)
    ∧ exec (.securityJobDone true) s = .next (((s.poisoned 24).onSec fun x => { x with jobs := rest }).jobDone j true))
  ∧ (∀ s, s.switchPermitted = true →
    (∀ k, s.images.ucBoot = some k → s.cp.st = .ready → exec .ucodeSwitch s = .next (s.switchMicrocode k))
    ∧ (∀ u, s.images.ucBoot = none → s.images.ucReq = some u → exec .ucodeSwitch s = .next (s.ucodeSwitch u)))
  ∧ (∀ s u, s.switchPermitted = false → s.images.ucBoot = none → s.images.ucReq = some u → u.from_ + 256000 ≤ s.now →
    exec .ucodeSwitch s = .next ((s.onImages fun x => { x with ucReq := none }).finish u.op .resourceBusy 0 0))

/-- What the block's own events leave as it was: each of them changes at most the parts named for it, whatever the state. -/
def Obligations.EventFrames : Prop :=
  (∀ s t, exec .slewComplete s = .next t → Same partClock s t)
  ∧ (∀ s t, (exec .calLinkOpenTimeout s = .next t ∨ exec .calibrateTimeout s = .next t) → Same partMode s t)
  ∧ (∀ s code t, exec (.notice code) s = .next t → Same partCp s t)
  ∧ (∀ s t, exec .resetNRelease s = .next t → Same partCp s t)
  ∧ (∀ s port t, exec (.readPortStatus port) s = .next t → Same partPorts s t)
  ∧ (∀ s port clocked t, exec (.readPacket port clocked) s = .next t → Same partPorts s t)
  ∧ (∀ s t, exec .auxReplySent s = .next t → Same partPorts s t)
  ∧ (∀ s t, (exec .idcode s = .next t ∨ exec .clamp s = .next t ∨ exec .highz s = .next t) → Same partTap s t)
  ∧ (∀ s pins preload t, exec (.samplePreload pins preload) s = .next t → Same partTap s t)
  ∧ (∀ s pins t, exec (.extest pins) s = .next t → Same partTap s t)
  ∧ (∀ s code t, exec (.bypass code) s = .next t → Same partTap s t)
  ∧ (∀ s ch t, exec (.noCrossing ch) s = .next t → Same partChannels s t)
  ∧ (∀ s out t, exec (.pulseEdge out) s = .next t → Same partPulses s t)
  ∧ (∀ s t, exec .boundaryFreeze s = .next t → Same partTariff s t)
  ∧ (∀ s t, exec .lockExpiry s = .next t → Same partTamper s t)
  ∧ (∀ s anchor t, exec (.sessionKeyExpiry anchor) s = .next t → Same partSecurity s t)
  ∧ (∀ s t, exec .imageSessionTimeout s = .next t → Same partImages s t)
  ∧ (∀ s t, exec .debugLevelExpiry s = .next t → Same (partMode ||| partCp) s t)
  ∧ (∀ s vmain vhold t, exec (.healthTestStart vmain vhold) s = .next t → Same (partPower ||| partPorts) s t)
  ∧ (∀ s mp t, (exec (.relayTestEnd mp) s = .next t ∨ exec (.powerLimitHoldEnd mp) s = .next t) → Same (partPoints |||
    partRelays) s t)
  ∧ (∀ s t, exec .rtcDriftCheck s = .next t → Same (partClock ||| partEvents) s t)
  ∧ (∀ s port clocked t, exec (.readPacketQ port clocked) s = .next t → Same (partPorts ||| partEvents) s t)
  ∧ (∀ s port code t, exec (.spiUnknownInstruction port code) s = .next t → Same (partPorts ||| partEvents) s t)
  ∧ (∀ s t, exec .boundaryTableLow s = .next t → Same (partTariff ||| partEvents) s t)
  ∧ (∀ s di t, exec (.relayRefresh di) s = .next t → Same (partRelays ||| partEvents) s t)
  ∧ (∀ s t, (exec .captureComplete s = .next t ∨ exec .coalesceWindowClose s = .next t) → Same (partPq ||| partEvents) s t)
  ∧ (∀ s t, exec .supplyGlitch s = .next t → Same (partOtp ||| partTamper) s t)
  ∧ (∀ s mp t, exec (.tokenLockoutEnd mp) s = .next t → Same (partPoints ||| partStore) s t)
  ∧ (∀ s t, exec .entropyFailure s = .next t → Same (partEvents ||| partSecurity) s t)
  ∧ (∀ s samples t, exec (.calLink samples) s = .next t → Same (partTamper ||| partSecurity) s t)
  ∧ (∀ s t, exec .trstN s = .next t → Same (partMode ||| partCp ||| partTap) s t)
  ∧ (∀ s m t, exec (.healthTestComplete m) s = .next t → Same (partPower ||| partPorts ||| partEvents) s t)
  ∧ (∀ s on t, exec (.capService on) s = .next t → Same (partPower ||| partParams ||| partEvents) s t)
  ∧ (∀ s ch t, (exec (.overloadEpisodeEnd ch) s = .next t ∨ exec (.frequencyWindowEnd ch) s = .next t) → Same (partChannels |||
    partPq ||| partEvents) s t)
  ∧ (∀ s t, exec .rtcOscillatorStop s = .next t → Same (partOtp ||| partClock ||| partTamper) s t)
  ∧ (∀ s t, exec .checkpoint s = .next t → Same (partPower ||| partPoints ||| partStore) s t)
  ∧ (∀ s mp t, exec (.relayOverrideEnd mp) s = .next t → Same (partPoints ||| partRelays ||| partStore) s t)
  ∧ (∀ s t, exec .logFreezeTimeout s = .next t → Same (partPorts ||| partEvents ||| partStore) s t)
  ∧ (∀ s t, exec .boundarySigning s = .next t → Same (partTariff ||| partStore ||| partFree) s t)
  ∧ (∀ s q t, exec (.creditResync q) s = .next t → Same (partCp ||| partPorts ||| partQueues ||| partEvents) s t)
  ∧ (∀ s t, exec .boundaryTableRefill s = .next t → Same (partEngine ||| partPoints ||| partTariff ||| partEvents) s t)
  ∧ (∀ s isl vrefPpm avddPpm t16 t, exec (.islandSupplyCheck isl vrefPpm avddPpm t16) s = .next t → Same (partChannels |||
    partIslands ||| partPq ||| partEvents) s t)
  ∧ (∀ s ch t, exec (.harmonicWindowEnd ch) s = .next t → Same (partChannels ||| partPoints ||| partPq ||| partEvents) s t)
  ∧ (∀ s t, exec .vaonLoss s = .next t → Same (partPower ||| partClock ||| partMode ||| partTamper) s t)
  ∧ (∀ s t, exec .supplyGlitchClear s = .next t → Same (partMode ||| partPoints ||| partEvents ||| partTamper) s t)
  ∧ (∀ s normal margin again t, exec (.scrubWord normal margin again) s = .next t → Same (partClock ||| partPorts ||| partEvents |||
    partStore) s t)
  ∧ (∀ s upset t, exec (.eventGroup upset) s = .next t → Same (partPorts ||| partQueues ||| partEvents ||| partStore) s t)
  ∧ (∀ s pair sigs t, exec (.laneSelfTest pair sigs) s = .next t → Same (partPorts ||| partEngine ||| partStore |||
    partSecurity) s t)
  ∧ (∀ s t, exec .anchor s = .next t → Same (partClock ||| partEngine ||| partPoints ||| partTariff ||| partEvents) s t)
  ∧ (∀ s isl b cHalf cZero t, exec (.secondSelfTest isl b cHalf cZero) s = .next t → Same (partChannels ||| partIslands |||
    partPoints ||| partPq ||| partEvents) s t)
  ∧ (∀ s a t, exec (.tamperSample a) s = .next t → Same (partOtp ||| partMode ||| partPoints ||| partEvents ||| partTamper) s t)
  ∧ (∀ s t, exec .rtcOscillatorResumed s = .next t → Same (partClock ||| partMode ||| partPoints ||| partEvents ||| partTamper) s t)
  ∧ (∀ s vmain t, exec (.fullMeteringReturn vmain) s = .next t → Same (partPower ||| partPoints ||| partRelays ||| partPq |||
    partStore) s t)
  ∧ (∀ s op t, exec (.debug op) s = .next t → Same (partCp ||| partTap ||| partQ8 ||| partPq ||| partFree) s t)
  ∧ (∀ s upsets t, exec (.pqItem upsets) s = .next t → Same (partPorts ||| partQueues ||| partChannels ||| partPoints ||| partPq |||
    partEvents) s t)
  ∧ (∀ s mv t, exec (.vbatMeasure mv) s = .next t → Same (partOtp ||| partPower ||| partMode ||| partPoints ||| partEvents |||
    partTamper) s t)
  ∧ (∀ s mv vhold t, exec (.vbatMeasurement mv vhold) s = .next t → Same (partOtp ||| partPower ||| partMode ||| partPoints |||
    partEvents ||| partTamper) s t)
  ∧ (∀ s t16 t, exec (.rtcCorrection t16) s = .next t → Same (partOtp ||| partClock ||| partMode ||| partPoints ||| partEvents |||
    partTamper) s t)
  ∧ (∀ s g t, exec (.balanceWindow g) s = .next t → Same (partOtp ||| partMode ||| partPoints ||| partGroups ||| partEvents |||
    partTamper) s t)
  ∧ (∀ s t16 t, exec (.temperatureReduction t16) s = .next t → Same (partOtp ||| partPower ||| partChannels ||| partPq |||
    partEvents ||| partTamper) s t)
  ∧ (∀ s t16 t, exec (.temperatureRecovery t16) s = .next t → Same (partPower ||| partMode ||| partPoints ||| partPq ||| partEvents
    ||| partTamper) s t)
  ∧ (∀ s t, exec .tokenApply s = .next t → Same (partPorts ||| partPoints ||| partRelays ||| partEvents ||| partStore |||
    partFree) s t)
  ∧ (∀ s t, exec .zoneChange s = .next t → Same (partClock ||| partChannels ||| partEngine ||| partPoints ||| partGroups |||
    partTariff ||| partEvents) s t)
  ∧ (∀ s vmain vhold t, exec (.pfail vmain vhold) s = .next t → Same (partPower ||| partPorts ||| partChannels ||| partPoints |||
    partPq ||| partEvents ||| partStore) s t)
  ∧ (∀ s upset t, exec (.urgentRequest upset) s = .next t → Same (partOtp ||| partPorts ||| partQueues ||| partChannels |||
    partIslands ||| partQ28 ||| partPoints ||| partEvents ||| partTamper) s t)
  ∧ (∀ s mp t, (exec (.cycleCommit mp) s = .next t ∨ exec (.cycleCommitDeadline mp) s = .next t) → Same (partOtp ||| partMode |||
    partEngine ||| partQ8 ||| partQ28 ||| partPoints ||| partTariff ||| partEvents ||| partTamper) s t)
  ∧ (∀ s vhold t, exec (.startAbandoned vhold) s = .next t → Same (partPower ||| partMode ||| partCp ||| partTap ||| partQ8 |||
    partPulses ||| partPq ||| partEvents ||| partStore) s t)
  ∧ (∀ s t, exec .ucodeSwitch s = .next t → Same (partOtp ||| partPorts ||| partEngine ||| partPq ||| partEvents ||| partStore |||
    partSecurity ||| partImages ||| partFree) s t)
  ∧ (∀ s isl b count upset t, exec (.secondIntegrationEnd isl b count upset) s = .next t → Same (partOtp ||| partPorts |||
    partQueues ||| partChannels ||| partIslands ||| partEngine ||| partPoints ||| partPq ||| partEvents ||| partTamper) s t)
  ∧ (∀ s t, exec .remapEffect s = .next t → Same (partPorts ||| partParams ||| partChannels ||| partEngine ||| partPoints ||| partPq
    ||| partEvents ||| partStore ||| partSecurity ||| partFree) s t)
  ∧ (∀ s count t, exec (.referenceWindow count) s = .next t → Same (partOtp ||| partClock ||| partMode ||| partChannels |||
    partIslands ||| partPoints ||| partPq ||| partEvents ||| partTamper ||| partSlot) s t)
  ∧ (∀ s vddio t, exec (.resetN vddio) s = .next t → Same (partPower ||| partClock ||| partMode ||| partCp ||| partPorts |||
    partIslands ||| partEngine ||| partTariff ||| partRelays ||| partStore ||| partSecurity ||| partImages) s t)
  ∧ (∀ s vddio t, (exec (.controlCoreSwitch vddio) s = .next t ∨ exec (.controlCoreFallback vddio) s = .next t ∨
    exec (.watchdogExpiry vddio) s = .next t) → Same (partPower ||| partClock ||| partMode ||| partCp ||| partPorts |||
    partIslands ||| partEngine ||| partTariff ||| partRelays ||| partEvents ||| partStore ||| partSecurity ||| partImages |||
    partFree) s t)
  ∧ (∀ s poisoned t, exec (.securityJobDone poisoned) s = .next t → Same (partOtp ||| partPorts ||| partQueues ||| partParams |||
    partChannels ||| partEngine ||| partPoints ||| partTariff ||| partEvents ||| partTamper ||| partStore ||| partSecurity |||
    partImages ||| partFree) s t)
  ∧ (∀ s vddio t, exec (.resetCmdStart vddio) s = .next t → Same (partPower ||| partClock ||| partMode ||| partCp ||| partPorts |||
    partTap ||| partIslands ||| partEngine ||| partQ28 ||| partPoints ||| partPulses ||| partTariff ||| partRelays ||| partStore
    ||| partSecurity ||| partImages) s t)
  ∧ (∀ s vhold t, exec (.rideThroughEnd vhold) s = .next t → Same (partPower ||| partClock ||| partMode ||| partCp ||| partPorts |||
    partTap ||| partIslands ||| partEngine ||| partQ28 ||| partPoints ||| partPulses ||| partTariff ||| partRelays ||| partStore
    ||| partSecurity ||| partImages) s t)

/-- What a request that its port takes at once leaves as it was, accepted or refused: it changes at most the parts named for it (R112,
R113). -/
def Obligations.CommandFrames : Prop :=
  (∀ s r t, Takes s r → (exec (.getStatus r) s = .next t ∨ exec (.setEventMask r) s = .next t ∨ exec (.getParam r) s = .next t ∨
    exec (.getParamBlock r) s = .next t ∨ exec (.readRegisters r) s = .next t ∨ exec (.readInstant r) s = .next t ∨
    exec (.readBoundaries r) s = .next t ∨ exec (.readCredit r) s = .next t ∨ exec (.freezeLog r) s = .next t ∨
    exec (.storeStatus r) s = .next t ∨ exec (.readPq r) s = .next t ∨ exec (.readHarmonics r) s = .next t ∨
    exec (.getCerts r) s = .next t ∨ exec (.readCompletions r) s = .next t) → Same (partPorts ||| partTap ||| partEvents |||
    partSecurity) s t)
  ∧ (∀ s r t, Takes s r → (exec (.checkpointNow r) s = .next t ∨ exec (.holdupTest r) s = .next t) → Same (partPower ||| partPorts
    ||| partTap ||| partEvents ||| partSecurity) s t)
  ∧ (∀ s r t, Takes s r → exec (.adjustTime r) s = .next t → Same (partClock ||| partPorts ||| partTap ||| partEvents |||
    partSecurity) s t)
  ∧ (∀ s r t, Takes s r → exec (.ackEvents r) s = .next t → Same (partPorts ||| partTap ||| partQueues ||| partEvents |||
    partSecurity) s t)
  ∧ (∀ s r t, Takes s r → (exec (.retireIsland r) s = .next t ∨ exec (.restoreIsland r) s = .next t) → Same (partPorts ||| partTap
    ||| partIslands ||| partEvents ||| partSecurity) s t)
  ∧ (∀ s r t, Takes s r → exec (.commitParams r) s = .next t → Same (partPorts ||| partTap ||| partEngine ||| partEvents |||
    partSecurity) s t)
  ∧ (∀ s r t, Takes s r → exec (.demandReset r) s = .next t → Same (partPorts ||| partTap ||| partTariff ||| partEvents |||
    partSecurity) s t)
  ∧ (∀ s r t, Takes s r → exec (.reconnectArm r) s = .next t → Same (partPorts ||| partTap ||| partRelays ||| partEvents |||
    partSecurity) s t)
  ∧ (∀ s r t, Takes s r → exec (.armCapture r) s = .next t → Same (partPorts ||| partTap ||| partPq ||| partEvents |||
    partSecurity) s t)
  ∧ (∀ s r t, Takes s r → (exec (.loadPlan r) s = .next t ∨ exec (.readSnapshot r) s = .next t ∨ exec (.readEvents r) s = .next t ∨
    exec (.unfreezeLog r) s = .next t ∨ exec (.scrubNow r) s = .next t ∨ exec (.hostArea r) s = .next t ∨
    exec (.loadKeys r) s = .next t ∨ exec (.imageEnd r) s = .next t) → Same (partPorts ||| partTap ||| partEvents ||| partStore
    ||| partSecurity) s t)
  ∧ (∀ s r t, Takes s r → (exec (.imageActivate r) s = .next t ∨ exec (.ucodeActivate r) s = .next t) → Same (partPorts ||| partTap
    ||| partEvents ||| partSecurity ||| partImages) s t)
  ∧ (∀ s r t, Takes s r → (exec (.getIdentity r) s = .next t ∨ exec (.readNotify r) s = .next t ∨ exec (.attest r) s = .next t ∨
    exec (.pollHandle r) s = .next t) → Same (partPorts ||| partTap ||| partEvents ||| partSecurity ||| partFree) s t)
  ∧ (∀ s r t, Takes s r → exec (.spotCheck r) s = .next t → Same (partMode ||| partPorts ||| partTap ||| partQ28 ||| partEvents |||
    partSecurity) s t)
  ∧ (∀ s r t, Takes s r → exec (.setTime r) s = .next t → Same (partClock ||| partPorts ||| partTap ||| partEvents ||| partStore |||
    partSecurity) s t)
  ∧ (∀ s r t, Takes s r → (exec (.calWrite r) s = .next t ∨ exec (.calMeasure r) s = .next t) → Same (partMode ||| partPorts |||
    partTap ||| partEvents ||| partStore ||| partSecurity) s t)
  ∧ (∀ s r t, Takes s r → exec (.resetCmd r) s = .next t → Same (partCp ||| partPorts ||| partTap ||| partEvents ||| partStore |||
    partSecurity) s t)
  ∧ (∀ s r t, Takes s r → (exec (.setParam r) s = .next t ∨ exec (.setParamBlock r) s = .next t ∨ exec (.laneTest r) s = .next t)
    → Same (partPorts ||| partTap ||| partEngine ||| partEvents ||| partStore ||| partSecurity) s t)
  ∧ (∀ s r t, Takes s r → exec (.readProfile r) s = .next t → Same (partPorts ||| partTap ||| partPoints ||| partEvents |||
    partStore ||| partSecurity) s t)
  ∧ (∀ s r t, Takes s r → exec (.billingClose r) s = .next t → Same (partPorts ||| partTap ||| partTariff ||| partEvents |||
    partStore ||| partSecurity) s t)
  ∧ (∀ s r t, Takes s r → (exec (.relayCommand r) s = .next t ∨ exec (.setCreditPolicy r) s = .next t) → Same (partPorts ||| partTap
    ||| partRelays ||| partEvents ||| partStore ||| partSecurity) s t)
  ∧ (∀ s r t, Takes s r → exec (.imageData r) s = .next t → Same (partPorts ||| partTap ||| partEvents ||| partStore |||
    partSecurity ||| partImages) s t)
  ∧ (∀ s r t, Takes s r → exec (.readCapture r) s = .next t → Same (partPorts ||| partTap ||| partPq ||| partEvents ||| partSecurity
    ||| partFree) s t)
  ∧ (∀ s r t, Takes s r → exec (.signReading r) s = .next t → Same (partPorts ||| partTap ||| partEvents ||| partStore |||
    partSecurity ||| partFree) s t)
  ∧ (∀ s r t, Takes s r → exec (.debugAuth r) s = .next t → Same (partMode ||| partCp ||| partPorts ||| partTap ||| partEvents |||
    partStore ||| partSecurity) s t)
  ∧ (∀ s r t, Takes s r → exec (.submitToken r) s = .next t → Same (partPorts ||| partTap ||| partPoints ||| partRelays |||
    partEvents ||| partStore ||| partSecurity) s t)
  ∧ (∀ s r t, Takes s r → exec (.remapChannel r) s = .next t → Same (partPorts ||| partTap ||| partEngine ||| partEvents |||
    partStore ||| partSecurity ||| partFree) s t)
  ∧ (∀ s r t, Takes s r → exec (.unbindMp r) s = .next t → Same (partPorts ||| partTap ||| partPoints ||| partEvents ||| partStore
    ||| partSecurity ||| partFree) s t)
  ∧ (∀ s r t, Takes s r → exec (.pulseAssign r) s = .next t → Same (partPorts ||| partTap ||| partPulses ||| partEvents |||
    partStore ||| partSecurity ||| partFree) s t)
  ∧ (∀ s r t, Takes s r → exec (.setBalanceGroup r) s = .next t → Same (partPorts ||| partTap ||| partGroups ||| partEvents |||
    partStore ||| partSecurity ||| partFree) s t)
  ∧ (∀ s r t, Takes s r → exec (.imageBegin r) s = .next t → Same (partPorts ||| partTap ||| partEvents ||| partStore |||
    partSecurity ||| partImages ||| partFree) s t)
  ∧ (∀ s r t, Takes s r → (exec (.seal r) s = .next t ∨ exec (.zeroise r) s = .next t) → Same (partOtp ||| partMode ||| partPorts
    ||| partTap ||| partEvents ||| partStore ||| partSecurity ||| partFree) s t)
  ∧ (∀ s r t, Takes s r → exec (.setMode r) s = .next t → Same (partPower ||| partMode ||| partPorts ||| partTap ||| partEvents |||
    partStore ||| partSecurity ||| partFree) s t)
  ∧ (∀ s r t, Takes s r → exec (.cancelHandle r) s = .next t → Same (partPower ||| partPorts ||| partTap ||| partIslands |||
    partEngine ||| partEvents ||| partStore ||| partSecurity ||| partImages) s t)
  ∧ (∀ s r t, Takes s r → exec (.loadFirBank r) s = .next t → Same (partPorts ||| partTap ||| partParams ||| partChannels |||
    partEngine ||| partEvents ||| partStore ||| partSecurity ||| partFree) s t)
  ∧ (∀ s r t, Takes s r → exec (.bindMp r) s = .next t → Same (partPorts ||| partTap ||| partParams ||| partChannels ||| partEngine
    ||| partPoints ||| partBindSeq ||| partPq ||| partEvents ||| partStore ||| partSecurity ||| partFree) s t)

/-- A request that its command refuses changes nothing but its reply and the counts that the refusal's order allows: of a refusal
that counts nothing, only the reply is left (R112, R113). Only a refusal of SIGN_READING can count an invalid record (R375). -/
def Obligations.RefusedRequestsChangeNothing : Prop :=
  ∀ i op r s f d, requestOf i = some (op, r) → Takes s r → commandOf op = some f → f s r = .error d →
    exec i s = .next (s.refuse r d)
    ∧ (op ≠ 0x0802 → d.torn = 0)
    ∧ (d.order67 = false → d.authCause = none → d.torn = 0 →
      exec i s = .next (s.reply r.port { tag := r.tag, status := d.status }))
end

