-- ==== Sys2Proof/Laws/Frame.lean ====
section
/-! SUPPORT. The laws of `Same`, and what each named update of State can change. The files Frame* hold one lemma for each function. -/
namespace Sys2Proof.Machine

/-! ## OTP only ever gains bits (R107, R435, R446) -/

theorem PairLe.refl (p : OtpPair) : PairLe p p := ⟨id, id⟩

theorem PairLe.trans {p q r : OtpPair} (h : PairLe p q) (k : PairLe q r) : PairLe p r :=
  ⟨fun x => k.1 (h.1 x), fun x => k.2 (h.2 x)⟩

theorem PairsLe.refl (l : List OtpPair) : PairsLe l l := fun _ => .refl _

theorem PairsLe.trans {l m n : List OtpPair} (h : PairsLe l m) (k : PairsLe m n) : PairsLe l n :=
  fun i => (h i).trans (k i)

theorem OtpLe.refl (o : Otp) : OtpLe o o :=
  ⟨.refl _, .refl _, .refl _, fun _ => .refl _, .refl _, List.prefix_rfl, List.prefix_rfl, List.prefix_rfl⟩

theorem OtpLe.trans {o p q : Otp} (h : OtpLe o p) (k : OtpLe p q) : OtpLe o q :=
  ⟨h.l1.trans k.l1, h.l2.trans k.l2, h.l3.trans k.l3, fun c => (h.evidence c).trans (k.evidence c),
   h.rollback.trans k.rollback, h.vendor.trans k.vendor, h.ops.trans k.ops, h.met.trans k.met⟩

/-! ## The relation -/

theorem Same.refl {w : Nat} (s : State) : Same w s s := by
  constructor <;> first | exact fun _ => rfl | exact .refl _ | rfl | exact id

theorem Nat.testBit_sub {v w i : Nat} (hv : v ||| w = w) (h : w.testBit i = false) : v.testBit i = false := by
  rw [← hv, Nat.testBit_or] at h
  simp only [Bool.or_eq_false_iff] at h
  exact h.1

/-- One more operation, that changes at most the parts of v, after what changes at most those of w. -/
theorem Same.step {v w : Nat} {s x t : State} (k : Same v x t) (hv : v ||| w = w) (h : Same w s x) : Same w s t where
  pending := fun q => (k.pending (Nat.testBit_sub hv q)).trans (h.pending q)
  fuses := fun q => (k.fuses (Nat.testBit_sub hv q)).trans (h.fuses q)
  otp := fun q => (k.otp (Nat.testBit_sub hv q)).trans (h.otp q)
  power := fun q => (k.power (Nat.testBit_sub hv q)).trans (h.power q)
  clock := fun q => (k.clock (Nat.testBit_sub hv q)).trans (h.clock q)
  mode := fun q => (k.mode (Nat.testBit_sub hv q)).trans (h.mode q)
  cp := fun q => (k.cp (Nat.testBit_sub hv q)).trans (h.cp q)
  ports := fun q => (k.ports (Nat.testBit_sub hv q)).trans (h.ports q)
  tap := fun q => (k.tap (Nat.testBit_sub hv q)).trans (h.tap q)
  queues := fun q => (k.queues (Nat.testBit_sub hv q)).trans (h.queues q)
  params := fun q => (k.params (Nat.testBit_sub hv q)).trans (h.params q)
  channels := fun q => (k.channels (Nat.testBit_sub hv q)).trans (h.channels q)
  islands := fun q => (k.islands (Nat.testBit_sub hv q)).trans (h.islands q)
  engine := fun q => (k.engine (Nat.testBit_sub hv q)).trans (h.engine q)
  q8 := fun q => (k.q8 (Nat.testBit_sub hv q)).trans (h.q8 q)
  q28 := fun q => (k.q28 (Nat.testBit_sub hv q)).trans (h.q28 q)
  points := fun q => (k.points (Nat.testBit_sub hv q)).trans (h.points q)
  bindSeq := fun q => (k.bindSeq (Nat.testBit_sub hv q)).trans (h.bindSeq q)
  pulses := fun q => (k.pulses (Nat.testBit_sub hv q)).trans (h.pulses q)
  groups := fun q => (k.groups (Nat.testBit_sub hv q)).trans (h.groups q)
  tariff := fun q => (k.tariff (Nat.testBit_sub hv q)).trans (h.tariff q)
  relays := fun q => (k.relays (Nat.testBit_sub hv q)).trans (h.relays q)
  pq := fun q => (k.pq (Nat.testBit_sub hv q)).trans (h.pq q)
  events := fun q => (k.events (Nat.testBit_sub hv q)).trans (h.events q)
  tamper := fun q => (k.tamper (Nat.testBit_sub hv q)).trans (h.tamper q)
  store := fun q => (k.store (Nat.testBit_sub hv q)).trans (h.store q)
  security := fun q => (k.security (Nat.testBit_sub hv q)).trans (h.security q)
  images := fun q => (k.images (Nat.testBit_sub hv q)).trans (h.images q)
  free := fun q => (k.free (Nat.testBit_sub hv q)).trans (h.free q)
  slot := fun q => (k.slot (Nat.testBit_sub hv q)).trans (h.slot q)
  otpLe := h.otpLe.trans k.otpLe
  sizes := k.sizes.trans h.sizes
  host := fun q => k.host (h.host q)
  sorted := fun q => k.sorted (h.sorted q)

theorem Same.trans {w : Nat} {s x t : State} (h : Same w s x) (k : Same w x t) : Same w s t :=
  k.step (Nat.or_self w) h

theorem Same.mono {v w : Nat} {s t : State} (k : Same v s t) (hv : v ||| w = w) : Same w s t := k.step hv (.refl s)

theorem Same.cut {w : Nat} {s x : State} {P : Prop} (k : Same w s x → P) (h : Same w s x) : P := k h

/-! ## Changes of one part -/

theorem Same.set_pending (s : State) (v) : Same (2 ^ 0) s { s with pending := v } := by
  constructor <;> first | exact fun _ => rfl | exact fun q => absurd q (by decide) | exact .refl _ | rfl | exact id

theorem Same.set_otp (s : State) (v) (h : OtpLe s.otp v) : Same (2 ^ 2) s { s with otp := v } := by
  constructor <;> first | exact h | exact fun _ => h | exact fun _ => rfl | exact fun q => absurd q (by decide) | exact .refl _ | rfl | exact id

theorem Same.set_power (s : State) (v) : Same (2 ^ 3) s { s with power := v } := by
  constructor <;> first | exact fun _ => rfl | exact fun q => absurd q (by decide) | exact .refl _ | rfl | exact id

theorem Same.set_clock (s : State) (v) (h : v.slot = s.clock.slot) : Same (2 ^ 4) s { s with clock := v } := by
  constructor <;> first | exact h | exact fun _ => h | exact fun _ => rfl | exact fun q => absurd q (by decide) | exact .refl _ | rfl | exact id

theorem Same.set_mode (s : State) (v) : Same (2 ^ 5) s { s with mode := v } := by
  constructor <;> first | exact fun _ => rfl | exact fun q => absurd q (by decide) | exact .refl _ | rfl | exact id

theorem Same.set_cp (s : State) (v) : Same (2 ^ 6) s { s with cp := v } := by
  constructor <;> first | exact fun _ => rfl | exact fun q => absurd q (by decide) | exact .refl _ | rfl | exact id

theorem Same.set_ports (s : State) (v) (h : v.length = s.ports.length) : Same (2 ^ 7) s { s with ports := v } := by
  constructor <;> first | exact fun _ => rfl | exact fun q => absurd q (by decide) | exact .refl _ | rfl | exact id | simp [State.sizes, h]

theorem Same.set_tap (s : State) (v) : Same (2 ^ 8) s { s with tap := v } := by
  constructor <;> first | exact fun _ => rfl | exact fun q => absurd q (by decide) | exact .refl _ | rfl | exact id

theorem Same.set_queues (s : State) (v) : Same (2 ^ 9) s { s with queues := v } := by
  constructor <;> first | exact fun _ => rfl | exact fun q => absurd q (by decide) | exact .refl _ | rfl | exact id

theorem Same.set_params (s : State) (v) (h : Params.sorted s.params → Params.sorted v) : Same (2 ^ 10) s { s with params := v } := by
  constructor <;> first | exact h | exact fun _ => h | exact fun _ => rfl | exact fun q => absurd q (by decide) | exact .refl _ | rfl | exact id

theorem Same.set_channels (s : State) (v) (h : v.length = s.channels.length) : Same (2 ^ 11) s { s with channels := v } := by
  constructor <;> first | exact fun _ => rfl | exact fun q => absurd q (by decide) | exact .refl _ | rfl | exact id | simp [State.sizes, h]

theorem Same.set_islands (s : State) (v) (h : v.length = s.islands.length) : Same (2 ^ 12) s { s with islands := v } := by
  constructor <;> first | exact fun _ => rfl | exact fun q => absurd q (by decide) | exact .refl _ | rfl | exact id | simp [State.sizes, h]

theorem Same.set_engine (s : State) (v) : Same (2 ^ 13) s { s with engine := v } := by
  constructor <;> first | exact fun _ => rfl | exact fun q => absurd q (by decide) | exact .refl _ | rfl | exact id

theorem Same.set_q8 (s : State) (v) : Same (2 ^ 14) s { s with q8 := v } := by
  constructor <;> first | exact fun _ => rfl | exact fun q => absurd q (by decide) | exact .refl _ | rfl | exact id

theorem Same.set_q28 (s : State) (v) : Same (2 ^ 15) s { s with q28 := v } := by
  constructor <;> first | exact fun _ => rfl | exact fun q => absurd q (by decide) | exact .refl _ | rfl | exact id

theorem Same.set_points (s : State) (v) (h : v.length = s.points.length) : Same (2 ^ 16) s { s with points := v } := by
  constructor <;> first | exact fun _ => rfl | exact fun q => absurd q (by decide) | exact .refl _ | rfl | exact id | simp [State.sizes, h]

theorem Same.set_bindSeq (s : State) (v) : Same (2 ^ 17) s { s with bindSeq := v } := by
  constructor <;> first | exact fun _ => rfl | exact fun q => absurd q (by decide) | exact .refl _ | rfl | exact id

theorem Same.set_pulses (s : State) (v) (h : v.length = s.pulses.length) : Same (2 ^ 18) s { s with pulses := v } := by
  constructor <;> first | exact fun _ => rfl | exact fun q => absurd q (by decide) | exact .refl _ | rfl | exact id | simp [State.sizes, h]

theorem Same.set_groups (s : State) (v) (h : v.length = s.groups.length) : Same (2 ^ 19) s { s with groups := v } := by
  constructor <;> first | exact fun _ => rfl | exact fun q => absurd q (by decide) | exact .refl _ | rfl | exact id | simp [State.sizes, h]

theorem Same.set_tariff (s : State) (v) : Same (2 ^ 20) s { s with tariff := v } := by
  constructor <;> first | exact fun _ => rfl | exact fun q => absurd q (by decide) | exact .refl _ | rfl | exact id

theorem Same.set_relays (s : State) (v) : Same (2 ^ 21) s { s with relays := v } := by
  constructor <;> first | exact fun _ => rfl | exact fun q => absurd q (by decide) | exact .refl _ | rfl | exact id

theorem Same.set_pq (s : State) (v) : Same (2 ^ 22) s { s with pq := v } := by
  constructor <;> first | exact fun _ => rfl | exact fun q => absurd q (by decide) | exact .refl _ | rfl | exact id

theorem Same.set_events (s : State) (v) : Same (2 ^ 23) s { s with events := v } := by
  constructor <;> first | exact fun _ => rfl | exact fun q => absurd q (by decide) | exact .refl _ | rfl | exact id

theorem Same.set_tamper (s : State) (v) : Same (2 ^ 24) s { s with tamper := v } := by
  constructor <;> first | exact fun _ => rfl | exact fun q => absurd q (by decide) | exact .refl _ | rfl | exact id

theorem Same.set_store (s : State) (v) (h : Memory.wf s.store.host = true → Memory.wf v.host = true) : Same (2 ^ 25) s { s with store := v } := by
  constructor <;> first | exact h | exact fun _ => h | exact fun _ => rfl | exact fun q => absurd q (by decide) | exact .refl _ | rfl | exact id

theorem Same.set_security (s : State) (v) : Same (2 ^ 26) s { s with security := v } := by
  constructor <;> first | exact fun _ => rfl | exact fun q => absurd q (by decide) | exact .refl _ | rfl | exact id

theorem Same.set_images (s : State) (v) : Same (2 ^ 27) s { s with images := v } := by
  constructor <;> first | exact fun _ => rfl | exact fun q => absurd q (by decide) | exact .refl _ | rfl | exact id

theorem Same.set_free (s : State) (v) : Same (2 ^ 28) s { s with free := v } := by
  constructor <;> first | exact fun _ => rfl | exact fun q => absurd q (by decide) | exact .refl _ | rfl | exact id

theorem Same.set_time (s : State) (v : Clock) : Same (2 ^ 4 + 2 ^ 29) s { s with clock := v } := by
  constructor <;> first | exact fun _ => rfl | exact fun q => absurd q (by decide) | exact .refl _ | rfl | exact id

@[simp] theorem upd_length {α : Type} (l : List α) (i : Nat) (f : α → α) : (upd l i f).length = l.length := by
  simp [upd]

/-! ## Loops -/

theorem Same.foldl {α : Type} {w : Nat} {s x : State} {f : State → α → State} {l : List α}
    (hf : ∀ y a, Same w y (f y a)) (h : Same w s x) : Same w s (l.foldl f x) := by
  induction l generalizing x with
  | nil => exact h
  | cons a r ih => exact ih (h.trans (hf x a))

theorem Same.foldl_fst {α β : Type} {w : Nat} {s : State} {x : State × β} {f : State × β → α → State × β} {l : List α}
    (hf : ∀ y a, Same w y.1 (f y a).1) (h : Same w s x.1) : Same w s (l.foldl f x).1 := by
  induction l generalizing x with
  | nil => exact h
  | cons a r ih => exact ih (h.trans (hf x a))

/-! ## Requests and meanings -/

/-- What a request's command can change when it is accepted. -/
def SameE (w : Nat) (s : State) (x : Except Deny State) : Prop := ∀ t, x = .ok t → Same w s t

theorem SameE.ok {w : Nat} {s t : State} (h : Same w s t) : SameE w s (.ok t) := by
  intro u q
  cases q
  exact h

theorem SameE.error {w : Nat} {s : State} {d : Deny} : SameE w s (.error d) := fun _ q => nomatch q

theorem SameE.mono {v w : Nat} {s : State} {x : Except Deny State} (k : SameE v s x) (hv : v ||| w = w) : SameE w s x :=
  fun t q => (k t q).mono hv

theorem SameE.step {v w : Nat} {s y : State} {x : Except Deny State} (k : SameE v y x) (hv : v ||| w = w)
    (h : Same w s y) : SameE w s x := fun t q => (k t q).step hv h

/-- A check, or anything else that answers no state, before the rest. -/
theorem SameE.bind {α : Type} {w : Nat} {s : State} {x : Except Deny α} {f : α → Except Deny State}
    (h : ∀ a, SameE w s (f a)) : SameE w s (x >>= f) := by
  intro t q
  cases x with
  | error d => cases q
  | ok a => exact h a t q

/-- A check that answers a state, before the rest. -/
theorem SameE.bindS {w : Nat} {s : State} {x : Except Deny State} {f : State → Except Deny State}
    (k : SameE w s x) (h : ∀ a, Same w s a → SameE w s (f a)) : SameE w s (x >>= f) := by
  intro t q
  cases x with
  | error d => cases q
  | ok a => exact h a (k a rfl) t q

/-- A check that answers a state and a value, before the rest. -/
theorem SameE.bindP {α : Type} {w : Nat} {s : State} {x : Except Deny (State × α)} {f : State × α → Except Deny State}
    (k : ∀ t, x = .ok t → Same w s t.1) (h : ∀ a, Same w s a.1 → SameE w s (f a)) : SameE w s (x >>= f) := by
  intro t q
  cases x with
  | error d => cases q
  | ok a => exact h a (k a rfl) t q

/-- What an operation that may deny can change when it answers a state beside a value. -/
def SameEP {α : Type} (w : Nat) (s : State) (x : Except Deny (State × α)) : Prop := ∀ t, x = .ok t → Same w s t.1

theorem SameEP.ok {α : Type} {w : Nat} {s : State} {t : State × α} (h : Same w s t.1) : SameEP w s (.ok t) := by
  intro u q
  cases q
  exact h

theorem SameEP.error {α : Type} {w : Nat} {s : State} {d : Deny} : SameEP (α := α) w s (.error d) := fun _ q => nomatch q

theorem SameEP.mono {α : Type} {v w : Nat} {s : State} {x : Except Deny (State × α)} (k : SameEP v s x)
    (hv : v ||| w = w) : SameEP w s x := fun t q => (k t q).mono hv

theorem SameEP.ite {α : Type} {w : Nat} {s : State} {a b : Except Deny (State × α)} {c : Prop} [Decidable c]
    (h : SameEP w s a) (k : SameEP w s b) : SameEP w s (if c then a else b) := by split <;> assumption

theorem SameEP.bind {α β : Type} {w : Nat} {s : State} {x : Except Deny α} {f : α → Except Deny (State × β)}
    (h : ∀ a, SameEP w s (f a)) : SameEP w s (x >>= f) := by
  intro t q
  cases x with
  | error d => cases q
  | ok a => exact h a t q

theorem SameEP.bindS {β : Type} {w : Nat} {s : State} {x : Except Deny State} {f : State → Except Deny (State × β)}
    (k : SameE w s x) (h : ∀ a, Same w s a → SameEP w s (f a)) : SameEP w s (x >>= f) := by
  intro t q
  cases x with
  | error d => cases q
  | ok a => exact h a (k a rfl) t q

theorem SameE.bindEP {α : Type} {v w : Nat} {s : State} {x : Except Deny (State × α)} {f : State × α → Except Deny State}
    (k : SameEP v s x) (hv : v ||| w = w) (h : ∀ a, Same w s a.1 → SameE w s (f a)) : SameE w s (x >>= f) := by
  intro t q
  cases x with
  | error d => cases q
  | ok a => exact h a ((k a rfl).mono hv) t q

theorem SameEP.bindEP {α β : Type} {v w : Nat} {s : State} {x : Except Deny (State × α)}
    {f : State × α → Except Deny (State × β)} (k : SameEP v s x) (hv : v ||| w = w)
    (h : ∀ a, Same w s a.1 → SameEP w s (f a)) : SameEP w s (x >>= f) := by
  intro t q
  cases x with
  | error d => cases q
  | ok a => exact h a ((k a rfl).mono hv) t q

theorem Same.ite {w : Nat} {s a b : State} {c : Prop} [Decidable c] (h : Same w s a) (k : Same w s b) :
    Same w s (if c then a else b) := by split <;> assumption

theorem SameE.ite {w : Nat} {s : State} {a b : Except Deny State} {c : Prop} [Decidable c] (h : SameE w s a)
    (k : SameE w s b) : SameE w s (if c then a else b) := by split <;> assumption

theorem SameE.map {v w : Nat} {s : State} {x : Except Deny State} {g : State → State} (h : SameE w s x)
    (k : ∀ y, Same v y (g y)) (hv : v ||| w = w) : SameE w s (x.map g) := by
  intro t q
  cases x with
  | error d => cases q
  | ok a => cases q; exact (k a).step hv (h a rfl)

/-- What a meaning can change. -/
def SameO (w : Nat) (s : State) (x : Host.Outcome State Fault Refusal) : Prop := ∀ t, x = .next t → Same w s t

theorem SameO.next {w : Nat} {s t : State} (h : Same w s t) : SameO w s (.next t) := by
  intro u q
  cases q
  exact h

/-! ## The named operations -/

theorem State.onPower_same (s : State) (f) : Same (2 ^ 3) s (s.onPower f) := Same.set_power s _

theorem State.onMode_same (s : State) (f) : Same (2 ^ 5) s (s.onMode f) := Same.set_mode s _

theorem State.onCp_same (s : State) (f) : Same (2 ^ 6) s (s.onCp f) := Same.set_cp s _

theorem State.onTap_same (s : State) (f) : Same (2 ^ 8) s (s.onTap f) := Same.set_tap s _

theorem State.onEngine_same (s : State) (f) : Same (2 ^ 13) s (s.onEngine f) := Same.set_engine s _

theorem State.onTariff_same (s : State) (f) : Same (2 ^ 20) s (s.onTariff f) := Same.set_tariff s _

theorem State.onRelays_same (s : State) (f) : Same (2 ^ 21) s (s.onRelays f) := Same.set_relays s _

theorem State.onPq_same (s : State) (f) : Same (2 ^ 22) s (s.onPq f) := Same.set_pq s _

theorem State.onEvents_same (s : State) (f) : Same (2 ^ 23) s (s.onEvents f) := Same.set_events s _

theorem State.onTamper_same (s : State) (f) : Same (2 ^ 24) s (s.onTamper f) := Same.set_tamper s _

theorem State.onSec_same (s : State) (f) : Same (2 ^ 26) s (s.onSec f) := Same.set_security s _

theorem State.onImages_same (s : State) (f) : Same (2 ^ 27) s (s.onImages f) := Same.set_images s _

theorem State.onPort_same (s : State) (n : Nat) (f) : Same (2 ^ 7) s (s.onPort n f) :=
  Same.set_ports s _ (upd_length ..)

theorem State.onChan_same (s : State) (n : Nat) (f) : Same (2 ^ 11) s (s.onChan n f) :=
  Same.set_channels s _ (upd_length ..)

theorem State.onIsland_same (s : State) (n : Nat) (f) : Same (2 ^ 12) s (s.onIsland n f) :=
  Same.set_islands s _ (upd_length ..)

theorem State.onPoint_same (s : State) (n : Nat) (f) : Same (2 ^ 16) s (s.onPoint n f) :=
  Same.set_points s _ (upd_length ..)

theorem State.onPulse_same (s : State) (n : Nat) (f) : Same (2 ^ 18) s (s.onPulse n f) :=
  Same.set_pulses s _ (upd_length ..)

theorem State.onGroup_same (s : State) (n : Nat) (f) : Same (2 ^ 19) s (s.onGroup n f) :=
  Same.set_groups s _ (upd_length ..)

theorem State.eachPort_same (s : State) (f) : Same (2 ^ 7) s (s.eachPort f) :=
  Same.set_ports s _ (List.length_map ..)

theorem State.eachChan_same (s : State) (f) : Same (2 ^ 11) s (s.eachChan f) :=
  Same.set_channels s _ (List.length_map ..)

theorem State.eachIsland_same (s : State) (f) : Same (2 ^ 12) s (s.eachIsland f) :=
  Same.set_islands s _ (List.length_map ..)

theorem State.eachPoint_same (s : State) (f) : Same (2 ^ 16) s (s.eachPoint f) :=
  Same.set_points s _ (List.length_map ..)

theorem State.eachPulse_same (s : State) (f) : Same (2 ^ 18) s (s.eachPulse f) :=
  Same.set_pulses s _ (List.length_map ..)

theorem State.eachGroup_same (s : State) (f) : Same (2 ^ 19) s (s.eachGroup f) :=
  Same.set_groups s _ (List.length_map ..)

theorem State.eachChanAt_same (s : State) (f) : Same (2 ^ 11) s (s.eachChanAt f) :=
  Same.set_channels s _ (by rw [List.length_map, List.length_range])

theorem State.eachQueue_same (s : State) (f) : Same (2 ^ 9) s (s.eachQueue f) := Same.set_queues s _

theorem State.onQ8_same (s : State) (f) : Same (2 ^ 14) s (s.onQ8 f) := Same.set_q8 s _

theorem State.onQ28_same (s : State) (f) : Same (2 ^ 15) s (s.onQ28 f) := Same.set_q28 s _

theorem State.setBindSeq_same (s : State) (n : Nat) : Same (2 ^ 17) s (s.setBindSeq n) := Same.set_bindSeq s _

theorem State.draw_same (s : State) : Same (2 ^ 28) s s.draw.2 := Same.set_free s _

theorem State.drawBytes_same (s : State) (n : Nat) : Same (2 ^ 28) s (s.drawBytes n).2 := Same.set_free s _

theorem State.onQueue_same (s : State) (n : Nat) (f) : Same (2 ^ 9) s (s.onQueue n f) := Same.set_queues s _

theorem State.onLedger_same (s : State) (n : Nat) (f) : Same (2 ^ 16) s (s.onLedger n f) := State.onPoint_same s n _

theorem State.onLane_same (s : State) (n : Nat) (f) : Same (2 ^ 13) s (s.onLane n f) := State.onEngine_same s _

theorem State.onClock_same (s : State) (f) (h : ∀ c, (f c).slot = c.slot) : Same (2 ^ 4) s (s.onClock f) :=
  Same.set_clock s _ (h _)

theorem State.onClock_time (s : State) (f) : Same (2 ^ 4 + 2 ^ 29) s (s.onClock f) := Same.set_time s _

theorem State.onStore_same (s : State) (f) (h : ∀ t, (f t).host = t.host) : Same (2 ^ 25) s (s.onStore f) :=
  Same.set_store s _ (by rw [h]; exact id)

theorem State.onOtp_same (s : State) (f) (h : ∀ o, OtpLe o (f o)) : Same (2 ^ 2) s (s.onOtp f) := Same.set_otp s _ (h _)

end Sys2Proof.Machine
end

