-- ==== Sys2Proof/Laws/FrameOps.lean ====
section
/-! SUPPORT. What each function of Ops can change: the mask of the parts, and never what `Same` forbids. -/
namespace Sys2Proof.Machine

theorem State.send_same (s : State) (g : EvGroup) :
    Same 0x800000 s (State.send s g) := by
  unfold State.send
  try dsimp only
  repeat' with_reducible first
    | exact Same.refl _
    | (apply Same.step (State.onEvents_same ..); decide)

theorem State.raise_same (s : State) (code kind idx : Nat) (fields : List Byte) (flags : Nat) :
    Same 0x800000 s (State.raise s code kind idx fields flags) := by
  unfold State.raise
  try dsimp only
  repeat' with_reducible first
    | exact Same.refl _
    | (apply Same.step (State.send_same ..); decide)

theorem State.note_same (s : State) (t code : Nat) (kind idx : Nat) (fields : List Byte) :
    Same 0x800000 s (State.note s t code kind idx fields) := by
  unfold State.note
  try dsimp only
  repeat' with_reducible first
    | exact Same.refl _
    | (apply Same.step (State.send_same ..); decide)

theorem State.raisePort_same (s : State) (p code : Nat) (fields : List Byte) :
    Same 0x800000 s (State.raisePort s p code fields) := by
  unfold State.raisePort
  try dsimp only
  repeat' with_reducible first
    | exact Same.refl _
    | (apply Same.step (State.send_same ..); decide)

theorem State.onEntry_same (s : State) (o : OpRef) (f : HandleEntry → HandleEntry) :
    Same 0x80 s (State.onEntry s o f) := by
  unfold State.onEntry
  try dsimp only
  repeat' with_reducible first
    | exact Same.refl _
    | (apply Same.step (State.onPort_same ..); decide)

theorem State.postDone_same (s : State) (o : OpRef) (status : Status) (detail result : Nat) :
    Same 0x80 s (State.postDone s o status detail result) := by
  unfold State.postDone
  try dsimp only
  repeat' with_reducible first
    | exact Same.refl _
    | (apply Same.step (State.onEntry_same ..); decide)
    | (apply Same.step (State.onPort_same ..); decide)
    | refine Same.ite ?_ ?_
    | split

theorem State.finish_same (s : State) (o : OpRef) (status : Status) (detail result : Nat) :
    Same 0x80 s (State.finish s o status detail result) := by
  unfold State.finish
  try dsimp only
  repeat' with_reducible first
    | exact Same.refl _
    | (apply Same.step (State.postDone_same ..); decide)
    | refine Same.ite ?_ ?_
    | split

theorem State.commitOp_same (s : State) (o : OpRef) :
    Same 0x80 s (State.commitOp s o) := by
  unfold State.commitOp
  try dsimp only
  repeat' with_reducible first
    | exact Same.refl _
    | (apply Same.step (State.onEntry_same ..); decide)

theorem State.reply_same (s : State) (p : Nat) (r : Reply) :
    Same 0x180 s (State.reply s p r) := by
  unfold State.reply
  try dsimp only
  repeat' with_reducible first
    | exact Same.refl _
    | (apply Same.step (State.onTap_same ..); decide)
    | (apply Same.step (State.onPort_same ..); decide)
    | refine Same.ite ?_ ?_

theorem State.replyOk_same (s : State) (r : Request) (payload : List Byte) (wait : Wait) :
    Same 0x180 s (State.replyOk s r payload wait) := by
  unfold State.replyOk
  try dsimp only
  repeat' with_reducible first
    | exact Same.refl _
    | (apply Same.step (State.reply_same ..); decide)

theorem State.authFail_same (s : State) (cause port : Nat) :
    Same 0x4800000 s (State.authFail s cause port) := by
  unfold State.authFail
  try dsimp only
  repeat' with_reducible first
    | exact Same.refl _
    | (apply Same.step (State.onSec_same ..); decide)
    | (apply Same.step (State.raise_same ..); decide)
    | (apply Same.step (State.onEvents_same ..); decide)
    | refine Same.ite ?_ ?_

theorem State.accept_same {s t : State} {r : Request} {opcode : Nat} {c : Bool} {o : OpRef}
    (h : s.accept r opcode c = some (t, o)) : Same 0x180 s t := by
  unfold State.accept at h
  dsimp only at h
  split at h
  · cases h
  · cases h
    exact (State.reply_same ..).step (by decide) ((State.onPort_same ..).mono (by decide))

theorem State.refuse_same (s : State) (r : Request) (d : Deny) :
    Same 0x6800180 s (State.refuse s r d) := by
  unfold State.refuse
  extract_lets -merge x1 x2 x3
  refine Same.cut (w := 0x6800180) (s := s) (x := x1) (fun _ => ?_) ?_
  clear_value x1
  refine Same.cut (w := 0x6800180) (s := s) (x := x2) (fun _ => ?_) ?_
  clear_value x2
  refine Same.cut (w := 0x6800180) (s := s) (x := x3) (fun _ => ?_) ?_
  clear_value x3
  all_goals
    repeat' with_reducible first
      | exact Same.refl _
      | assumption
      | unfold x1
      | unfold x2
      | unfold x3
      | (apply Same.step (State.onPort_same ..); decide)
      | (apply Same.step (State.authFail_same ..); decide)
      | (apply Same.step (State.onStore_same ..) <;> first | decide | exact fun _ => rfl | (intro _; split <;> rfl) | show Same _ _ _)
      | (apply Same.step (State.reply_same ..); decide)
      | refine Same.ite ?_ ?_
      | split

theorem State.answer_same {w : Nat} {s : State} {r : Request} {x : Except Deny State} (hw : 0x6800180 ||| w = w)
    (h : SameE w s x) : Same w s (s.answer r x) := by
  unfold State.answer
  split
  · exact h _ rfl
  · exact (State.refuse_same ..).mono hw

theorem State.releaseAsIs_same (s : State) (p : Nat) :
    Same 0x80 s (State.releaseAsIs s p) := by
  unfold State.releaseAsIs
  try dsimp only
  repeat' with_reducible first
    | exact Same.refl _
    | (apply Same.step (State.onPort_same ..); decide)

theorem State.release_same (s : State) (p : Nat) (status : Status) (payload : List Byte) :
    Same 0x80 s (State.release s p status payload) := by
  unfold State.release
  try dsimp only
  repeat' with_reducible first
    | exact Same.refl _
    | (apply Same.step (State.onPort_same ..); decide)

end Sys2Proof.Machine
end

