-- ==== Sys2Proof/Laws/FrameParams.lean ====
section
/-! SUPPORT. What each function of Params can change: the mask of the parts, and never what `Same` forbids. -/
namespace Sys2Proof.Machine

theorem insertPid_mem {pid : Nat} {v : BitVec 32} {l : List (Nat × BitVec 32)} {e : Nat × BitVec 32}
    (h : e ∈ insertPid pid v l) : e.1 = pid ∨ e ∈ l := by
  induction l with
  | nil => simp_all [insertPid]
  | cons a r ih =>
    unfold insertPid at h
    split at h
    · simp at h; rcases h with rfl | h <;> simp_all
    · split at h
      · simp at h; rcases h with rfl | h <;> simp_all
      · simp at h; rcases h with rfl | h
        · simp
        · rcases ih h with h | h <;> simp_all

theorem insertPid_sorted {pid : Nat} {v : BitVec 32} {l : List (Nat × BitVec 32)} (h : Params.sorted l) :
    Params.sorted (insertPid pid v l) := by
  unfold Params.sorted at *
  induction l with
  | nil => simp [insertPid]
  | cons a r ih =>
    have ⟨ha, hr⟩ := List.pairwise_cons.1 h
    unfold insertPid
    split
    · next q => exact List.pairwise_cons.2 ⟨by simp; exact ⟨q, fun x y hx => Nat.lt_trans q (ha _ hx)⟩, h⟩
    · split
      · next q => exact List.pairwise_cons.2 ⟨fun x hx => by simpa [← q] using ha x hx, hr⟩
      · next q1 q2 =>
        refine List.pairwise_cons.2 ⟨fun x hx => ?_, ih hr⟩
        rcases insertPid_mem hx with rfl | hx
        · omega
        · exact ha x hx

theorem State.setPar_same (s : State) (pid : Nat) (v : BitVec 32) :
    Same 0x400 s (State.setPar s pid v) := by
  unfold State.setPar
  refine Same.set_params s _ fun h => ?_
  split
  · exact h.filter _
  · exact insertPid_sorted h

end Sys2Proof.Machine
end

