-- ==== Sys2Proof/Laws/FrameAuth.lean ====
section
/-! SUPPORT. What each function of Auth can change: the mask of the parts, and never what `Same` forbids. -/
namespace Sys2Proof.Machine

theorem State.takeSeq_same (s : State) (anchor q : Nat) :
    Same 0x4000000 s (State.takeSeq s anchor q) := by
  unfold State.takeSeq
  try dsimp only
  repeat' with_reducible first
    | exact Same.refl _
    | (apply Same.step (State.onSec_same ..); decide)

theorem State.pkgFail_same (s : State) (e : PkgFail) (port : Nat) :
    Same 0x4800000 s (State.pkgFail s e port) := by
  unfold State.pkgFail
  try dsimp only
  repeat' with_reducible first
    | exact Same.refl _
    | (apply Same.step (State.authFail_same ..); decide)
    | refine Same.ite ?_ ?_

theorem State.holdAuth_same (s : State) (o : OpRef) (auth : List Byte) :
    Same 0x80 s (State.holdAuth s o auth) := by
  unfold State.holdAuth
  try dsimp only
  repeat' with_reducible first
    | exact Same.refl _
    | (apply Same.step (State.onEntry_same ..); decide)

theorem checkAuth_same (s : State) (time : Int) (anchor op : Nat) (body auth : List Byte) (form0 : Bool) :
    SameE 0x4000000 s (checkAuth s time anchor op body auth form0) := by
  unfold checkAuth
  try dsimp only
  repeat' with_reducible first
    | exact Same.refl _
    | refine SameE.ok ?_
    | (apply Same.step (State.takeSeq_same ..); decide)
    | refine SameE.bind (fun _ => ?_)
    | refine SameE.ite ?_ ?_

theorem order5_same (s : State) (time : Int) (r : Request) (op : Nat) (anchor : Option Nat) (bodyLen : Nat) (auth : List Byte) (form0 cal : Bool) :
    SameE 0x4000000 s (order5 s time r op anchor bodyLen auth form0 cal) := by
  unfold order5
  try dsimp only
  repeat' with_reducible first
    | exact Same.refl _
    | refine SameE.ok ?_
    | (apply SameE.step (checkAuth_same ..); decide)
    | refine SameE.bind (fun _ => ?_)
    | split

end Sys2Proof.Machine
end

