-- ==== Sys2Proof/Laws/FrameTimeBase.lean ====
section
/-! SUPPORT. What each function of TimeBase can change: the mask of the parts, and never what `Same` forbids. -/
namespace Sys2Proof.Machine

theorem State.placeAnchor_same (s : State) (a : Anchor) :
    Same 0x10 s (State.placeAnchor s a) := by
  unfold State.placeAnchor
  try dsimp only
  repeat' with_reducible first
    | exact Same.refl _
    | (apply Same.step (State.onClock_same ..) <;> first | decide | exact fun _ => rfl | (intro _; split <;> rfl) | show Same _ _ _)

end Sys2Proof.Machine
end

