-- ==== Sys2Proof/Laws/FrameAdmission.lean ====
section
/-! SUPPORT. What each function of Admission can change: the mask of the parts, and never what `Same` forbids. -/
namespace Sys2Proof.Machine

theorem State.putChan_same (s : State) (c p : Nat) (v : BitVec 32) :
    Same 0x800 s (State.putChan s c p v) := by
  unfold State.putChan
  try dsimp only
  repeat' with_reducible first
    | exact Same.refl _
    | (apply Same.step (State.onChan_same ..); decide)

theorem State.putItem_same (s : State) (a : EffItem) :
    Same 0x2C00 s (State.putItem s a) := by
  unfold State.putItem
  try dsimp only
  repeat' with_reducible first
    | exact Same.refl _
    | (apply Same.step (State.putChan_same ..); decide)
    | (apply Same.step (State.setPar_same ..); decide)
    | (apply Same.step (State.onChan_same ..); decide)
    | (apply Same.step (State.onEngine_same ..); decide)
    | refine Same.ite ?_ ?_
    | split

theorem State.configured_same (s : State) :
    Same 0x2C00 s (State.configured s) := by
  unfold State.configured
  try dsimp only
  repeat' with_reducible first
    | exact Same.refl _
    | (apply Same.step (State.putItem_same ..); decide)
    | refine Same.foldl (fun _ _ => ?_) ?_

theorem State.withItems_same (s : State) (items : List EffItem) :
    Same 0x2C00 s (State.withItems s items) := by
  unfold State.withItems
  try dsimp only
  repeat' with_reducible first
    | exact Same.refl _
    | (apply Same.step (State.putItem_same ..); decide)
    | (apply Same.step (State.configured_same ..); decide)
    | refine Same.foldl (fun _ _ => ?_) ?_

end Sys2Proof.Machine
end

