-- ==== Sys2Proof/Laws/FrameQueues.lean ====
section
/-! SUPPORT. What each function of Queues can change: the mask of the parts, and never what `Same` forbids. -/
namespace Sys2Proof.Machine

theorem State.poisonedN_same (s : State) (q n : Nat) :
    Same 0x800280 s (State.poisonedN s q n) := by
  unfold State.poisonedN
  try dsimp only
  repeat' with_reducible first
    | exact Same.refl _
    | (apply Same.step (State.onQueue_same ..); decide)
    | (apply Same.step (State.raise_same ..); decide)
    | (apply Same.step (State.eachPort_same ..); decide)
    | refine Same.ite ?_ ?_

theorem State.poisoned_same (s : State) (q : Nat) :
    Same 0x800280 s (State.poisoned s q) := by
  unfold State.poisoned
  try dsimp only
  repeat' with_reducible first
    | exact Same.refl _
    | (apply Same.step (State.poisonedN_same ..); decide)

theorem State.gapped_same (s : State) (q : Nat) :
    Same 0x800280 s (State.gapped s q) := by
  unfold State.gapped
  try dsimp only
  repeat' with_reducible first
    | exact Same.refl _
    | (apply Same.step (State.poisoned_same ..); decide)
    | (apply Same.step (State.onQueue_same ..); decide)

theorem State.discard_same (s : State) (q n : Nat) :
    Same 0x200 s (State.discard s q n) := by
  unfold State.discard
  try dsimp only
  repeat' with_reducible first
    | exact Same.refl _
    | (apply Same.step (State.onQueue_same ..); decide)

theorem State.loseCredit_same (s : State) (q : Nat) :
    Same 0x200 s (State.loseCredit s q) := by
  unfold State.loseCredit
  try dsimp only
  repeat' with_reducible first
    | exact Same.refl _
    | (apply Same.step (State.onQueue_same ..); decide)

theorem State.sendNotices_same (s : State) :
    Same 0x40 s (State.sendNotices s) := by
  unfold State.sendNotices
  try dsimp only
  repeat' with_reducible first
    | exact Same.refl _
    | (apply Same.step (State.onCp_same ..); decide)
    | refine Same.ite ?_ ?_

theorem execNotice_same (code : Nat) (s : State) :
    SameO 0x40 s (execNotice s code) := by
  unfold execNotice
  try dsimp only
  repeat' with_reducible first
    | exact Same.refl _
    | refine SameO.next ?_
    | (apply Same.step (State.sendNotices_same ..); decide)
    | (apply Same.step (State.onCp_same ..); decide)
    | refine Same.ite ?_ ?_

theorem execCreditResync_same (q : Nat) (s : State) :
    SameO 0x8002C0 s (execCreditResync q s) := by
  unfold execCreditResync
  try dsimp only
  repeat' with_reducible first
    | exact Same.refl _
    | refine SameO.next ?_
    | (apply Same.step (State.sendNotices_same ..); decide)
    | (apply Same.step (State.poisoned_same ..); decide)
    | (apply Same.step (State.onQueue_same ..); decide)
    | refine Same.ite ?_ ?_

end Sys2Proof.Machine
end

