-- ==== Sys2Proof/Laws/FrameStoreOps.lean ====
section
/-! SUPPORT. What each function of StoreOps can change: the mask of the parts, and never what `Same` forbids. -/
namespace Sys2Proof.Machine

theorem putCell_head {a : Nat} {b : Byte} {l : List Host.Cell} {c : Host.Cell} (h : c ∈ putCell a b l) :
    c = (a, b) ∧ b ≠ 0 ∨ c ∈ l := by
  induction l with
  | nil => unfold putCell at h; split at h <;> simp_all
  | cons x r ih =>
    unfold putCell at h
    split at h
    · split at h <;> simp_all
    · split at h
      · split at h
        · exact .inr (List.mem_cons_of_mem _ h)
        · simp only [List.mem_cons] at h
          rcases h with h | h
          · exact .inl ⟨h, by assumption⟩
          · exact .inr (List.mem_cons_of_mem _ h)
      · simp only [List.mem_cons] at h
        rcases h with h | h
        · exact .inr (h ▸ List.mem_cons_self)
        · exact (ih h).imp id (List.mem_cons_of_mem _)

/-- The canonical form, said of every pair of cells. -/
theorem Memory.wf_iff {l : List Host.Cell} :
    Memory.wf l = true ↔ (∀ c ∈ l, c.2 ≠ 0) ∧ l.Pairwise fun x y => x.1 < y.1 := by
  induction l with
  | nil => simp [Memory.wf]
  | cons c r ih =>
    cases r with
    | nil => simp [Memory.wf]
    | cons d r =>
      simp only [Memory.wf, Bool.and_eq_true, bne_iff_ne, ne_eq, decide_eq_true_eq, ih]
      constructor
      · rintro ⟨⟨h0, h1⟩, h2, h3⟩
        have ⟨h4, h5⟩ := List.pairwise_cons.1 h3
        refine ⟨by intro x hx; simp only [List.mem_cons] at hx; rcases hx with rfl | rfl | hx
                   · exact h0
                   · exact h2 _ List.mem_cons_self
                   · exact h2 _ (List.mem_cons_of_mem _ hx), List.pairwise_cons.2 ⟨?_, h3⟩⟩
        intro x hx
        simp only [List.mem_cons] at hx
        rcases hx with rfl | hx
        · exact h1
        · exact Nat.lt_trans h1 (h4 _ hx)
      · rintro ⟨h0, h1⟩
        have ⟨h2, h3⟩ := List.pairwise_cons.1 h1
        exact ⟨⟨h0 _ List.mem_cons_self, h2 _ List.mem_cons_self⟩,
          fun x hx => h0 x (List.mem_cons_of_mem _ hx), h3⟩

/-- Writing one byte keeps the canonical form. -/
theorem putCell_wf {a : Nat} {b : Byte} {l : List Host.Cell} (h : Memory.wf l = true) :
    Memory.wf (putCell a b l) = true := by
  rw [Memory.wf_iff] at *
  refine ⟨fun c hc => (putCell_head hc).elim (fun q => q.1 ▸ q.2) (h.1 c), ?_⟩
  replace h := h.2
  induction l with
  | nil => unfold putCell; split <;> simp
  | cons x r ih =>
    have ⟨h1, h2⟩ := List.pairwise_cons.1 h
    unfold putCell
    split
    · next q =>
      split
      · exact h
      · refine List.pairwise_cons.2 ⟨fun y hy => ?_, h⟩
        rcases List.mem_cons.1 hy with rfl | hy
        · exact q
        · exact Nat.lt_trans q (h1 y hy)
    · split
      · next q1 q2 =>
        split
        · exact h2
        · exact List.pairwise_cons.2 ⟨fun y hy => by simpa [← q2] using h1 y hy, h2⟩
      · next q1 q2 =>
        refine List.pairwise_cons.2 ⟨fun y hy => ?_, ih h2⟩
        rcases putCell_head hy with ⟨rfl, _⟩ | hy
        · show x.1 < a
          omega
        · exact h1 y hy

/-- Writing bytes keeps the canonical form. -/
theorem putBytes_wf {a : Nat} {bs : List Byte} {l : List Host.Cell} (h : Memory.wf l = true) :
    Memory.wf (putBytes a bs l) = true := by
  induction bs generalizing a l with
  | nil => exact h
  | cons b r ih => exact ih (putCell_wf h)

theorem State.enqueue_same (s : State) (j : StoreJob) :
    Same 0x2000000 s (State.enqueue s j) := by
  unfold State.enqueue
  try dsimp only
  repeat' with_reducible first
    | exact Same.refl _
    | (apply Same.step (State.onStore_same ..) <;> first | decide | exact fun _ => rfl | (intro _; split <;> rfl) | show Same _ _ _)

theorem State.q12_same (s : State) (recs : List StoreRec) :
    Same 0x2000000 s (State.q12 s recs) := by
  unfold State.q12
  try dsimp only
  repeat' with_reducible first
    | exact Same.refl _
    | (apply Same.step (State.enqueue_same ..); decide)

theorem State.writeSeal_same (s : State) :
    Same 0x2000000 s (State.writeSeal s) := by
  unfold State.writeSeal
  try dsimp only
  repeat' with_reducible first
    | exact Same.refl _
    | (apply Same.step (State.q12_same ..); decide)

theorem State.configWrite_same (s : State) :
    Same 0x12000000 s (State.configWrite s) := by
  unfold State.configWrite
  try dsimp only
  repeat' with_reducible first
    | exact Same.refl _
    | (apply Same.step (State.draw_same ..); decide)
    | (apply Same.step (State.onStore_same ..) <;> first | decide | exact fun _ => rfl | (intro _; split <;> rfl) | show Same _ _ _)

theorem State.writeSequencer_same (s : State) :
    Same 0x2000000 s (State.writeSequencer s) := by
  unfold State.writeSequencer
  try dsimp only
  repeat' with_reducible first
    | exact Same.refl _
    | (apply Same.step (State.q12_same ..); decide)

theorem State.writePoint_same (s : State) (m cause : Nat) :
    Same 0x2000000 s (State.writePoint s m cause) := by
  unfold State.writePoint
  try dsimp only
  repeat' with_reducible first
    | exact Same.refl _
    | (apply Same.step (State.q12_same ..); decide)

theorem State.writeRelayRec_same (s : State) (m : Nat) :
    Same 0x2000000 s (State.writeRelayRec s m) := by
  unfold State.writeRelayRec
  try dsimp only
  repeat' with_reducible first
    | exact Same.refl _
    | (apply Same.step (State.q12_same ..); decide)

theorem State.writeEvidence_same (s : State) :
    Same 0x2000000 s (State.writeEvidence s) := by
  unfold State.writeEvidence
  try dsimp only
  repeat' with_reducible first
    | exact Same.refl _
    | (apply Same.step (State.q12_same ..); decide)

theorem State.voidRec_same (s : State) (a : StoreRec) :
    Same 0x2000000 s (State.voidRec s a) := by
  unfold State.voidRec
  try dsimp only
  repeat' with_reducible first
    | exact Same.refl _
    | (apply Same.step (State.onStore_same ..) <;> first | decide | exact fun _ => rfl | (intro _; split <;> rfl) | show Same _ _ _)
    | split

theorem State.cutData_same (s : State) (words : Nat) (a : StoreRec) :
    Same 0xA000000 s (State.cutData s words a) := by
  unfold State.cutData
  split
  · exact (State.onImages_same ..).mono (by decide)
  · exact (Same.set_store s _ fun h => putBytes_wf h).mono (by decide)
  · exact (State.voidRec_same ..).mono (by decide)

theorem State.confirmRec_same (s : State) (a : StoreRec) :
    Same 0xA010000 s (State.confirmRec s a) := by
  unfold State.confirmRec
  split
  case h_16 => exact (Same.set_store s _ fun h => putBytes_wf h).mono (by decide)
  all_goals
    first
    | exact (State.onStore_same _ _ (by exact fun _ => rfl)).mono (by decide)
    | exact (State.onImages_same ..).mono (by decide)
    | exact (State.onPoint_same ..).step (by decide) ((State.onStore_same _ _ (by exact fun _ => rfl)).mono (by decide))

theorem State.cutJob_same (s : State) (j : StoreJob) (c : JobCut) :
    Same 0xA010000 s (State.cutJob s j c) := by
  unfold State.cutJob
  try dsimp only
  repeat' with_reducible first
    | exact Same.refl _
    | (apply Same.step (State.voidRec_same ..); decide)
    | (apply Same.step (State.cutData_same ..); decide)
    | (apply Same.step (State.confirmRec_same ..); decide)
    | refine Same.foldl (fun _ _ => ?_) ?_
    | refine Same.ite ?_ ?_
    | split

theorem State.writeJob_same (s : State) (j : StoreJob) :
    Same 0xA010000 s (State.writeJob s j) := by
  unfold State.writeJob
  try dsimp only
  repeat' with_reducible first
    | exact Same.refl _
    | (apply Same.step (State.confirmRec_same ..); decide)
    | (apply Same.step (State.onStore_same ..) <;> first | decide | exact fun _ => rfl | (intro _; split <;> rfl) | show Same _ _ _)
    | refine Same.foldl (fun _ _ => ?_) ?_

end Sys2Proof.Machine
end

