-- ==== Sys2Proof/Laws/FrameHandles.lean ====
section
/-! SUPPORT. What each function of Handles can change: the mask of the parts, and never what `Same` forbids. -/
namespace Sys2Proof.Machine

theorem State.postOwed_same (s : State) (st : Status) :
    Same 0x80 s (State.postOwed s st) := by
  unfold State.postOwed
  try dsimp only
  repeat' with_reducible first
    | exact Same.refl _
    | (apply Same.step (State.postDone_same ..); decide)
    | refine Same.foldl (fun _ _ => ?_) ?_
    | split

theorem cmdPollHandle_same (s : State) (r : Request) :
    SameE 0x10000180 s (cmdPollHandle s r) := by
  unfold cmdPollHandle
  try dsimp only
  repeat' with_reducible first
    | exact Same.refl _
    | refine SameE.ok ?_
    | (apply Same.step (State.draw_same ..); decide)
    | (apply Same.step (State.replyOk_same ..); decide)
    | refine SameE.bind (fun _ => ?_)
    | split

theorem State.withdraw_same (s : State) (o : OpRef) :
    Same 0xE003008 s (State.withdraw s o) := by
  unfold State.withdraw
  extract_lets -merge x1 x2 x3 x4 x5 x6 x7
  refine Same.cut (w := 0xE003008) (s := s) (x := x1) (fun _ => ?_) ?_
  clear_value x1
  refine Same.cut (w := 0xE003008) (s := s) (x := x2) (fun _ => ?_) ?_
  clear_value x2
  refine Same.cut (w := 0xE003008) (s := s) (x := x4) (fun _ => ?_) ?_
  clear_value x4
  refine Same.cut (w := 0xE003008) (s := s) (x := x5) (fun _ => ?_) ?_
  clear_value x5
  refine Same.cut (w := 0xE003008) (s := s) (x := x6) (fun _ => ?_) ?_
  clear_value x6
  refine Same.cut (w := 0xE003008) (s := s) (x := x7) (fun _ => ?_) ?_
  clear_value x7
  all_goals
    repeat' with_reducible first
      | exact Same.refl _
      | assumption
      | unfold x1
      | unfold x2
      | unfold x4
      | unfold x5
      | unfold x6
      | unfold x7
      | (apply Same.step (State.onPower_same ..); decide)
      | (apply Same.step (State.onStore_same ..) <;> first | decide | exact fun _ => rfl | (intro _; split <;> rfl) | show Same _ _ _)
      | (apply Same.step (State.onImages_same ..); decide)
      | (apply Same.step (State.onSec_same ..); decide)
      | (apply Same.step (State.onEngine_same ..); decide)
      | (apply Same.step (State.eachIsland_same ..); decide)
      | unfold x3
      | refine Same.ite ?_ ?_
      | split

theorem State.stopOp_same (s : State) (o : OpRef) (st : Status) :
    Same 0xE003088 s (State.stopOp s o st) := by
  unfold State.stopOp
  try dsimp only
  repeat' with_reducible first
    | exact Same.refl _
    | (apply Same.step (State.postDone_same ..); decide)
    | (apply Same.step (State.withdraw_same ..); decide)

theorem cmdCancelHandle_same (s : State) (r : Request) :
    SameE 0xE003188 s (cmdCancelHandle s r) := by
  unfold cmdCancelHandle
  try dsimp only
  repeat' with_reducible first
    | exact Same.refl _
    | refine SameE.ok ?_
    | (apply Same.step (State.replyOk_same ..); decide)
    | (apply Same.step (State.stopOp_same ..); decide)
    | (apply Same.step (State.onEntry_same ..); decide)
    | refine SameE.bind (fun _ => ?_)
    | refine SameE.ite ?_ ?_
    | split

theorem cmdReadCompletions_same (s : State) (r : Request) :
    SameE 0x180 s (cmdReadCompletions s r) := by
  unfold cmdReadCompletions
  try dsimp only
  repeat' with_reducible first
    | exact Same.refl _
    | refine SameE.ok ?_
    | (apply Same.step (State.onPort_same ..); decide)
    | (apply Same.step (State.replyOk_same ..); decide)
    | refine SameE.bind (fun _ => ?_)
    | refine Same.ite ?_ ?_

theorem State.modeHits_same (s : State) (m : Mode) (o : OpRef) :
    Same 0xE003088 s (State.modeHits s m o) := by
  unfold State.modeHits
  try dsimp only
  repeat' with_reducible first
    | exact Same.refl _
    | (apply Same.step (State.onEntry_same ..); decide)
    | (apply Same.step (State.stopOp_same ..); decide)
    | refine Same.ite ?_ ?_
    | split

theorem State.detachOps_same (s : State) :
    Same 0xE003088 s (State.detachOps s) := by
  unfold State.detachOps
  try dsimp only
  repeat' with_reducible first
    | exact Same.refl _
    | (apply Same.step (State.onEntry_same ..); decide)
    | (apply Same.step (State.withdraw_same ..); decide)
    | refine Same.foldl (fun _ _ => ?_) ?_
    | refine Same.ite ?_ ?_
    | split

end Sys2Proof.Machine
end

