-- ==== Sys2Proof/Laws/FrameRecorder.lean ====
section
/-! SUPPORT. What each function of Recorder can change: the mask of the parts, and never what `Same` forbids. -/
namespace Sys2Proof.Machine

theorem State.countTorn_same (s : State) (n : Nat) :
    Same 0x2000000 s (State.countTorn s n) := by
  unfold State.countTorn
  try dsimp only
  repeat' with_reducible first
    | exact Same.refl _
    | (apply Same.step (State.onStore_same ..) <;> first | decide | exact fun _ => rfl | (intro _; split <;> rfl) | show Same _ _ _)

theorem cmdReadEvents_same (s : State) (r : Request) :
    SameE 0x2000180 s (cmdReadEvents s r) := by
  unfold cmdReadEvents
  try dsimp only
  repeat' with_reducible first
    | exact Same.refl _
    | refine SameE.ok ?_
    | (apply Same.step (State.countTorn_same ..); decide)
    | (apply Same.step (State.replyOk_same ..); decide)
    | refine SameE.bind (fun _ => ?_)

theorem cmdFreezeLog_same (s : State) (r : Request) :
    SameE 0x800180 s (cmdFreezeLog s r) := by
  unfold cmdFreezeLog
  try dsimp only
  repeat' with_reducible first
    | exact Same.refl _
    | refine SameE.ok ?_
    | (apply Same.step (State.onEvents_same ..); decide)
    | (apply Same.step (State.replyOk_same ..); decide)
    | refine SameE.bind (fun _ => ?_)

theorem State.latchGroup_same (s : State) (g : EvGroup) (seq : Option Nat) :
    Same 0x80 s (State.latchGroup s g seq) := by
  unfold State.latchGroup
  try dsimp only
  repeat' with_reducible first
    | exact Same.refl _
    | (apply Same.step (State.onPort_same ..); decide)
    | refine Same.foldl (fun _ _ => ?_) ?_

theorem State.notifyPort_same (s : State) (g : EvGroup) (h : EvHead) (p : Nat) :
    Same 0x800080 s (State.notifyPort s g h p) := by
  unfold State.notifyPort
  try dsimp only
  repeat' with_reducible first
    | exact Same.refl _
    | (apply Same.step (State.raisePort_same ..); decide)
    | (apply Same.step (State.onPort_same ..); decide)
    | refine Same.ite ?_ ?_

theorem State.recordGroup_same (s : State) (g : EvGroup) (reply : Option Nat) :
    Same 0x2800080 s (State.recordGroup s g reply) := by
  unfold State.recordGroup
  extract_lets -merge x1 x2 x3 x4 x5 x6 x7
  refine Same.cut (w := 0x2800080) (s := s) (x := x4) (fun _ => ?_) ?_
  clear_value x4
  refine Same.cut (w := 0x2800080) (s := s) (x := x6) (fun _ => ?_) ?_
  clear_value x6
  refine Same.cut (w := 0x2800080) (s := s) (x := x7) (fun _ => ?_) ?_
  clear_value x7
  all_goals
    repeat' with_reducible first
      | exact Same.refl _
      | assumption
      | unfold x4
      | unfold x6
      | unfold x7
      | (apply Same.step (State.onEvents_same ..); decide)
      | (apply Same.step (State.enqueue_same ..); decide)
      | (apply Same.step (State.latchGroup_same ..); decide)
      | (apply Same.step (State.notifyPort_same ..); decide)
      | refine Same.foldl (fun _ _ => ?_) ?_
      | unfold x1
      | unfold x5
      | dsimp only
      | split

theorem State.record_same (s : State) (g : EvGroup) (reply : Option Nat) :
    Same 0x2800080 s (State.record s g reply) := by
  unfold State.record
  try dsimp only
  repeat' with_reducible first
    | exact Same.refl _
    | (apply Same.step (State.recordGroup_same ..); decide)
    | (apply Same.step (State.onEvents_same ..); decide)
    | (apply Same.step (State.latchGroup_same ..); decide)
    | refine Same.ite ?_ ?_
    | split

theorem State.releaseLog_same (s : State) (cause : Nat) (reply : Option Nat) :
    Same 0x2800080 s (State.releaseLog s cause reply) := by
  unfold State.releaseLog
  try dsimp only
  repeat' with_reducible first
    | exact Same.refl _
    | (apply Same.step (State.q12_same ..); decide)
    | (apply Same.step (State.record_same ..); decide)
    | (apply Same.step (State.onEvents_same ..); decide)
    | refine Same.foldl (fun _ _ => ?_) ?_
    | split

theorem cmdUnfreezeLog_same (s : State) (r : Request) :
    SameE 0x2800180 s (cmdUnfreezeLog s r) := by
  unfold cmdUnfreezeLog
  try dsimp only
  repeat' with_reducible first
    | exact Same.refl _
    | refine SameE.ok ?_
    | (apply Same.step (State.replyOk_same ..); decide)
    | (apply Same.step (State.releaseLog_same ..); decide)
    | refine SameE.bind (fun _ => ?_)
    | split

theorem State.eventTaken_same (s : State) :
    Same 0x800200 s (State.eventTaken s) := by
  unfold State.eventTaken
  try dsimp only
  repeat' with_reducible first
    | exact Same.refl _
    | (apply Same.step (State.onQueue_same ..); decide)
    | (apply Same.step (State.onEvents_same ..); decide)

theorem execEventGroup_same (upset : Bool) (s : State) :
    SameO 0x2800280 s (execEventGroup upset s) := by
  unfold execEventGroup
  try dsimp only
  repeat' with_reducible first
    | exact Same.refl _
    | refine SameO.next ?_
    | (apply Same.step (State.eventTaken_same ..); decide)
    | (apply Same.step (State.poisoned_same ..); decide)
    | (apply Same.step (State.record_same ..); decide)
    | refine Same.ite ?_ ?_
    | split

theorem execLogFreezeTimeout_same (s : State) :
    SameO 0x2800080 s (execLogFreezeTimeout s) := by
  unfold execLogFreezeTimeout
  try dsimp only
  repeat' with_reducible first
    | exact Same.refl _
    | refine SameO.next ?_
    | (apply Same.step (State.releaseLog_same ..); decide)
    | refine Same.ite ?_ ?_
    | split

end Sys2Proof.Machine
end

