-- ==== Sys2Proof/Laws/FrameCoalesce.lean ====
section
/-! SUPPORT. What each function of Coalesce can change: the mask of the parts, and never what `Same` forbids. -/
namespace Sys2Proof.Machine

theorem State.report_same (s : State) (g : EvGroup) (domKind domIdx : Nat) (points chans : List Nat) (value : Int) (ch : Nat) :
    Same 0xC00000 s (State.report s g domKind domIdx points chans value ch) := by
  unfold State.report
  try dsimp only
  repeat' with_reducible first
    | exact Same.refl _
    | (apply Same.step (State.onPq_same ..); decide)
    | (apply Same.step (State.send_same ..); decide)
    | refine Same.ite ?_ ?_

theorem State.endCause_same (s : State) (m cause : Nat) :
    Same 0x10000 s (State.endCause s m cause) := by
  unfold State.endCause
  try dsimp only
  repeat' with_reducible first
    | exact Same.refl _
    | (apply Same.step (State.onPoint_same ..); decide)
    | refine Same.ite ?_ ?_

theorem State.captureTrigger_same (s : State) (at_ cause source : Nat) (ch : Option Nat) :
    Same 0x400000 s (State.captureTrigger s at_ cause source ch) := by
  unfold State.captureTrigger
  try dsimp only
  repeat' with_reducible first
    | exact Same.refl _
    | (apply Same.step (State.onPq_same ..); decide)
    | refine Same.ite ?_ ?_
    | split

theorem State.closeWindow_same (s : State) (w : CoalWin) :
    Same 0xC00000 s (State.closeWindow s w) := by
  unfold State.closeWindow
  try dsimp only
  repeat' with_reducible first
    | exact Same.refl _
    | (apply Same.step (State.send_same ..); decide)
    | (apply Same.step (State.onPq_same ..); decide)
    | refine Same.foldl (fun _ _ => ?_) ?_
    | refine Same.ite ?_ ?_

theorem State.closeWindows_same (s : State) (f : CoalWin → Bool) :
    Same 0xC00000 s (State.closeWindows s f) := by
  unfold State.closeWindows
  try dsimp only
  repeat' with_reducible first
    | exact Same.refl _
    | (apply Same.step (State.closeWindow_same ..); decide)
    | (apply Same.step (State.onPq_same ..); decide)
    | refine Same.foldl (fun _ _ => ?_) ?_

theorem State.estimateActive_same (s : State) (m cause isl : Nat) (chans : List Nat) :
    Same 0xC00000 s (State.estimateActive s m cause isl chans) := by
  unfold State.estimateActive
  try dsimp only
  repeat' with_reducible first
    | exact Same.refl _
    | (apply Same.step (State.report_same ..); decide)
    | refine Same.ite ?_ ?_

theorem State.setCause_same (s : State) (m cause isl : Nat) (chans : List Nat) :
    Same 0xC10000 s (State.setCause s m cause isl chans) := by
  unfold State.setCause
  try dsimp only
  repeat' with_reducible first
    | exact Same.refl _
    | (apply Same.step (State.onPoint_same ..); decide)
    | (apply Same.step (State.estimateActive_same ..); decide)
    | refine Same.ite ?_ ?_

theorem execCoalesceWindowClose_same (s : State) :
    SameO 0xC00000 s (execCoalesceWindowClose s) := by
  unfold execCoalesceWindowClose
  try dsimp only
  repeat' with_reducible first
    | exact Same.refl _
    | refine SameO.next ?_
    | (apply Same.step (State.closeWindows_same ..); decide)

theorem State.dropCause_same (s : State) (m cause : Nat) :
    Same 0x10000 s (State.dropCause s m cause) := by
  unfold State.dropCause
  try dsimp only
  repeat' with_reducible first
    | exact Same.refl _
    | (apply Same.step (State.onPoint_same ..); decide)

end Sys2Proof.Machine
end

