-- ==== Sys2Proof/Laws/FrameRelay.lean ====
section
/-! SUPPORT. What each function of Relay can change: the mask of the parts, and never what `Same` forbids. -/
namespace Sys2Proof.Machine

theorem State.writeLedger_same (s : State) (m : Nat) :
    Same 0x2000000 s (State.writeLedger s m) := by
  unfold State.writeLedger
  try dsimp only
  repeat' with_reducible first
    | exact Same.refl _
    | (apply Same.step (State.writePoint_same ..); decide)
    | (apply Same.step (State.writeRelayRec_same ..); decide)
    | refine Same.ite ?_ ?_

theorem State.ecEvent_same (s : State) (m : Nat) (b : Bool) :
    Same 0x800000 s (State.ecEvent s m b) := by
  unfold State.ecEvent
  try dsimp only
  repeat' with_reducible first
    | exact Same.refl _
    | (apply Same.step (State.raise_same ..); decide)
    | refine Same.ite ?_ ?_

theorem State.ecRun_same (s : State) (m : Nat) :
    Same 0x810000 s (State.ecRun s m) := by
  unfold State.ecRun
  try dsimp only
  repeat' with_reducible first
    | exact Same.refl _
    | (apply Same.step (State.ecEvent_same ..); decide)
    | (apply Same.step (State.onLedger_same ..); decide)

theorem State.setCredit_same (s : State) (m : Nat) (c : Int) (delta : Bool) :
    Same 0x810000 s (State.setCredit s m c delta) := by
  unfold State.setCredit
  extract_lets -merge x1 x2 x3 x4 x5
  refine Same.cut (w := 0x810000) (s := s) (x := x3) (fun _ => ?_) ?_
  clear_value x3
  refine Same.cut (w := 0x810000) (s := s) (x := x4) (fun _ => ?_) ?_
  clear_value x4
  refine Same.cut (w := 0x810000) (s := s) (x := x5) (fun _ => ?_) ?_
  clear_value x5
  all_goals
    repeat' with_reducible first
      | exact Same.refl _
      | assumption
      | unfold x3
      | unfold x4
      | unfold x5
      | (apply Same.step (State.onLedger_same ..); decide)
      | (apply Same.step (State.raise_same ..); decide)
      | (apply Same.step (State.ecRun_same ..); decide)
      | refine Same.foldl (fun _ _ => ?_) ?_
      | unfold x1
      | unfold x2
      | refine Same.ite ?_ ?_

theorem State.sendDirective_same (s : State) (m : Nat) (open_ : Bool) (acting : Nat) :
    Same 0x200000 s (State.sendDirective s m open_ acting) := by
  unfold State.sendDirective
  try dsimp only
  repeat' with_reducible first
    | exact Same.refl _
    | (apply Same.step (State.onRelays_same ..); decide)
    | refine Same.ite ?_ ?_

theorem State.evalRelay_same (s : State) (m : Nat) (byCommand : Bool) :
    Same 0x210000 s (State.evalRelay s m byCommand) := by
  unfold State.evalRelay
  try dsimp only
  repeat' with_reducible first
    | exact Same.refl _
    | (apply Same.step (State.onLedger_same ..); decide)
    | (apply Same.step (State.sendDirective_same ..); decide)
    | refine Same.ite ?_ ?_

theorem State.evalRelays_same (s : State) (cmd : List Nat) :
    Same 0x210000 s (State.evalRelays s cmd) := by
  unfold State.evalRelays
  try dsimp only
  repeat' with_reducible first
    | exact Same.refl _
    | (apply Same.step (State.evalRelay_same ..); decide)
    | refine Same.foldl (fun _ _ => ?_) ?_

theorem State.deduct_same (s : State) (m q price : Nat) :
    Same 0x810000 s (State.deduct s m q price) := by
  unfold State.deduct
  try dsimp only
  repeat' with_reducible first
    | exact Same.refl _
    | (apply Same.step (State.setCredit_same ..); decide)
    | (apply Same.step (State.onLedger_same ..); decide)
    | refine Same.ite ?_ ?_

theorem execRelayRefresh_same (di : List Bool) (s : State) :
    SameO 0xA00000 s (execRelayRefresh di s) := by
  unfold execRelayRefresh
  extract_lets -merge x1 x2 x3 x4 x5 x6 x7 x8 x9 x10 x11 x12 x13
  refine Same.cut (w := 0xA00000) (s := s) (x := x9) (fun _ => ?_) ?_
  clear_value x9
  refine Same.cut (w := 0xA00000) (s := s) (x := x10) (fun _ => ?_) ?_
  clear_value x10
  refine Same.cut (w := 0xA00000) (s := s) (x := x11) (fun _ => ?_) ?_
  clear_value x11
  all_goals
    repeat' with_reducible first
      | exact Same.refl _
      | assumption
      | unfold x9
      | unfold x10
      | unfold x11
      | refine SameO.next ?_
      | (apply Same.step (State.onRelays_same ..); decide)
      | (apply Same.step (State.raise_same ..); decide)
      | refine Same.foldl (fun _ _ => ?_) ?_
      | unfold x1
      | unfold x2
      | unfold x3
      | unfold x4
      | unfold x6
      | unfold x7
      | unfold x8
      | unfold x12
      | unfold x13
      | refine Same.ite ?_ ?_

end Sys2Proof.Machine
end

