-- ==== Sys2Proof/Laws/FrameAlarms.lean ====
section
/-! SUPPORT. What each function of Alarms can change: the mask of the parts, and never what `Same` forbids. -/
namespace Sys2Proof.Machine

theorem PairsLe.append (l m : List OtpPair) : PairsLe l (l ++ m) := by
  intro i
  by_cases h : i < l.length
  · rw [List.getD_eq_getElem?_getD, List.getD_eq_getElem?_getD, List.getElem?_append_left h]
    exact .refl _
  · rw [List.getD_eq_getElem?_getD, List.getElem?_eq_none (by omega)]
    exact ⟨fun q => absurd q (by simp), fun q => absurd q (by simp)⟩

theorem PairsLe.modify {l : List OtpPair} {f : OtpPair → OtpPair} (i : Nat) (h : ∀ p, PairLe p (f p)) :
    PairsLe l (l.modify i f) := by
  intro j
  rw [List.getD_eq_getElem?_getD, List.getD_eq_getElem?_getD, List.getElem?_modify]
  cases l[j]? with
  | none => exact .refl _
  | some v => by_cases q : i = j <;> simp [q, h, PairLe.refl]

theorem programPair_le (l : List OtpPair) (p : Nat) : PairsLe l (programPair l p) :=
  (PairsLe.append l _).trans (PairsLe.modify p fun _ => ⟨fun _ => rfl, fun _ => rfl⟩)

theorem upd_evidence_le {l : List (List OtpPair)} {c : Nat} {f : List OtpPair → List OtpPair} (h : ∀ x, PairsLe x (f x)) (d : Nat) :
    PairsLe (l.getD d []) ((upd l c f).getD d []) := by
  rw [List.getD_eq_getElem?_getD, List.getD_eq_getElem?_getD, upd, List.getElem?_modify]
  cases l[d]? with
  | none => exact .refl _
  | some v => by_cases q : c = d <;> simp [q, h, PairsLe.refl]

theorem State.clearAlarm_same (s : State) (type target : Nat) (dur : Option Nat) :
    Same 0x1810020 s (State.clearAlarm s type target dur) := by
  unfold State.clearAlarm
  try dsimp only
  repeat' with_reducible first
    | exact Same.refl _
    | (apply Same.step (State.onTamper_same ..); decide)
    | (apply Same.step (State.endCause_same ..); decide)
    | (apply Same.step (State.onMode_same ..); decide)
    | (apply Same.step (State.send_same ..); decide)
    | refine Same.foldl (fun _ _ => ?_) ?_
    | refine Same.ite ?_ ?_
    | split

theorem State.thermClear_same (s : State) (j m : Nat) :
    Same 0x1810020 s (State.thermClear s j m) := by
  unfold State.thermClear
  try dsimp only
  repeat' with_reducible first
    | exact Same.refl _
    | (apply Same.step (State.onTamper_same ..); decide)
    | (apply Same.step (State.clearAlarm_same ..); decide)
    | refine Same.ite ?_ ?_

theorem State.thermIdle_same (s : State) :
    Same 0x1810020 s (State.thermIdle s) := by
  unfold State.thermIdle
  try dsimp only
  repeat' with_reducible first
    | exact Same.refl _
    | (apply Same.step (State.onTamper_same ..); decide)
    | (apply Same.step (State.thermClear_same ..); decide)
    | refine Same.foldl (fun _ _ => ?_) ?_
    | refine Same.ite ?_ ?_

theorem State.inputsChanged_same (s : State) :
    Same 0x1810020 s (State.inputsChanged s) := by
  unfold State.inputsChanged
  try dsimp only
  repeat' with_reducible first
    | exact Same.refl _
    | (apply Same.step (State.clearAlarm_same ..); decide)
    | (apply Same.step (State.onTamper_same ..); decide)
    | refine Same.foldl (fun _ _ => ?_) ?_
    | refine Same.ite ?_ ?_

theorem State.programEvidence_same (s : State) (c : Nat) :
    Same 0x1000004 s (State.programEvidence s c).1 := by
  unfold State.programEvidence
  dsimp only
  split <;> dsimp only
  · refine Same.step (State.onTamper_same ..) (by decide) (.refl _)
  · refine Same.step (State.onOtp_same _ _ ?_) (by decide) (.refl _)
    exact fun o => ⟨.refl _, .refl _, .refl _, upd_evidence_le fun _ => programPair_le _ _, .refl _, List.prefix_rfl, List.prefix_rfl, List.prefix_rfl⟩

theorem State.cellEvidence_same (s : State) (type : Nat) :
    Same 0x1000004 s (State.cellEvidence s type).1 := by
  unfold State.cellEvidence
  try dsimp only
  repeat' with_reducible first
    | exact Same.refl _
    | (apply Same.step (State.onTamper_same ..); decide)
    | (apply Same.step (State.programEvidence_same ..); decide)
    | refine Same.ite ?_ ?_
    | split

theorem State.raiseOnCell_same (s : State) (type target data : Nat) :
    Same 0x1000004 s (State.raiseOnCell s type target data) := by
  unfold State.raiseOnCell
  try dsimp only
  repeat' with_reducible first
    | exact Same.refl _
    | (apply Same.step (State.cellEvidence_same ..); decide)
    | (apply Same.step (State.onTamper_same ..); decide)
    | refine Same.ite ?_ ?_

theorem State.raiseAlarm_same (s : State) (type target data : Nat) (extra : List Byte) :
    Same 0x1000004 s (State.raiseAlarm s type target data extra) := by
  unfold State.raiseAlarm
  try dsimp only
  repeat' with_reducible first
    | exact Same.refl _
    | (apply Same.step (State.raiseOnCell_same ..); decide)
    | (apply Same.step (State.onTamper_same ..); decide)
    | refine Same.ite ?_ ?_

theorem State.evidenceEvent_same (s : State) (c flags : Nat) :
    Same 0x800000 s (State.evidenceEvent s c flags) := by
  unfold State.evidenceEvent
  try dsimp only
  repeat' with_reducible first
    | exact Same.refl _
    | (apply Same.step (State.raise_same ..); decide)

theorem State.evidenceIncrement_same (s : State) (c : Nat) :
    Same 0x3800004 s (State.evidenceIncrement s c) := by
  unfold State.evidenceIncrement
  try dsimp only
  repeat' with_reducible first
    | exact Same.refl _
    | (apply Same.step (State.programEvidence_same ..); decide)
    | (apply Same.step (State.evidenceEvent_same ..); decide)
    | (apply Same.step (State.writeEvidence_same ..); decide)

theorem State.thermMean_same (s : State) (j : Nat) (mean : Int) :
    Same 0x1810024 s (State.thermMean s j mean) := by
  unfold State.thermMean
  try dsimp only
  repeat' with_reducible first
    | exact Same.refl _
    | (apply Same.step (State.onTamper_same ..); decide)
    | (apply Same.step (State.raiseAlarm_same ..); decide)
    | (apply Same.step (State.thermClear_same ..); decide)
    | refine Same.ite ?_ ?_

theorem State.thermWatch_same (s : State) (c : Nat) (mean : Int) :
    Same 0x1810024 s (State.thermWatch s c mean) := by
  unfold State.thermWatch
  try dsimp only
  repeat' with_reducible first
    | exact Same.refl _
    | (apply Same.step (State.thermMean_same ..); decide)
    | refine Same.foldl (fun _ _ => ?_) ?_
    | refine Same.ite ?_ ?_

theorem execSupplyGlitch_same (s : State) :
    SameO 0x1000004 s (execSupplyGlitch s) := by
  unfold execSupplyGlitch
  try dsimp only
  repeat' with_reducible first
    | exact Same.refl _
    | refine SameO.next ?_
    | (apply Same.step (State.onTamper_same ..); decide)
    | (apply Same.step (State.raiseAlarm_same ..); decide)
    | refine Same.ite ?_ ?_

theorem execLockExpiry_same (s : State) :
    SameO 0x1000000 s (execLockExpiry s) := by
  unfold execLockExpiry
  try dsimp only
  repeat' with_reducible first
    | exact Same.refl _
    | refine SameO.next ?_
    | (apply Same.step (State.onTamper_same ..); decide)

theorem State.resumeRaised_same (s : State) (mask word : Nat) :
    Same 0x1010000 s (State.resumeRaised s mask word) := by
  unfold State.resumeRaised
  try dsimp only
  repeat' with_reducible first
    | exact Same.refl _
    | (apply Same.step (State.onLedger_same ..); decide)
    | (apply Same.step (State.onTamper_same ..); decide)
    | refine Same.foldl (fun _ _ => ?_) ?_
    | refine Same.ite ?_ ?_

theorem State.responseEvidence_same (s : State) (a : Alarm) :
    Same 0x3800004 s (State.responseEvidence s a) := by
  unfold State.responseEvidence
  try dsimp only
  repeat' with_reducible first
    | exact Same.refl _
    | (apply Same.step (State.evidenceIncrement_same ..); decide)
    | (apply Same.step (State.onTamper_same ..); decide)
    | refine Same.ite ?_ ?_
    | split

theorem State.applyAlarm_same (s : State) (a : Alarm) :
    Same 0x7C10004 s (State.applyAlarm s a) := by
  unfold State.applyAlarm
  extract_lets -merge x1 x2 x3
  refine Same.cut (w := 0x7C10004) (s := s) (x := x1) (fun _ => ?_) ?_
  clear_value x1
  refine Same.cut (w := 0x7C10004) (s := s) (x := x2) (fun _ => ?_) ?_
  clear_value x2
  refine Same.cut (w := 0x7C10004) (s := s) (x := x3) (fun _ => ?_) ?_
  clear_value x3
  all_goals
    repeat' with_reducible first
      | exact Same.refl _
      | assumption
      | unfold x1
      | unfold x2
      | unfold x3
      | (apply Same.step (State.responseEvidence_same ..); decide)
      | (apply Same.step (State.onSec_same ..); decide)
      | (apply Same.step (State.onLedger_same ..); decide)
      | (apply Same.step (State.captureTrigger_same ..); decide)
      | refine Same.foldl (fun _ _ => ?_) ?_
      | refine Same.ite ?_ ?_

theorem State.combineMetering_same (s : State) (m : Nat) :
    Same 0xC10000 s (State.combineMetering s m) := by
  unfold State.combineMetering
  try dsimp only
  repeat' with_reducible first
    | exact Same.refl _
    | (apply Same.step (State.setCause_same ..); decide)
    | (apply Same.step (State.endCause_same ..); decide)
    | (apply Same.step (State.onPoint_same ..); decide)
    | refine Same.ite ?_ ?_

theorem State.applyAlarms_same (s : State) (due : List Alarm) :
    Same 0x7C10004 s (State.applyAlarms s due) := by
  unfold State.applyAlarms
  extract_lets -merge x1 x2
  refine Same.cut (w := 0x7C10004) (s := s) (x := x1) (fun _ => ?_) ?_
  clear_value x1
  refine Same.cut (w := 0x7C10004) (s := s) (x := x2) (fun _ => ?_) ?_
  clear_value x2
  all_goals
    repeat' with_reducible first
      | exact Same.refl _
      | assumption
      | unfold x1
      | unfold x2
      | (apply Same.step (State.applyAlarm_same ..); decide)
      | (apply Same.step (State.onTamper_same ..); decide)
      | (apply Same.step (State.combineMetering_same ..); decide)
      | refine Same.foldl (fun _ _ => ?_) ?_

theorem State.alarmRecord_same (s : State) (as : List Alarm) :
    Same 0xC00000 s (State.alarmRecord s as) := by
  unfold State.alarmRecord
  try dsimp only
  repeat' with_reducible first
    | exact Same.refl _
    | (apply Same.step (State.report_same ..); decide)
    | (apply Same.step (State.send_same ..); decide)
    | refine Same.ite ?_ ?_
    | split

theorem State.alarmRecords_same (s : State) (due : List Alarm) :
    Same 0xC00000 s (State.alarmRecords s due) := by
  unfold State.alarmRecords
  try dsimp only
  repeat' with_reducible first
    | exact Same.refl _
    | (apply Same.step (State.alarmRecord_same ..); decide)
    | refine Same.foldl (fun _ _ => ?_) ?_

theorem execRtcOscillatorResumed_same (s : State) :
    SameO 0x1810030 s (execRtcOscillatorResumed s) := by
  unfold execRtcOscillatorResumed
  try dsimp only
  repeat' with_reducible first
    | exact Same.refl _
    | refine SameO.next ?_
    | (apply Same.step (State.onClock_same ..) <;> first | decide | exact fun _ => rfl | (intro _; split <;> rfl) | show Same _ _ _)
    | (apply Same.step (State.clearAlarm_same ..); decide)
    | refine Same.ite ?_ ?_

theorem execSupplyGlitchClear_same (s : State) :
    SameO 0x1810020 s (execSupplyGlitchClear s) := by
  unfold execSupplyGlitchClear
  try dsimp only
  repeat' with_reducible first
    | exact Same.refl _
    | refine SameO.next ?_
    | (apply Same.step (State.onTamper_same ..); decide)
    | (apply Same.step (State.clearAlarm_same ..); decide)
    | refine Same.ite ?_ ?_
    | split

theorem State.resumeIncrements_same (s : State) :
    Same 0x3800004 s (State.resumeIncrements s) := by
  unfold State.resumeIncrements
  try dsimp only
  repeat' with_reducible first
    | exact Same.refl _
    | (apply Same.step (State.evidenceIncrement_same ..); decide)
    | refine Same.foldl (fun _ _ => ?_) ?_

theorem State.resumeAlarms_same (s : State) (kept dormant : Bool) :
    Same 0x3C10004 s (State.resumeAlarms s kept dormant) := by
  unfold State.resumeAlarms
  extract_lets -merge x1 x2 x3 x4 x5 x6 x7 x8 x9
  refine Same.cut (w := 0x3C10004) (s := s) (x := x3) (fun _ => ?_) ?_
  clear_value x3
  refine Same.cut (w := 0x3C10004) (s := s) (x := x4) (fun _ => ?_) ?_
  clear_value x4
  refine Same.cut (w := 0x3C10004) (s := s) (x := x5) (fun _ => ?_) ?_
  clear_value x5
  refine Same.cut (w := 0x3C10004) (s := s) (x := x8) (fun _ => ?_) ?_
  clear_value x8
  refine Same.cut (w := 0x3C10004) (s := s) (x := x9) (fun _ => ?_) ?_
  clear_value x9
  all_goals
    repeat' with_reducible first
      | exact Same.refl _
      | assumption
      | unfold x3
      | unfold x4
      | unfold x5
      | unfold x8
      | unfold x9
      | (apply Same.step (State.resumeIncrements_same ..); decide)
      | (apply Same.step (State.resumeRaised_same ..); decide)
      | (apply Same.step (State.combineMetering_same ..); decide)
      | (apply Same.step (State.send_same ..); decide)
      | (apply Same.step (State.onTamper_same ..); decide)
      | refine Same.foldl (fun _ _ => ?_) ?_
      | unfold x1
      | unfold x2
      | unfold x6
      | refine Same.ite ?_ ?_

theorem State.sampleInput_same (s : State) (a : TamperLevels) (i : Nat) :
    Same 0x1810024 s (State.sampleInput s a i) := by
  unfold State.sampleInput
  extract_lets -merge x1 x2 x3 x4 x5
  refine Same.cut (w := 0x1810024) (s := s) (x := x3) (fun _ => ?_) ?_
  clear_value x3
  refine Same.cut (w := 0x1810024) (s := s) (x := x5) (fun _ => ?_) ?_
  clear_value x5
  all_goals
    repeat' with_reducible first
      | exact Same.refl _
      | assumption
      | unfold x3
      | unfold x5
      | (apply Same.step (State.onTamper_same ..); decide)
      | (apply Same.step (State.clearAlarm_same ..); decide)
      | (apply Same.step (State.raiseAlarm_same ..); decide)
      | unfold x1
      | unfold x2
      | unfold x4
      | refine Same.ite ?_ ?_

theorem execTamperSample_same (a : TamperLevels) (s : State) :
    SameO 0x1810024 s (execTamperSample a s) := by
  unfold execTamperSample
  try dsimp only
  repeat' with_reducible first
    | exact Same.refl _
    | refine SameO.next ?_
    | (apply Same.step (State.onTamper_same ..); decide)
    | (apply Same.step (State.sampleInput_same ..); decide)
    | refine Same.foldl (fun _ _ => ?_) ?_
    | refine Same.ite ?_ ?_

theorem execRtcOscillatorStop_same (s : State) :
    SameO 0x1000014 s (execRtcOscillatorStop s) := by
  unfold execRtcOscillatorStop
  try dsimp only
  repeat' with_reducible first
    | exact Same.refl _
    | refine SameO.next ?_
    | (apply Same.step (State.onClock_same ..) <;> first | decide | exact fun _ => rfl | (intro _; split <;> rfl) | show Same _ _ _)
    | (apply Same.step (State.raiseAlarm_same ..); decide)
    | refine Same.ite ?_ ?_

end Sys2Proof.Machine
end

