-- ==== Sys2Proof/Laws/FramePrepay.lean ====
section
/-! SUPPORT. What each function of Prepay can change: the mask of the parts, and never what `Same` forbids. -/
namespace Sys2Proof.Machine

theorem State.onWaiting_same (s : State) (p : Nat) (w : Wait) (f : Reply → Reply) :
    Same 0x80 s (State.onWaiting s p w f) := by
  unfold State.onWaiting
  try dsimp only
  repeat' with_reducible first
    | exact Same.refl _
    | (apply Same.step (State.onPort_same ..); decide)

theorem cmdReconnectArm_same (s : State) (r : Request) :
    SameE 0x200180 s (cmdReconnectArm s r) := by
  unfold cmdReconnectArm
  try dsimp only
  repeat' with_reducible first
    | exact Same.refl _
    | refine SameE.ok ?_
    | (apply Same.step (State.onRelays_same ..); decide)
    | (apply Same.step (State.replyOk_same ..); decide)
    | refine SameE.bind (fun _ => ?_)
    | refine Same.ite ?_ ?_

theorem State.tokenRefused_same (s : State) (r : Request) (m : Nat) (st : Status) (cls serial own : Nat) :
    Same 0x800180 s (State.tokenRefused s r m st cls serial own) := by
  unfold State.tokenRefused
  try dsimp only
  repeat' with_reducible first
    | exact Same.refl _
    | (apply Same.step (State.reply_same ..); decide)
    | (apply Same.step (State.raise_same ..); decide)

theorem State.macFailure_same (s : State) (m : Nat) :
    Same 0x2810000 s (State.macFailure s m) := by
  unfold State.macFailure
  try dsimp only
  repeat' with_reducible first
    | exact Same.refl _
    | (apply Same.step (State.onLedger_same ..); decide)
    | (apply Same.step (State.raise_same ..); decide)
    | (apply Same.step (State.writeLedger_same ..); decide)
    | refine Same.ite ?_ ?_

theorem cmdSubmitToken_same (s : State) (r : Request) :
    SameE 0x2A10180 s (cmdSubmitToken s r) := by
  unfold cmdSubmitToken
  try dsimp only
  repeat' with_reducible first
    | exact Same.refl _
    | refine SameE.ok ?_
    | (apply Same.step (State.tokenRefused_same ..); decide)
    | (apply Same.step (State.macFailure_same ..); decide)
    | (apply Same.step (State.onRelays_same ..); decide)
    | (apply Same.step (State.replyOk_same ..); decide)
    | refine SameE.bind (fun _ => ?_)
    | refine SameE.ite ?_ ?_
    | split

theorem cmdReadCredit_same (s : State) (r : Request) :
    SameE 0x180 s (cmdReadCredit s r) := by
  unfold cmdReadCredit
  try dsimp only
  repeat' with_reducible first
    | exact Same.refl _
    | refine SameE.ok ?_
    | (apply Same.step (State.replyOk_same ..); decide)
    | refine SameE.bind (fun _ => ?_)

theorem cmdRelayCommand_same (s : State) (r : Request) :
    SameE 0x4200180 s (cmdRelayCommand s r) := by
  unfold cmdRelayCommand
  try dsimp only
  repeat' with_reducible first
    | exact Same.refl _
    | assumption
    | refine SameE.ok ?_
    | (apply SameE.bindS (SameE.step (order5_same ..) ?_ ?_) ?_ <;> first | decide | intro _ _ | skip)
    | (apply Same.step (State.onRelays_same ..); decide)
    | (apply Same.step (State.replyOk_same ..); decide)
    | refine SameE.bind (fun _ => ?_)

theorem cmdSetCreditPolicy_same (s : State) (r : Request) :
    SameE 0x4200180 s (cmdSetCreditPolicy s r) := by
  unfold cmdSetCreditPolicy
  try dsimp only
  repeat' with_reducible first
    | exact Same.refl _
    | assumption
    | refine SameE.ok ?_
    | (apply SameE.bindS (SameE.step (order5_same ..) ?_ ?_) ?_ <;> first | decide | intro _ _ | skip)
    | (apply Same.step (State.replyOk_same ..); decide)
    | (apply Same.step (State.onRelays_same ..); decide)
    | refine SameE.bind (fun _ => ?_)

theorem State.applyPolicy_same (s : State) (p : PolicyReq) :
    Same 0x2810000 s (State.applyPolicy s p) := by
  unfold State.applyPolicy
  try dsimp only
  repeat' with_reducible first
    | exact Same.refl _
    | (apply Same.step (State.writeLedger_same ..); decide)
    | (apply Same.step (State.ecRun_same ..); decide)
    | (apply Same.step (State.onLedger_same ..); decide)
    | refine Same.foldl (fun _ _ => ?_) ?_
    | refine Same.ite ?_ ?_

theorem State.tokenEffect_same (s : State) (t : TokenReq) (at_ : Nat) :
    Same 0x10810000 s (State.tokenEffect s t at_) := by
  unfold State.tokenEffect
  try dsimp only
  repeat' with_reducible first
    | exact Same.refl _
    | (apply Same.step (State.setCredit_same ..); decide)
    | (apply Same.step (State.ecRun_same ..); decide)
    | (apply Same.step (State.ecEvent_same ..); decide)
    | (apply Same.step (State.onLedger_same ..); decide)
    | (apply Same.step (State.draw_same ..); decide)
    | split

theorem State.applyToken_same (s : State) (t : TokenReq) :
    Same 0x12810080 s (State.applyToken s t) := by
  unfold State.applyToken
  extract_lets -merge x1 x2 x3 x4 x5 x6 x7
  refine Same.cut (w := 0x12810080) (s := s) (x := x3) (fun _ => ?_) ?_
  clear_value x3
  refine Same.cut (w := 0x12810080) (s := s) (x := x4) (fun _ => ?_) ?_
  clear_value x4
  refine Same.cut (w := 0x12810080) (s := s) (x := x5) (fun _ => ?_) ?_
  clear_value x5
  refine Same.cut (w := 0x12810080) (s := s) (x := x7) (fun _ => ?_) ?_
  clear_value x7
  all_goals
    repeat' with_reducible first
      | exact Same.refl _
      | assumption
      | unfold x3
      | unfold x4
      | unfold x5
      | unfold x7
      | (apply Same.step (State.onLedger_same ..); decide)
      | (apply Same.step (State.tokenEffect_same ..); decide)
      | (apply Same.step (State.enqueue_same ..); decide)
      | (apply Same.step (State.onWaiting_same ..); decide)
      | unfold x2
      | unfold x6
      | refine Same.ite ?_ ?_

theorem execTokenApply_same (s : State) :
    SameO 0x12A10080 s (execTokenApply s) := by
  unfold execTokenApply
  try dsimp only
  repeat' with_reducible first
    | exact Same.refl _
    | refine SameO.next ?_
    | (apply Same.step (State.applyToken_same ..); decide)
    | (apply Same.step (State.onRelays_same ..); decide)
    | refine Same.foldl (fun _ _ => ?_) ?_
    | refine Same.ite ?_ ?_

theorem State.applyArms_same (s : State) (ms : List Nat) :
    Same 0x210000 s (State.applyArms s ms) := by
  unfold State.applyArms
  try dsimp only
  repeat' with_reducible first
    | exact Same.refl _
    | (apply Same.step (State.sendDirective_same ..); decide)
    | (apply Same.step (State.onLedger_same ..); decide)
    | refine Same.foldl (fun _ _ => ?_) ?_
    | refine Same.ite ?_ ?_

theorem State.applyRelayCommands_same (s : State) (cs : List RelayReq) :
    Same 0x2010000 s (State.applyRelayCommands s cs) := by
  unfold State.applyRelayCommands
  try dsimp only
  repeat' with_reducible first
    | exact Same.refl _
    | (apply Same.step (State.writeLedger_same ..); decide)
    | (apply Same.step (State.onLedger_same ..); decide)
    | refine Same.foldl (fun _ _ => ?_) ?_

theorem State.answerRelayCommands_same (s : State) (cs : List RelayReq) :
    Same 0x80 s (State.answerRelayCommands s cs) := by
  unfold State.answerRelayCommands
  try dsimp only
  repeat' with_reducible first
    | exact Same.refl _
    | (apply Same.step (State.onWaiting_same ..); decide)
    | refine Same.foldl (fun _ _ => ?_) ?_

theorem State.powerLimit_same (s : State) (m q sFirst : Nat) :
    Same 0x10000 s (State.powerLimit s m q sFirst) := by
  unfold State.powerLimit
  try dsimp only
  repeat' with_reducible first
    | exact Same.refl _
    | (apply Same.step (State.onLedger_same ..); decide)

theorem execPowerLimitHoldEnd_same (m : Nat) (s : State) :
    SameO 0x210000 s (execPowerLimitHoldEnd m s) := by
  unfold execPowerLimitHoldEnd
  try dsimp only
  repeat' with_reducible first
    | exact Same.refl _
    | refine SameO.next ?_
    | (apply Same.step (State.evalRelay_same ..); decide)
    | (apply Same.step (State.onLedger_same ..); decide)
    | refine Same.ite ?_ ?_

theorem execTokenLockoutEnd_same (m : Nat) (s : State) :
    SameO 0x2010000 s (execTokenLockoutEnd m s) := by
  unfold execTokenLockoutEnd
  try dsimp only
  repeat' with_reducible first
    | exact Same.refl _
    | refine SameO.next ?_
    | (apply Same.step (State.writeLedger_same ..); decide)
    | (apply Same.step (State.onLedger_same ..); decide)
    | refine Same.ite ?_ ?_

theorem execRelayOverrideEnd_same (m : Nat) (s : State) :
    SameO 0x2210000 s (execRelayOverrideEnd m s) := by
  unfold execRelayOverrideEnd
  try dsimp only
  repeat' with_reducible first
    | exact Same.refl _
    | refine SameO.next ?_
    | (apply Same.step (State.evalRelay_same ..); decide)
    | (apply Same.step (State.writeLedger_same ..); decide)
    | (apply Same.step (State.onLedger_same ..); decide)
    | refine Same.ite ?_ ?_

theorem execRelayTestEnd_same (m : Nat) (s : State) :
    SameO 0x210000 s (execRelayTestEnd m s) := by
  unfold execRelayTestEnd
  try dsimp only
  repeat' with_reducible first
    | exact Same.refl _
    | refine SameO.next ?_
    | (apply Same.step (State.evalRelay_same ..); decide)
    | (apply Same.step (State.onLedger_same ..); decide)
    | refine Same.ite ?_ ?_

end Sys2Proof.Machine
end

