-- ==== Sys2Proof/Laws/FrameCalendar.lean ====
section
/-! SUPPORT. What each function of Calendar can change: the mask of the parts, and never what `Same` forbids. -/
namespace Sys2Proof.Machine

theorem State.refillFrom_same (s : State) (cut : Option (Nat × Nat × Int)) :
    Same 0x100000 s (State.refillFrom s cut) := by
  unfold State.refillFrom
  try dsimp only
  repeat' with_reducible first
    | exact Same.refl _
    | (apply Same.step (State.onTariff_same ..); decide)

theorem State.refillTable_same (s : State) :
    Same 0x100000 s (State.refillTable s) := by
  unfold State.refillTable
  try dsimp only
  repeat' with_reducible first
    | exact Same.refl _
    | (apply Same.step (State.refillFrom_same ..); decide)

end Sys2Proof.Machine
end

