-- ==== Sys2Proof/Laws/FrameBoundary.lean ====
section
/-! SUPPORT. What each function of Boundary can change: the mask of the parts, and never what `Same` forbids. -/
namespace Sys2Proof.Machine

theorem State.refine_same (s : State) :
    Same 0x100000 s (State.refine s) := by
  unfold State.refine
  try dsimp only
  repeat' with_reducible first
    | exact Same.refl _
    | (apply Same.step (State.onTariff_same ..); decide)

theorem State.planState_same (s : State) (e : Entry) :
    Same 0x100000 s (State.planState s e) := by
  unfold State.planState
  try dsimp only
  repeat' with_reducible first
    | exact Same.refl _
    | (apply Same.step (State.onTariff_same ..); decide)
    | refine Same.ite ?_ ?_

theorem State.activatePlan_same (s : State) (e : Entry) (exec : Nat) :
    Same 0x900000 s (State.activatePlan s e exec) := by
  unfold State.activatePlan
  try dsimp only
  repeat' with_reducible first
    | exact Same.refl _
    | (apply Same.step (State.raise_same ..); decide)
    | (apply Same.step (State.onTariff_same ..); decide)
    | refine Same.ite ?_ ?_

theorem State.aheadState_same (s : State) (c : Commit) :
    Same 0x10000 s (State.aheadState s c) := by
  unfold State.aheadState
  exact Same.set_points s _ (List.length_mapIdx ..)

theorem State.openCommit_same (s : State) (c : Commit) (es : List Entry) (live : Bool) :
    Same 0x910000 s (State.openCommit s c es live) := by
  unfold State.openCommit
  try dsimp only
  repeat' with_reducible first
    | exact Same.refl _
    | (apply Same.step (State.planState_same ..); decide)
    | (apply Same.step (State.activatePlan_same ..); decide)
    | (apply Same.step (State.aheadState_same ..); decide)
    | (apply Same.step (State.onTariff_same ..); decide)
    | refine Same.foldl (fun _ _ => ?_) ?_
    | refine Same.ite ?_ ?_

theorem State.closeProfile_same (s : State) (m plan : Nat) (c : Commit) (t : Int) :
    Same 0x2810000 s (State.closeProfile s m plan c t) := by
  unfold State.closeProfile
  extract_lets -merge x1 x2 x3 x4 x5 x6 x7 x8 x9
  refine Same.cut (w := 0x2810000) (s := s) (x := x7) (fun _ => ?_) ?_
  clear_value x7
  refine Same.cut (w := 0x2810000) (s := s) (x := x9) (fun _ => ?_) ?_
  clear_value x9
  all_goals
    repeat' with_reducible first
      | exact Same.refl _
      | assumption
      | unfold x7
      | unfold x9
      | (apply Same.step (State.q12_same ..); decide)
      | (apply Same.step (State.onPoint_same ..); decide)
      | (apply Same.step (State.raise_same ..); decide)
      | unfold x1
      | unfold x6
      | unfold x8
      | refine Same.ite ?_ ?_

theorem State.closeSub_same (s : State) (m plan : Nat) (c : Commit) (t : Int) :
    Same 0x10000 s (State.closeSub s m plan c t).1 := by
  unfold State.closeSub
  try dsimp only
  repeat' with_reducible first
    | exact Same.refl _
    | (apply Same.step (State.onPoint_same ..); decide)

theorem State.onCommit_same (s : State) (q : Nat) (f : Commit → Commit) :
    Same 0x100000 s (State.onCommit s q f) := by
  unfold State.onCommit
  try dsimp only
  repeat' with_reducible first
    | exact Same.refl _
    | (apply Same.step (State.onTariff_same ..); decide)

theorem State.dailyCharge_same (s : State) (m : Nat) (t : Int) (exec : Nat) :
    Same 0x2810000 s (State.dailyCharge s m t exec) := by
  unfold State.dailyCharge
  try dsimp only
  repeat' with_reducible first
    | exact Same.refl _
    | (apply Same.step (State.writePoint_same ..); decide)
    | (apply Same.step (State.setCredit_same ..); decide)
    | (apply Same.step (State.onLedger_same ..); decide)
    | refine Same.ite ?_ ?_

theorem State.takeSnapshot_same (s : State) (m : Nat) (c : Commit) (e : Entry) :
    Same 0x2110000 s (State.takeSnapshot s m c e) := by
  unfold State.takeSnapshot
  extract_lets -merge x1 x2 x3 x4 x5 x6
  refine Same.cut (w := 0x2110000) (s := s) (x := x5) (fun _ => ?_) ?_
  clear_value x5
  refine Same.cut (w := 0x2110000) (s := s) (x := x6) (fun _ => ?_) ?_
  clear_value x6
  all_goals
    repeat' with_reducible first
      | exact Same.refl _
      | assumption
      | unfold x5
      | unfold x6
      | (apply Same.step (State.q12_same ..); decide)
      | (apply Same.step (State.onPoint_same ..); decide)
      | (apply Same.step (State.onTariff_same ..); decide)
      | unfold x1
      | unfold x3
      | refine Same.ite ?_ ?_

theorem State.closeDone_same (s : State) (m instant : Nat) (took : Bool) :
    Same 0x100080 s (State.closeDone s m instant took) := by
  unfold State.closeDone
  try dsimp only
  repeat' with_reducible first
    | exact Same.refl _
    | (apply Same.step (State.onTariff_same ..); decide)
    | (apply Same.step (State.onWaiting_same ..); decide)
    | refine Same.foldl (fun _ _ => ?_) ?_

theorem State.entrySteps_same (s : State) (m : Nat) (c : Commit) (e : Entry) :
    Same 0x2910080 s (State.entrySteps s m c e) := by
  unfold State.entrySteps
  try dsimp only
  repeat' with_reducible first
    | exact Same.refl _
    | (apply Same.step (State.closeSub_same ..); decide)
    | (apply Same.step (State.onCommit_same ..); decide)
    | (apply Same.step (State.dailyCharge_same ..); decide)
    | (apply Same.step (State.closeProfile_same ..); decide)
    | (apply Same.step (State.onPoint_same ..); decide)
    | (apply Same.step (State.takeSnapshot_same ..); decide)
    | (apply Same.step (State.closeDone_same ..); decide)
    | refine Same.ite ?_ ?_
    | split

theorem State.pointSteps_same (s : State) (m : Nat) (c : Commit) :
    Same 0x2910080 s (State.pointSteps s m c) := by
  unfold State.pointSteps
  try dsimp only
  repeat' with_reducible first
    | exact Same.refl _
    | (apply Same.step (State.closeProfile_same ..); decide)
    | (apply Same.step (State.closeSub_same ..); decide)
    | (apply Same.step (State.entrySteps_same ..); decide)
    | (apply Same.step (State.onPoint_same ..); decide)
    | refine Same.foldl (fun _ _ => ?_) ?_
    | refine Same.ite ?_ ?_
    | split

theorem execBoundaryTableLow_same (s : State) :
    SameO 0x900000 s (execBoundaryTableLow s) := by
  unfold execBoundaryTableLow
  try dsimp only
  repeat' with_reducible first
    | exact Same.refl _
    | refine SameO.next ?_
    | (apply Same.step (State.raise_same ..); decide)
    | (apply Same.step (State.onTariff_same ..); decide)
    | refine Same.ite ?_ ?_

theorem State.stepsBefore_same (s : State) (m from_ : Nat) :
    Same 0x2910080 s (State.stepsBefore s m from_) := by
  unfold State.stepsBefore
  try dsimp only
  repeat' with_reducible first
    | exact Same.refl _
    | (apply Same.step (State.pointSteps_same ..); decide)
    | refine Same.foldl (fun _ _ => ?_) ?_
    | refine Same.ite ?_ ?_

theorem State.resetDemand_same (s : State) (m : Nat) :
    Same 0x810000 s (State.resetDemand s m) := by
  unfold State.resetDemand
  try dsimp only
  repeat' with_reducible first
    | exact Same.refl _
    | (apply Same.step (State.onPoint_same ..); decide)
    | (apply Same.step (State.note_same ..); decide)

theorem State.applyDemandResets_same (s : State) :
    Same 0x910080 s (State.applyDemandResets s) := by
  unfold State.applyDemandResets
  try dsimp only
  repeat' with_reducible first
    | exact Same.refl _
    | (apply Same.step (State.resetDemand_same ..); decide)
    | (apply Same.step (State.onWaiting_same ..); decide)
    | (apply Same.step (State.onTariff_same ..); decide)
    | refine Same.foldl (fun _ _ => ?_) ?_
    | refine Same.ite ?_ ?_
    | split

theorem State.openDue_same (s : State) (n : Nat) :
    Same 0x910000 s (State.openDue n s) := by
  induction n generalizing s with
  | zero =>
    unfold State.openDue
    try dsimp only
    repeat' with_reducible first
      | exact Same.refl _
  | succ n ih =>
    unfold State.openDue
    try dsimp only
    repeat' with_reducible first
      | exact Same.refl _
      | (apply Same.step (State.onTariff_same ..); decide)
      | (apply Same.step (State.openCommit_same ..); decide)
      | (apply Same.step (ih ..); decide)
      | refine Same.ite ?_ ?_
      | split

theorem State.openDueAll_same (s : State) :
    Same 0x910000 s (State.openDueAll s) := by
  unfold State.openDueAll
  try dsimp only
  repeat' with_reducible first
    | exact Same.refl _
    | (apply Same.step (State.openDue_same ..); decide)

theorem State.finishCommit_same (s : State) (c : Commit) :
    Same 0x2900000 s (State.finishCommit s c) := by
  unfold State.finishCommit
  extract_lets -merge x1 x2 x3 x4 x5 x6
  refine Same.cut (w := 0x2900000) (s := s) (x := x1) (fun _ => ?_) ?_
  clear_value x1
  refine Same.cut (w := 0x2900000) (s := s) (x := x4) (fun _ => ?_) ?_
  clear_value x4
  refine Same.cut (w := 0x2900000) (s := s) (x := x5) (fun _ => ?_) ?_
  clear_value x5
  refine Same.cut (w := 0x2900000) (s := s) (x := x6) (fun _ => ?_) ?_
  clear_value x6
  all_goals
    repeat' with_reducible first
      | exact Same.refl _
      | assumption
      | unfold x1
      | unfold x4
      | unfold x5
      | unfold x6
      | (apply Same.step (State.onTariff_same ..); decide)
      | (apply Same.step (State.q12_same ..); decide)
      | (apply Same.step (State.raise_same ..); decide)
      | refine Same.ite ?_ ?_

theorem State.stepsAfter_same (s : State) (m last : Nat) :
    Same 0x2910080 s (State.stepsAfter s m last) := by
  unfold State.stepsAfter
  try dsimp only
  repeat' with_reducible first
    | exact Same.refl _
    | (apply Same.step (State.pointSteps_same ..); decide)
    | refine Same.foldl (fun _ _ => ?_) ?_
    | refine Same.ite ?_ ?_

theorem State.passCommits_same (s : State) (m from_ : Nat) :
    Same 0x100000 s (State.passCommits s m from_) := by
  unfold State.passCommits
  try dsimp only
  repeat' with_reducible first
    | exact Same.refl _
    | (apply Same.step (State.onTariff_same ..); decide)

theorem State.finishCommits_same (s : State) :
    Same 0x2900000 s (State.finishCommits s) := by
  unfold State.finishCommits
  try dsimp only
  repeat' with_reducible first
    | exact Same.refl _
    | (apply Same.step (State.onTariff_same ..); decide)
    | (apply Same.step (State.finishCommit_same ..); decide)
    | refine Same.foldl (fun _ _ => ?_) ?_

theorem execBoundaryFreeze_same (s : State) :
    SameO 0x100000 s (execBoundaryFreeze s) := by
  unfold execBoundaryFreeze
  try dsimp only
  repeat' with_reducible first
    | exact Same.refl _
    | refine SameO.next ?_
    | (apply Same.step (State.onTariff_same ..); decide)

end Sys2Proof.Machine
end

