-- ==== Sys2Proof/Laws/FrameTakeback.lean ====
section
/-! SUPPORT. What each function of Takeback can change: the mask of the parts, and never what `Same` forbids. -/
namespace Sys2Proof.Machine

theorem State.question_same (s : State) (m code : Nat) (hit : Nat → Nat → Bool) :
    Same 0x802000 s (State.question s m code hit) := by
  unfold State.question
  try dsimp only
  repeat' with_reducible first
    | exact Same.refl _
    | (apply Same.step (State.onEngine_same ..); decide)
    | (apply Same.step (State.note_same ..); decide)
    | refine Same.foldl (fun _ _ => ?_) ?_

theorem State.countTakeback_same (s : State) :
    Same 0x802000 s (State.countTakeback s) := by
  unfold State.countTakeback
  extract_lets -merge x1 x2 x3 x4
  refine Same.cut (w := 0x802000) (s := s) (x := x3) (fun _ => ?_) ?_
  clear_value x3
  refine Same.cut (w := 0x802000) (s := s) (x := x4) (fun _ => ?_) ?_
  clear_value x4
  all_goals
    repeat' with_reducible first
      | exact Same.refl _
      | assumption
      | unfold x3
      | unfold x4
      | (apply Same.step (State.onEngine_same ..); decide)
      | (apply Same.step (State.raise_same ..); decide)
      | refine Same.ite ?_ ?_

theorem State.takeback_same (s : State) (code : Nat) (pts : Nat → Bool) (hit : Nat → Nat → Bool) :
    Same 0x812000 s (State.takeback s code pts hit) := by
  unfold State.takeback
  extract_lets -merge x1 x2 x3 x4 x5
  refine Same.cut (w := 0x812000) (s := s) (x := x1) (fun _ => ?_) ?_
  clear_value x1
  refine Same.cut (w := 0x812000) (s := s) (x := x5) (fun _ => ?_) ?_
  clear_value x5
  all_goals
    repeat' with_reducible first
      | exact Same.refl _
      | assumption
      | unfold x1
      | unfold x5
      | (apply Same.step (State.question_same ..); decide)
      | (apply Same.step (State.onEngine_same ..); decide)
      | (apply Same.step (State.note_same ..); decide)
      | (apply Same.step (State.onPoint_same ..); decide)
      | (apply Same.step (State.countTakeback_same ..); decide)
      | refine Same.foldl (fun _ _ => ?_) ?_
      | unfold x2
      | unfold x3
      | unfold x4
      | refine Same.ite ?_ ?_

theorem State.tableChanged_same (s : State) (before : List PastInstant) :
    Same 0x812000 s (State.tableChanged s before) := by
  unfold State.tableChanged
  try dsimp only
  repeat' with_reducible first
    | exact Same.refl _
    | (apply Same.step (State.takeback_same ..); decide)
    | refine Same.foldl (fun _ _ => ?_) ?_

theorem State.rewriteFrom_same (s : State) (cut : Option (Nat × Nat × Int)) :
    Same 0x912000 s (State.rewriteFrom s cut) := by
  unfold State.rewriteFrom
  try dsimp only
  repeat' with_reducible first
    | exact Same.refl _
    | (apply Same.step (State.tableChanged_same ..); decide)
    | (apply Same.step (State.refillFrom_same ..); decide)

theorem State.rewriteTable_same (s : State) :
    Same 0x912000 s (State.rewriteTable s) := by
  unfold State.rewriteTable
  try dsimp only
  repeat' with_reducible first
    | exact Same.refl _
    | (apply Same.step (State.rewriteFrom_same ..); decide)

theorem execBoundaryTableRefill_same (s : State) :
    SameO 0x912000 s (execBoundaryTableRefill s) := by
  unfold execBoundaryTableRefill
  try dsimp only
  repeat' with_reducible first
    | exact Same.refl _
    | refine SameO.next ?_
    | (apply Same.step (State.rewriteTable_same ..); decide)
    | (apply Same.step (State.onTariff_same ..); decide)
    | refine Same.ite ?_ ?_

end Sys2Proof.Machine
end

