-- ==== Sys2Proof/Laws/FrameTime.lean ====
section
/-! SUPPORT. What each function of Time can change: the mask of the parts, and never what `Same` forbids. -/
namespace Sys2Proof.Machine

theorem State.intervalWritten_same (s : State) (i value : Nat) :
    Same 0x912000 s (State.intervalWritten s i value) := by
  unfold State.intervalWritten
  try dsimp only
  repeat' with_reducible first
    | exact Same.refl _
    | (apply Same.step (State.rewriteTable_same ..); decide)
    | (apply Same.step (State.onTariff_same ..); decide)

theorem State.driftEvent_same (s : State) (cause : Nat) (rate : Int) :
    Same 0x800000 s (State.driftEvent s cause rate) := by
  unfold State.driftEvent
  try dsimp only
  repeat' with_reducible first
    | exact Same.refl _
    | (apply Same.step (State.raise_same ..); decide)

theorem State.reinstant_same (s : State) :
    Same 0x100000 s (State.reinstant s) := by
  unfold State.reinstant
  try dsimp only
  repeat' with_reducible first
    | exact Same.refl _
    | (apply Same.step (State.onTariff_same ..); decide)

theorem State.restartTable_same (s : State) (from_ : Int) :
    Same 0x100000 s (State.restartTable s from_) := by
  unfold State.restartTable
  try dsimp only
  repeat' with_reducible first
    | exact Same.refl _
    | (apply Same.step (State.refillTable_same ..); decide)
    | (apply Same.step (State.onTariff_same ..); decide)
    | (apply Same.step (State.reinstant_same ..); decide)

theorem State.cutWindows_same (s : State) :
    Same 0x80800 s (State.cutWindows s) := by
  unfold State.cutWindows
  try dsimp only
  repeat' with_reducible first
    | exact Same.refl _
    | (apply Same.step (State.eachChan_same ..); decide)
    | (apply Same.step (State.eachGroup_same ..); decide)

theorem State.applySetTime_same (s : State) (q : SetTimeReq) :
    Same 0x992890 s (State.applySetTime s q) := by
  unfold State.applySetTime
  extract_lets -merge x1 x2 x3 x4 x5 x6 x7 x8 x9 x10 x11 x12 x13 x14
  refine Same.cut (w := 0x992890) (s := s) (x := x5) (fun _ => ?_) ?_
  clear_value x5
  refine Same.cut (w := 0x992890) (s := s) (x := x6) (fun _ => ?_) ?_
  clear_value x6
  refine Same.cut (w := 0x992890) (s := s) (x := x8) (fun _ => ?_) ?_
  clear_value x8
  refine Same.cut (w := 0x992890) (s := s) (x := x9) (fun _ => ?_) ?_
  clear_value x9
  refine Same.cut (w := 0x992890) (s := s) (x := x11) (fun _ => ?_) ?_
  clear_value x11
  refine Same.cut (w := 0x992890) (s := s) (x := x12) (fun _ => ?_) ?_
  clear_value x12
  refine Same.cut (w := 0x992890) (s := s) (x := x14) (fun _ => ?_) ?_
  clear_value x14
  all_goals
    repeat' with_reducible first
      | exact Same.refl _
      | assumption
      | unfold x5
      | unfold x6
      | unfold x8
      | unfold x9
      | unfold x11
      | unfold x12
      | unfold x14
      | (apply Same.step (State.openCommit_same ..); decide)
      | (apply Same.step (State.placeAnchor_same ..); decide)
      | (apply Same.step (State.onClock_same ..) <;> first | decide | exact fun _ => rfl | (intro _; split <;> rfl) | show Same _ _ _)
      | (apply Same.step (State.raise_same ..); decide)
      | (apply Same.step (State.driftEvent_same ..); decide)
      | (apply Same.step (State.restartTable_same ..); decide)
      | (apply Same.step (State.cutWindows_same ..); decide)
      | (apply Same.step (State.takeback_same ..); decide)
      | (apply Same.step (State.onWaiting_same ..); decide)
      | unfold x7
      | unfold x10
      | refine Same.ite ?_ ?_
      | dsimp only
      | split

theorem State.applySetTimes_same (s : State) :
    Same 0x992890 s (State.applySetTimes s) := by
  unfold State.applySetTimes
  try dsimp only
  repeat' with_reducible first
    | exact Same.refl _
    | (apply Same.step (State.applySetTime_same ..); decide)
    | (apply Same.step (State.onClock_same ..) <;> first | decide | exact fun _ => rfl | (intro _; split <;> rfl) | show Same _ _ _)
    | refine Same.foldl (fun _ _ => ?_) ?_

theorem cmdSetTime_same (s : State) (r : Request) :
    SameE 0x4000190 s (cmdSetTime s r) := by
  unfold cmdSetTime
  try dsimp only
  repeat' with_reducible first
    | exact Same.refl _
    | assumption
    | refine SameE.ok ?_
    | (apply SameE.bindS (SameE.step (order5_same ..) ?_ ?_) ?_ <;> first | decide | intro _ _ | skip)
    | (apply Same.step (State.replyOk_same ..); decide)
    | (apply Same.step (State.onClock_same ..) <;> first | decide | exact fun _ => rfl | (intro _; split <;> rfl) | show Same _ _ _)
    | refine SameE.bind (fun _ => ?_)
    | refine SameE.ite ?_ ?_

theorem cmdAdjustTime_same (s : State) (r : Request) :
    SameE 0x190 s (cmdAdjustTime s r) := by
  unfold cmdAdjustTime
  try dsimp only
  repeat' with_reducible first
    | exact Same.refl _
    | refine SameE.ok ?_
    | (apply Same.step (State.onClock_same ..) <;> first | decide | exact fun _ => rfl | (intro _; split <;> rfl) | show Same _ _ _)
    | (apply Same.step (State.replyOk_same ..); decide)
    | refine SameE.bind (fun _ => ?_)

theorem cmdLoadPlan_same (s : State) (r : Request) :
    SameE 0x4000180 s (cmdLoadPlan s r) := by
  unfold cmdLoadPlan
  try dsimp only
  repeat' with_reducible first
    | exact Same.refl _
    | exact SameE.error
    | refine SameE.ok ?_
    | (apply Same.step (State.replyOk_same ..); decide)
    | (apply Same.step (State.onSec_same ..); decide)
    | (apply Same.step (State.accept_same (by assumption)); decide)
    | refine SameE.bind (fun _ => ?_)
    | refine SameE.ite ?_ ?_
    | split

theorem cmdReadBoundaries_same (s : State) (r : Request) :
    SameE 0x180 s (cmdReadBoundaries s r) := by
  unfold cmdReadBoundaries
  try dsimp only
  repeat' with_reducible first
    | exact Same.refl _
    | refine SameE.ok ?_
    | (apply Same.step (State.replyOk_same ..); decide)
    | refine SameE.bind (fun _ => ?_)
    | refine SameE.ite ?_ ?_

theorem cmdBillingClose_same (s : State) (r : Request) :
    SameE 0x2100180 s (cmdBillingClose s r) := by
  unfold cmdBillingClose
  try dsimp only
  repeat' with_reducible first
    | exact Same.refl _
    | refine SameE.ok ?_
    | (apply Same.step (State.onTariff_same ..); decide)
    | (apply Same.step (State.writeSequencer_same ..); decide)
    | (apply Same.step (State.replyOk_same ..); decide)
    | refine SameE.bind (fun _ => ?_)
    | refine SameE.ite ?_ ?_

theorem cmdDemandReset_same (s : State) (r : Request) :
    SameE 0x100180 s (cmdDemandReset s r) := by
  unfold cmdDemandReset
  try dsimp only
  repeat' with_reducible first
    | exact Same.refl _
    | refine SameE.ok ?_
    | (apply Same.step (State.onTariff_same ..); decide)
    | (apply Same.step (State.replyOk_same ..); decide)
    | refine SameE.bind (fun _ => ?_)

theorem State.planDone_same (s : State) (p : Nat) (j : SecJob) (poisoned : Bool) :
    Same 0x16912080 s (State.planDone s p j poisoned) := by
  unfold State.planDone
  try dsimp only
  repeat' with_reducible first
    | exact Same.refl _
    | (apply Same.step (State.finish_same ..); decide)
    | (apply Same.step (State.authFail_same ..); decide)
    | (apply Same.step (State.pkgFail_same ..); decide)
    | (apply Same.step (State.takeSeq_same ..); decide)
    | (apply Same.step (State.configWrite_same ..); decide)
    | (apply Same.step (State.writeSeal_same ..); decide)
    | (apply Same.step (State.commitOp_same ..); decide)
    | (apply Same.step (State.onTariff_same ..); decide)
    | (apply Same.step (State.rewriteFrom_same ..); decide)
    | refine Same.ite ?_ ?_
    | split

theorem State.pruneCloses_same (s : State) :
    Same 0x100080 s (State.pruneCloses s) := by
  unfold State.pruneCloses
  try dsimp only
  repeat' with_reducible first
    | exact Same.refl _
    | (apply Same.step (State.closeDone_same ..); decide)
    | refine Same.foldl (fun _ _ => ?_) ?_

theorem execSlewComplete_same (s : State) :
    SameO 0x10 s (execSlewComplete s) := by
  unfold execSlewComplete
  try dsimp only
  repeat' with_reducible first
    | exact Same.refl _
    | refine SameO.next ?_
    | (apply Same.step (State.onClock_same ..) <;> first | decide | exact fun _ => rfl | (intro _; split <;> rfl) | show Same _ _ _)
    | refine Same.ite ?_ ?_

theorem execZoneChange_same (s : State) :
    SameO 0x992810 s (execZoneChange s) := by
  unfold execZoneChange
  try dsimp only
  repeat' with_reducible first
    | exact Same.refl _
    | refine SameO.next ?_
    | (apply Same.step (State.onTariff_same ..); decide)
    | (apply Same.step (State.openCommit_same ..); decide)
    | (apply Same.step (State.restartTable_same ..); decide)
    | (apply Same.step (State.cutWindows_same ..); decide)
    | (apply Same.step (State.placeAnchor_same ..); decide)
    | (apply Same.step (State.takeback_same ..); decide)
    | refine Same.ite ?_ ?_
    | split

theorem execAnchor_same (s : State) :
    SameO 0x912010 s (execAnchor s) := by
  unfold execAnchor
  try dsimp only
  repeat' with_reducible first
    | exact Same.refl _
    | refine SameO.next ?_
    | (apply Same.step (State.tableChanged_same ..); decide)
    | (apply Same.step (State.refine_same ..); decide)
    | (apply Same.step (State.placeAnchor_same ..); decide)
    | refine Same.ite ?_ ?_

theorem execRtcCorrection_same (t16 : Int) (s : State) :
    SameO 0x1810034 s (execRtcCorrection t16 s) := by
  unfold execRtcCorrection
  try dsimp only
  repeat' with_reducible first
    | exact Same.refl _
    | refine SameO.next ?_
    | (apply Same.step (State.onClock_same ..) <;> first | decide | exact fun _ => rfl | (intro _; split <;> rfl) | show Same _ _ _)
    | (apply Same.step (State.raiseAlarm_same ..); decide)
    | (apply Same.step (State.clearAlarm_same ..); decide)
    | refine Same.ite ?_ ?_

theorem execRtcDriftCheck_same (s : State) :
    SameO 0x800010 s (execRtcDriftCheck s) := by
  unfold execRtcDriftCheck
  try dsimp only
  repeat' with_reducible first
    | exact Same.refl _
    | refine SameO.next ?_
    | (apply Same.step (State.onClock_same ..) <;> first | decide | exact fun _ => rfl | (intro _; split <;> rfl) | show Same _ _ _)
    | (apply Same.step (State.driftEvent_same ..); decide)
    | refine Same.ite ?_ ?_
    | split

end Sys2Proof.Machine
end

