-- ==== Sys2Proof/Laws/FrameEnergy.lean ====
section
/-! SUPPORT. What each function of Energy can change: the mask of the parts, and never what `Same` forbids. -/
namespace Sys2Proof.Machine

theorem cmdSetBalanceGroup_same (s : State) (r : Request) :
    SameE 0x12080180 s (cmdSetBalanceGroup s r) := by
  unfold cmdSetBalanceGroup
  try dsimp only
  repeat' with_reducible first
    | exact Same.refl _
    | refine SameE.ok ?_
    | (apply Same.step (State.onGroup_same ..); decide)
    | (apply Same.step (State.replyOk_same ..); decide)
    | (apply Same.step (State.configWrite_same ..); decide)
    | refine SameE.bind (fun _ => ?_)

theorem cmdPulseAssign_same (s : State) (r : Request) :
    SameE 0x12040180 s (cmdPulseAssign s r) := by
  unfold cmdPulseAssign
  try dsimp only
  repeat' with_reducible first
    | exact Same.refl _
    | refine SameE.ok ?_
    | (apply Same.step (State.configWrite_same ..); decide)
    | (apply Same.step (State.onPulse_same ..); decide)
    | (apply Same.step (State.replyOk_same ..); decide)
    | refine SameE.bind (fun _ => ?_)

theorem State.nextWindow_same (s : State) (g : Nat) :
    Same 0x90000 s (State.nextWindow s g) := by
  unfold State.nextWindow
  try dsimp only
  repeat' with_reducible first
    | exact Same.refl _
    | (apply Same.step (State.onGroup_same ..); decide)
    | (apply Same.step (State.eachPoint_same ..); decide)

theorem State.evaluateWindow_same (s : State) (g : Nat) :
    Same 0x1810024 s (State.evaluateWindow s g) := by
  unfold State.evaluateWindow
  try dsimp only
  repeat' with_reducible first
    | exact Same.refl _
    | (apply Same.step (State.raiseAlarm_same ..); decide)
    | (apply Same.step (State.clearAlarm_same ..); decide)
    | refine Same.ite ?_ ?_

theorem execBalanceWindow_same (g : Nat) (s : State) :
    SameO 0x1890024 s (execBalanceWindow g s) := by
  unfold execBalanceWindow
  try dsimp only
  repeat' with_reducible first
    | exact Same.refl _
    | refine SameO.next ?_
    | (apply Same.step (State.nextWindow_same ..); decide)
    | (apply Same.step (State.evaluateWindow_same ..); decide)
    | refine Same.ite ?_ ?_

theorem State.applyPulses_same (s : State) :
    Same 0x40000 s (State.applyPulses s) := by
  unfold State.applyPulses
  try dsimp only
  repeat' with_reducible first
    | exact Same.refl _
    | (apply Same.step (State.eachPulse_same ..); decide)

theorem State.countFilled_same (s : State) :
    Same 0x2000 s (State.countFilled s) := by
  unfold State.countFilled
  try dsimp only
  repeat' with_reducible first
    | exact Same.refl _
    | (apply Same.step (State.onEngine_same ..); decide)

theorem State.legalWrap_same (s : State) (m i old : Nat) :
    Same 0x800000 s (State.legalWrap s m i old) := by
  unfold State.legalWrap
  try dsimp only
  repeat' with_reducible first
    | exact Same.refl _
    | (apply Same.step (State.raise_same ..); decide)
    | refine Same.ite ?_ ?_

theorem State.reverseWatch_same (s : State) (m q sFirst : Nat) :
    Same 0x1810024 s (State.reverseWatch s m q sFirst) := by
  unfold State.reverseWatch
  extract_lets -merge x1 x2 x3 x4 x5 x6 x7
  refine Same.cut (w := 0x1810024) (s := s) (x := x5) (fun _ => ?_) ?_
  clear_value x5
  refine Same.cut (w := 0x1810024) (s := s) (x := x7) (fun _ => ?_) ?_
  clear_value x7
  all_goals
    repeat' with_reducible first
      | exact Same.refl _
      | assumption
      | unfold x5
      | unfold x7
      | (apply Same.step (State.clearAlarm_same ..); decide)
      | (apply Same.step (State.onPoint_same ..); decide)
      | (apply Same.step (State.raiseAlarm_same ..); decide)
      | unfold x1
      | unfold x2
      | unfold x3
      | unfold x4
      | unfold x6
      | refine Same.ite ?_ ?_

theorem State.balanceAdd_same (s : State) (r : SegRec) :
    Same 0x90000 s (State.balanceAdd s r) := by
  unfold State.balanceAdd
  try dsimp only
  repeat' with_reducible first
    | exact Same.refl _
    | (apply Same.step (State.onPoint_same ..); decide)
    | (apply Same.step (State.onGroup_same ..); decide)
    | refine Same.foldl (fun _ _ => ?_) ?_
    | refine Same.ite ?_ ?_

theorem State.applyIncrements_same (s : State) (r : SegRec) (b : Binding) (inc : List Nat) :
    Same 0x3BD00A4 s (State.applyIncrements s r b inc) := by
  unfold State.applyIncrements
  extract_lets -merge x1 x2 x3 x4 x5 x6 x7 x8 x9 x10 x11 x12 x13 x14 x15 x16 x17
  refine Same.cut (w := 0x3BD00A4) (s := s) (x := x2) (fun _ => ?_) ?_
  clear_value x2
  refine Same.cut (w := 0x3BD00A4) (s := s) (x := x8) (fun _ => ?_) ?_
  clear_value x8
  refine Same.cut (w := 0x3BD00A4) (s := s) (x := x9) (fun _ => ?_) ?_
  clear_value x9
  refine Same.cut (w := 0x3BD00A4) (s := s) (x := x10) (fun _ => ?_) ?_
  clear_value x10
  refine Same.cut (w := 0x3BD00A4) (s := s) (x := x11) (fun _ => ?_) ?_
  clear_value x11
  refine Same.cut (w := 0x3BD00A4) (s := s) (x := x12) (fun _ => ?_) ?_
  clear_value x12
  refine Same.cut (w := 0x3BD00A4) (s := s) (x := x13) (fun _ => ?_) ?_
  clear_value x13
  refine Same.cut (w := 0x3BD00A4) (s := s) (x := x14) (fun _ => ?_) ?_
  clear_value x14
  refine Same.cut (w := 0x3BD00A4) (s := s) (x := x15) (fun _ => ?_) ?_
  clear_value x15
  refine Same.cut (w := 0x3BD00A4) (s := s) (x := x16) (fun _ => ?_) ?_
  clear_value x16
  refine Same.cut (w := 0x3BD00A4) (s := s) (x := x17) (fun _ => ?_) ?_
  clear_value x17
  all_goals
    repeat' with_reducible first
      | exact Same.refl _
      | assumption
      | unfold x2
      | unfold x8
      | unfold x9
      | unfold x10
      | unfold x11
      | unfold x12
      | unfold x13
      | unfold x14
      | unfold x15
      | unfold x16
      | unfold x17
      | (apply Same.step (State.stepsBefore_same ..); decide)
      | (apply Same.step (State.onPoint_same ..); decide)
      | (apply Same.step (State.legalWrap_same ..); decide)
      | (apply Same.step (State.deduct_same ..); decide)
      | (apply Same.step (State.powerLimit_same ..); decide)
      | (apply Same.step (State.reverseWatch_same ..); decide)
      | (apply Same.step (State.eachPulse_same ..); decide)
      | (apply Same.step (State.balanceAdd_same ..); decide)
      | (apply Same.step (State.stepsAfter_same ..); decide)
      | (apply Same.step (State.passCommits_same ..); decide)
      | (apply Same.step (State.writePoint_same ..); decide)
      | (apply Same.step (State.evalRelay_same ..); decide)
      | unfold x1
      | unfold x3
      | unfold x4
      | unfold x5
      | unfold x6
      | refine Same.ite ?_ ?_

theorem State.applySegment_same (s : State) (r : SegRec) (b : Binding) :
    Same 0x3BD00A4 s (State.applySegment s r b) := by
  unfold State.applySegment
  try dsimp only
  repeat' with_reducible first
    | exact Same.refl _
    | (apply Same.step (State.applyIncrements_same ..); decide)

theorem State.fillGap_same (s : State) (r : SegRec) (b : Binding) :
    Same 0x3BD20A4 s (State.fillGap s r b) := by
  unfold State.fillGap
  try dsimp only
  repeat' with_reducible first
    | exact Same.refl _
    | (apply Same.step (State.onEngine_same ..); decide)
    | (apply Same.step (State.applySegment_same ..); decide)
    | refine Same.ite ?_ ?_
    | split

theorem State.takeSegment_same (s : State) (upsets : List (Nat × Nat)) :
    Same 0x3BD62A4 s (State.takeSegment s upsets) := by
  unfold State.takeSegment
  extract_lets -merge x1 x2 x3
  refine Same.cut (w := 0x3BD62A4) (s := s) (x := x2) (fun _ => ?_) ?_
  clear_value x2
  refine Same.cut (w := 0x3BD62A4) (s := s) (x := x3) (fun _ => ?_) ?_
  clear_value x3
  all_goals
    repeat' with_reducible first
      | exact Same.refl _
      | assumption
      | unfold x2
      | unfold x3
      | (apply Same.step (State.onQ8_same ..); decide)
      | (apply Same.step (State.poisonedN_same ..); decide)
      | (apply Same.step (State.applySegment_same ..); decide)
      | (apply Same.step (State.fillGap_same ..); decide)
      | (apply Same.step (State.countFilled_same ..); decide)
      | unfold x1
      | refine Same.ite ?_ ?_
      | split

theorem State.drainSegments_same (s : State) :
    Same 0x3BD62A4 s (State.drainSegments s) := by
  unfold State.drainSegments
  try dsimp only
  repeat' with_reducible first
    | exact Same.refl _
    | (apply Same.step (State.takeSegment_same ..); decide)
    | refine Same.foldl (fun _ _ => ?_) ?_

theorem execPulseEdge_same (out : Nat) (s : State) :
    SameO 0x40000 s (execPulseEdge out s) := by
  unfold execPulseEdge
  try dsimp only
  repeat' with_reducible first
    | exact Same.refl _
    | refine SameO.next ?_
    | (apply Same.step (State.onPulse_same ..); decide)

end Sys2Proof.Machine
end

