-- ==== Sys2Proof/Laws/FrameProtocol.lean ====
section
/-! SUPPORT. What each function of Protocol can change: the mask of the parts, and never what `Same` forbids. -/
namespace Sys2Proof.Machine

theorem cmdGetIdentity_same (s : State) (r : Request) :
    SameE 0x10000180 s (cmdGetIdentity s r) := by
  unfold cmdGetIdentity
  try dsimp only
  repeat' with_reducible first
    | exact Same.refl _
    | refine SameE.ok ?_
    | (apply Same.step (State.draw_same ..); decide)
    | (apply Same.step (State.replyOk_same ..); decide)
    | refine SameE.bind (fun _ => ?_)
    | refine SameE.ite ?_ ?_

theorem cmdGetStatus_same (s : State) (r : Request) :
    SameE 0x180 s (cmdGetStatus s r) := by
  unfold cmdGetStatus
  try dsimp only
  repeat' with_reducible first
    | exact Same.refl _
    | refine SameE.ok ?_
    | (apply Same.step (State.replyOk_same ..); decide)
    | refine SameE.bind (fun _ => ?_)

theorem cmdReadNotify_same (s : State) (r : Request) :
    SameE 0x10000180 s (cmdReadNotify s r) := by
  unfold cmdReadNotify
  try dsimp only
  repeat' with_reducible first
    | exact Same.refl _
    | refine SameE.ok ?_
    | (apply Same.step (State.draw_same ..); decide)
    | (apply Same.step (State.replyOk_same ..); decide)
    | refine SameE.bind (fun _ => ?_)
    | split

theorem cmdAckEvents_same (s : State) (r : Request) :
    SameE 0x380 s (cmdAckEvents s r) := by
  unfold cmdAckEvents
  try dsimp only
  repeat' with_reducible first
    | exact Same.refl _
    | refine SameE.ok ?_
    | (apply Same.step (State.onPort_same ..); decide)
    | (apply Same.step (State.eachQueue_same ..); decide)
    | (apply Same.step (State.replyOk_same ..); decide)
    | refine SameE.bind (fun _ => ?_)
    | refine Same.ite ?_ ?_

theorem cmdSetEventMask_same (s : State) (r : Request) :
    SameE 0x180 s (cmdSetEventMask s r) := by
  unfold cmdSetEventMask
  try dsimp only
  repeat' with_reducible first
    | exact Same.refl _
    | refine SameE.ok ?_
    | (apply Same.step (State.replyOk_same ..); decide)
    | (apply Same.step (State.onPort_same ..); decide)
    | refine SameE.bind (fun _ => ?_)

end Sys2Proof.Machine
end

