-- ==== Sys2Proof/Laws/FrameParamCmds.lean ====
section
/-! SUPPORT. What each function of ParamCmds can change: the mask of the parts, and never what `Same` forbids. -/
namespace Sys2Proof.Machine

theorem cmdGetParam_same (s : State) (r : Request) :
    SameE 0x180 s (cmdGetParam s r) := by
  unfold cmdGetParam
  try dsimp only
  repeat' with_reducible first
    | exact Same.refl _
    | refine SameE.ok ?_
    | (apply Same.step (State.replyOk_same ..); decide)
    | refine SameE.bind (fun _ => ?_)

theorem State.commitSet_same (s : State) (items : List EffItem) (c : CommitSet) :
    Same 0x2000 s (State.commitSet s items c) := by
  unfold State.commitSet
  try dsimp only
  repeat' with_reducible first
    | exact Same.refl _
    | (apply Same.step (State.onEngine_same ..); decide)

theorem cmdSetParam_same (s : State) (r : Request) :
    SameE 0x4002180 s (cmdSetParam s r) := by
  unfold cmdSetParam
  try dsimp only
  repeat' with_reducible first
    | exact Same.refl _
    | assumption
    | refine SameE.ok ?_
    | (apply SameE.bindS (SameE.step (order5_same ..) ?_ ?_) ?_ <;> first | decide | intro _ _ | skip)
    | (apply Same.step (State.replyOk_same ..); decide)
    | (apply Same.step (State.onPort_same ..); decide)
    | (apply Same.step (State.commitSet_same ..); decide)
    | refine SameE.bind (fun _ => ?_)
    | refine SameE.ite ?_ ?_
    | split

theorem cmdGetParamBlock_same (s : State) (r : Request) :
    SameE 0x180 s (cmdGetParamBlock s r) := by
  unfold cmdGetParamBlock
  try dsimp only
  repeat' with_reducible first
    | exact Same.refl _
    | refine SameE.ok ?_
    | (apply Same.step (State.replyOk_same ..); decide)
    | refine SameE.bind (fun _ => ?_)

theorem cmdSetParamBlock_same (s : State) (r : Request) :
    SameE 0x4002180 s (cmdSetParamBlock s r) := by
  unfold cmdSetParamBlock
  try dsimp only
  repeat' with_reducible first
    | exact Same.refl _
    | assumption
    | refine SameE.ok ?_
    | (apply SameE.bindS (SameE.step (order5_same ..) ?_ ?_) ?_ <;> first | decide | intro _ _ | skip)
    | (apply Same.step (State.replyOk_same ..); decide)
    | (apply Same.step (State.onPort_same ..); decide)
    | (apply Same.step (State.commitSet_same ..); decide)
    | refine SameE.bind (fun _ => ?_)
    | refine SameE.ite ?_ ?_
    | split

theorem cmdCommitParams_same (s : State) (r : Request) :
    SameE 0x2180 s (cmdCommitParams s r) := by
  unfold cmdCommitParams
  try dsimp only
  repeat' with_reducible first
    | exact Same.refl _
    | exact SameE.error
    | refine SameE.ok ?_
    | (apply Same.step (State.onPort_same ..); decide)
    | (apply Same.step (State.replyOk_same ..); decide)
    | (apply Same.step (State.accept_same (by assumption)); decide)
    | (apply Same.step (State.finish_same ..); decide)
    | (apply Same.step (State.commitSet_same ..); decide)
    | (apply Same.step (State.commitOp_same ..); decide)
    | refine SameE.bind (fun _ => ?_)
    | refine SameE.ite ?_ ?_
    | split

end Sys2Proof.Machine
end

