-- ==== Sys2Proof/Laws/FramePoints.lean ====
section
/-! SUPPORT. What each function of Points can change: the mask of the parts, and never what `Same` forbids. -/
namespace Sys2Proof.Machine

theorem State.loadBank_same (s : State) (n taps k : Nat) (cs : List Int) :
    Same 0x2000 s (State.loadBank s n taps k cs) := by
  unfold State.loadBank
  try dsimp only
  repeat' with_reducible first
    | exact Same.refl _
    | (apply Same.step (State.onEngine_same ..); decide)

theorem State.tryLoadBank_same (s : State) (n taps k : Nat) (cs : List Int) (bytes : List Byte) :
    SameEP 0x12002C00 s (State.tryLoadBank s n taps k cs bytes) := by
  unfold State.tryLoadBank
  try dsimp only
  repeat' with_reducible first
    | exact Same.refl _
    | refine SameEP.ok ?_
    | (apply Same.step (State.onEngine_same ..); decide)
    | (apply Same.step (State.loadBank_same ..); decide)
    | (apply Same.step (State.configWrite_same ..); decide)
    | refine SameEP.bind (fun _ => ?_)

theorem cmdLoadFirBank_same (s : State) (r : Request) :
    SameE 0x12002D80 s (cmdLoadFirBank s r) := by
  unfold cmdLoadFirBank
  try dsimp only
  repeat' with_reducible first
    | assumption
    | refine SameE.ok ?_
    | (apply SameE.bindEP (State.tryLoadBank_same ..) <;> first | decide | intro _ _ | skip)
    | (apply Same.step (State.replyOk_same ..); decide)
    | refine SameE.bind (fun _ => ?_)

theorem State.initialCauses_same (s : State) (m : Nat) (b : Binding) :
    Same 0xC10000 s (State.initialCauses s m b) := by
  unfold State.initialCauses
  extract_lets -merge x1 x2 x3
  refine Same.cut (w := 0xC10000) (s := s) (x := x1) (fun _ => ?_) ?_
  clear_value x1
  refine Same.cut (w := 0xC10000) (s := s) (x := x2) (fun _ => ?_) ?_
  clear_value x2
  refine Same.cut (w := 0xC10000) (s := s) (x := x3) (fun _ => ?_) ?_
  clear_value x3
  all_goals
    repeat' with_reducible first
      | exact Same.refl _
      | assumption
      | unfold x1
      | unfold x2
      | unfold x3
      | (apply Same.step (State.setCause_same ..); decide)
      | refine Same.foldl (fun _ _ => ?_) ?_
      | refine Same.ite ?_ ?_

theorem State.gateFrom_same (s : State) (b : Binding) :
    Same 0x800 s (State.gateFrom s b) := by
  unfold State.gateFrom
  try dsimp only
  repeat' with_reducible first
    | exact Same.refl _
    | (apply Same.step (State.onChan_same ..); decide)

theorem cmdBindMp_same (s : State) (r : Request) :
    SameE 0x16C32D80 s (cmdBindMp s r) := by
  unfold cmdBindMp
  try dsimp only
  repeat' with_reducible first
    | exact Same.refl _
    | assumption
    | refine SameE.ok ?_
    | (apply SameE.bindS (SameE.step (order5_same ..) ?_ ?_) ?_ <;> first | decide | intro _ _ | skip)
    | (apply Same.step (State.onPoint_same ..); decide)
    | (apply Same.step (State.initialCauses_same ..); decide)
    | (apply Same.step (State.configWrite_same ..); decide)
    | (apply Same.step (State.setBindSeq_same ..); decide)
    | (apply Same.step (State.onEngine_same ..); decide)
    | (apply Same.step (State.replyOk_same ..); decide)
    | (apply Same.step (State.gateFrom_same ..); decide)
    | refine SameE.bind (fun _ => ?_)
    | refine SameE.ite ?_ ?_

theorem cmdUnbindMp_same (s : State) (r : Request) :
    SameE 0x16010180 s (cmdUnbindMp s r) := by
  unfold cmdUnbindMp
  try dsimp only
  repeat' with_reducible first
    | exact Same.refl _
    | assumption
    | exact SameE.error
    | refine SameE.ok ?_
    | (apply SameE.bindS (SameE.step (order5_same ..) ?_ ?_) ?_ <;> first | decide | intro _ _ | skip)
    | (apply Same.step (State.replyOk_same ..); decide)
    | (apply Same.step (State.configWrite_same ..); decide)
    | (apply Same.step (State.onPoint_same ..); decide)
    | refine SameE.bind (fun _ => ?_)
    | split

theorem cmdReadRegisters_same (s : State) (r : Request) :
    SameE 0x180 s (cmdReadRegisters s r) := by
  unfold cmdReadRegisters
  try dsimp only
  repeat' with_reducible first
    | exact Same.refl _
    | refine SameE.ok ?_
    | (apply Same.step (State.replyOk_same ..); decide)
    | refine SameE.bind (fun _ => ?_)

theorem cmdReadInstant_same (s : State) (r : Request) :
    SameE 0x180 s (cmdReadInstant s r) := by
  unfold cmdReadInstant
  try dsimp only
  repeat' with_reducible first
    | exact Same.refl _
    | refine SameE.ok ?_
    | (apply Same.step (State.replyOk_same ..); decide)
    | refine SameE.bind (fun _ => ?_)

theorem State.leaveGroups_same (s : State) (m : Nat) :
    Same 0xC0000 s (State.leaveGroups s m) := by
  unfold State.leaveGroups
  try dsimp only
  repeat' with_reducible first
    | exact Same.refl _
    | (apply Same.step (State.eachPulse_same ..); decide)
    | (apply Same.step (State.eachGroup_same ..); decide)

theorem State.unbound_same (s : State) (m : Nat) :
    Same 0x120D0000 s (State.unbound s m) := by
  unfold State.unbound
  try dsimp only
  repeat' with_reducible first
    | exact Same.refl _
    | (apply Same.step (State.onPoint_same ..); decide)
    | (apply Same.step (State.configWrite_same ..); decide)
    | (apply Same.step (State.leaveGroups_same ..); decide)

theorem State.unbindRecords_same (s : State) (m : Nat) (b : Binding) :
    Same 0x2810000 s (State.unbindRecords s m b) := by
  unfold State.unbindRecords
  extract_lets -merge x1 x2 x3 x4 x5 x6
  refine Same.cut (w := 0x2810000) (s := s) (x := x4) (fun _ => ?_) ?_
  clear_value x4
  refine Same.cut (w := 0x2810000) (s := s) (x := x5) (fun _ => ?_) ?_
  clear_value x5
  refine Same.cut (w := 0x2810000) (s := s) (x := x6) (fun _ => ?_) ?_
  clear_value x6
  all_goals
    repeat' with_reducible first
      | exact Same.refl _
      | assumption
      | unfold x4
      | unfold x5
      | unfold x6
      | (apply Same.step (State.writePoint_same ..); decide)
      | (apply Same.step (State.note_same ..); decide)
      | (apply Same.step (State.onPoint_same ..); decide)

theorem State.finishUnbind_same (s : State) (m : Nat) :
    Same 0x128D0000 s (State.finishUnbind s m) := by
  unfold State.finishUnbind
  try dsimp only
  repeat' with_reducible first
    | exact Same.refl _
    | (apply Same.step (State.unbound_same ..); decide)
    | (apply Same.step (State.unbindRecords_same ..); decide)
    | refine Same.ite ?_ ?_
    | split

theorem State.finishUnbinds_same (s : State) :
    Same 0x128D0000 s (State.finishUnbinds s) := by
  unfold State.finishUnbinds
  try dsimp only
  repeat' with_reducible first
    | exact Same.refl _
    | (apply Same.step (State.finishUnbind_same ..); decide)
    | refine Same.foldl (fun _ _ => ?_) ?_

end Sys2Proof.Machine
end

