-- ==== Sys2Proof/Laws/FrameFilter.lean ====
section
/-! SUPPORT. What each function of Filter can change: the mask of the parts, and never what `Same` forbids. -/
namespace Sys2Proof.Machine

theorem State.restartChan_same (s : State) (c at_ : Nat) (isl : Bool) :
    Same 0x800 s (State.restartChan s c at_ isl) := by
  unfold State.restartChan
  try dsimp only
  repeat' with_reducible first
    | exact Same.refl _
    | (apply Same.step (State.onChan_same ..); decide)

theorem State.overloadStart_same (s : State) (c at_ max : Nat) :
    Same 0xC00000 s (State.overloadStart s c at_ max) := by
  unfold State.overloadStart
  try dsimp only
  repeat' with_reducible first
    | exact Same.refl _
    | (apply Same.step (State.captureTrigger_same ..); decide)
    | (apply Same.step (State.report_same ..); decide)

theorem State.takeSamples_same (s : State) (c upTo : Nat) :
    Same 0xC01800 s (State.takeSamples s c upTo) := by
  unfold State.takeSamples
  extract_lets -merge x1 x2 x3 x4 x5 x6 x7 x8
  refine Same.cut (w := 0xC01800) (s := s) (x := x7) (fun _ => ?_) ?_
  clear_value x7
  refine Same.cut (w := 0xC01800) (s := s) (x := x8) (fun _ => ?_) ?_
  clear_value x8
  all_goals
    repeat' with_reducible first
      | exact Same.refl _
      | assumption
      | unfold x7
      | unfold x8
      | (apply Same.step (State.onChan_same ..); decide)
      | (apply Same.step (State.onIsland_same ..); decide)
      | (apply Same.step (State.overloadStart_same ..); decide)
      | refine Same.foldl (fun _ _ => ?_) ?_
      | unfold x1
      | unfold x2
      | unfold x3
      | unfold x4
      | unfold x5
      | refine Same.ite ?_ ?_

theorem State.runSlice_same (s : State) (c from_ upTo : Nat) :
    Same 0x800 s (State.runSlice s c from_ upTo) := by
  unfold State.runSlice
  try dsimp only
  repeat' with_reducible first
    | exact Same.refl _
    | (apply Same.step (State.onChan_same ..); decide)

theorem State.stage_same (s : State) (ds : List Delivery) :
    Same 0x800 s (State.stage s ds) := by
  unfold State.stage
  try dsimp only
  repeat' with_reducible first
    | exact Same.refl _
    | (apply Same.step (State.onChan_same ..); decide)
    | refine Same.foldl (fun _ _ => ?_) ?_

theorem State.deliverIsland_same (s : State) (a : RoundInput) (n : Nat) :
    Same 0x800A80 s (State.deliverIsland s a n) := by
  unfold State.deliverIsland
  extract_lets -merge x1 x2 x3 x4
  refine Same.cut (w := 0x800A80) (s := s) (x := x3) (fun _ => ?_) ?_
  clear_value x3
  refine Same.cut (w := 0x800A80) (s := s) (x := x4) (fun _ => ?_) ?_
  clear_value x4
  all_goals
    repeat' with_reducible first
      | exact Same.refl _
      | assumption
      | unfold x3
      | unfold x4
      | (apply Same.step (State.stage_same ..); decide)
      | (apply Same.step (State.discard_same ..); decide)
      | (apply Same.step (State.gapped_same ..); decide)
      | (apply Same.step (State.poisonedN_same ..); decide)
      | unfold x1
      | unfold x2
      | refine Same.ite ?_ ?_

theorem State.deliverAll_same (s : State) (a : RoundInput) :
    Same 0x800A80 s (State.deliverAll s a) := by
  unfold State.deliverAll
  try dsimp only
  repeat' with_reducible first
    | exact Same.refl _
    | (apply Same.step (State.deliverIsland_same ..); decide)
    | (apply Same.step (State.loseCredit_same ..); decide)
    | refine Same.foldl (fun _ _ => ?_) ?_

end Sys2Proof.Machine
end

