-- ==== Sys2Proof/Laws/FrameCross.lean ====
section
/-! SUPPORT. What each function of Cross can change: the mask of the parts, and never what `Same` forbids. -/
namespace Sys2Proof.Machine

theorem State.sendItem_same (s : State) (i : PqItem) :
    Same 0x400200 s (State.sendItem s i) := by
  unfold State.sendItem
  try dsimp only
  repeat' with_reducible first
    | exact Same.refl _
    | (apply Same.step (State.discard_same ..); decide)
    | (apply Same.step (State.onPq_same ..); decide)
    | (apply Same.step (State.onQueue_same ..); decide)
    | refine Same.ite ?_ ?_

theorem execNoCrossing_same (c : Nat) (s : State) :
    SameO 0x800 s (execNoCrossing c s) := by
  unfold execNoCrossing
  try dsimp only
  repeat' with_reducible first
    | exact Same.refl _
    | refine SameO.next ?_
    | (apply Same.step (State.onChan_same ..); decide)
    | refine Same.ite ?_ ?_

end Sys2Proof.Machine
end

