-- ==== Sys2Proof/Laws/FrameDetect.lean ====
section
/-! SUPPORT. What each function of Detect can change: the mask of the parts, and never what `Same` forbids. -/
namespace Sys2Proof.Machine

theorem State.feed_same (s : State) (q c : Nat) (flips : List (Nat × Nat)) (ws : List QWord) :
    Same 0x800280 s (State.feed s q c flips ws).1 := by
  unfold State.feed
  extract_lets -merge x1 x2 x3 x4
  refine Same.cut (w := 0x800280) (s := s) (x := x3) (fun _ => ?_) ?_
  clear_value x3
  refine Same.cut (w := 0x800280) (s := s) (x := x4) (fun _ => ?_) ?_
  clear_value x4
  all_goals
    repeat' with_reducible first
      | exact Same.refl _
      | assumption
      | unfold x3
      | unfold x4
      | (apply Same.step (State.discard_same ..); decide)
      | (apply Same.step (State.gapped_same ..); decide)
      | (apply Same.step (State.poisonedN_same ..); decide)
      | unfold x1
      | unfold x2
      | refine Same.ite ?_ ?_
      | split

theorem State.feedFor_same (s : State) (on : Bool) (q c : Nat) (flips : List WordUpset) (opens closes : Bool) (os : List Out) :
    Same 0x800280 s (State.feedFor s on q c flips opens closes os).1 := by
  unfold State.feedFor
  try dsimp only
  repeat' with_reducible first
    | exact Same.refl _
    | (apply Same.step (State.feed_same ..); decide)
    | split

theorem State.feeds_same (s : State) (a : RoundInput) (c upTo : Nat) (marks : List (Nat × Bool)) :
    Same 0x800280 s (State.feeds s a c upTo marks).1 := by
  unfold State.feeds
  try dsimp only
  repeat' with_reducible first
    | exact Same.refl _
    | (apply Same.step (State.feedFor_same ..); decide)

theorem State.secondEnds_same (s : State) (c no : Nat) :
    Same 0x1810824 s (State.secondEnds s c no) := by
  unfold State.secondEnds
  try dsimp only
  repeat' with_reducible first
    | exact Same.refl _
    | (apply Same.step (State.onChan_same ..); decide)
    | (apply Same.step (State.thermWatch_same ..); decide)
    | refine Same.ite ?_ ?_

theorem State.captureOut_same (s : State) (c stamp : Nat) (z : Option Int) :
    Same 0x400000 s (State.captureOut s c stamp z) := by
  unfold State.captureOut
  try dsimp only
  repeat' with_reducible first
    | exact Same.refl _
    | (apply Same.step (State.onPq_same ..); decide)
    | refine Same.ite ?_ ?_

theorem State.detectOut_same (s : State) (p c : Nat) (f : Fed) :
    Same 0x5C10824 s (State.detectOut s p c f) := by
  unfold State.detectOut
  extract_lets -merge x1 x2 x3 x4 x5
  refine Same.cut (w := 0x5C10824) (s := s) (x := x2) (fun _ => ?_) ?_
  clear_value x2
  refine Same.cut (w := 0x5C10824) (s := s) (x := x3) (fun _ => ?_) ?_
  clear_value x3
  refine Same.cut (w := 0x5C10824) (s := s) (x := x4) (fun _ => ?_) ?_
  clear_value x4
  all_goals
    repeat' with_reducible first
      | exact Same.refl _
      | assumption
      | unfold x2
      | unfold x3
      | unfold x4
      | (apply Same.step (State.secondEnds_same ..); decide)
      | (apply Same.step (State.onChan_same ..); decide)
      | (apply Same.step (State.captureOut_same ..); decide)
      | (apply Same.step (State.onSec_same ..); decide)
      | unfold x1
      | unfold x5
      | refine Same.ite ?_ ?_

theorem State.detectTo_same (s : State) (p c upTo : Nat) (fs : List Fed) :
    Same 0x5C10824 s (State.detectTo s p c upTo fs) := by
  unfold State.detectTo
  try dsimp only
  repeat' with_reducible first
    | exact Same.refl _
    | (apply Same.step (State.onChan_same ..); decide)
    | (apply Same.step (State.detectOut_same ..); decide)
    | refine Same.foldl (fun _ _ => ?_) ?_

theorem State.measureMark_same (s : State) (c at_ : Nat) :
    Same 0x4000080 s (State.measureMark s c at_) := by
  unfold State.measureMark
  try dsimp only
  repeat' with_reducible first
    | exact Same.refl _
    | (apply Same.step (State.onSec_same ..); decide)
    | (apply Same.step (State.onPort_same ..); decide)
    | (apply Same.step (State.finish_same ..); decide)
    | (apply Same.step (State.commitOp_same ..); decide)
    | refine Same.foldl (fun _ _ => ?_) ?_
    | refine Same.ite ?_ ?_
    | split

theorem State.detectMark_same (s : State) (c at_ : Nat) (full : Bool) :
    Same 0x4400A80 s (State.detectMark s c at_ full) := by
  unfold State.detectMark
  extract_lets -merge x1 x2 x3 x4 x5 x6 x7 x8 x9
  refine Same.cut (w := 0x4400A80) (s := s) (x := x8) (fun _ => ?_) ?_
  clear_value x8
  refine Same.cut (w := 0x4400A80) (s := s) (x := x9) (fun _ => ?_) ?_
  clear_value x9
  all_goals
    repeat' with_reducible first
      | exact Same.refl _
      | assumption
      | unfold x8
      | unfold x9
      | (apply Same.step (State.onChan_same ..); decide)
      | (apply Same.step (State.measureMark_same ..); decide)
      | (apply Same.step (State.sendItem_same ..); decide)
      | unfold x1
      | unfold x2
      | unfold x3
      | unfold x4
      | unfold x5
      | unfold x6
      | unfold x7
      | refine Same.ite ?_ ?_

theorem State.detectOver_same (p c upTo : Nat) (l : List (Nat × Bool)) (fs : List Fed) (s : State) :
    Same 0x5C10AA4 s (State.detectOver p c upTo l fs s) := by
  induction l generalizing s fs with
  | nil =>
    unfold State.detectOver
    try dsimp only
    repeat' with_reducible first
      | exact Same.refl _
      | (apply Same.step (State.detectTo_same ..); decide)
  | cons e r ih =>
    unfold State.detectOver
    try dsimp only
    repeat' with_reducible first
      | exact Same.refl _
      | (apply Same.step (State.detectTo_same ..); decide)
      | (apply Same.step (State.detectMark_same ..); decide)
      | (apply Same.step (ih ..); decide)

theorem State.detectAll_same (s : State) (a : RoundInput) :
    Same 0x5C10AA4 s (State.detectAll s a) := by
  unfold State.detectAll
  try dsimp only
  repeat' with_reducible first
    | exact Same.refl _
    | (apply Same.step (State.feeds_same ..); decide)
    | (apply Same.step (State.detectOver_same ..); decide)
    | refine Same.foldl (fun _ _ => ?_) ?_
    | refine Same.ite ?_ ?_

end Sys2Proof.Machine
end

