-- ==== Sys2Proof/Laws/FramePq.lean ====
section
/-! SUPPORT. What each function of Pq can change: the mask of the parts, and never what `Same` forbids. -/
namespace Sys2Proof.Machine

theorem State.onDet_same (s : State) (c k : Nat) (f : VoltEvent → VoltEvent) :
    Same 0x800 s (State.onDet s c k f) := by
  unfold State.onDet
  try dsimp only
  repeat' with_reducible first
    | exact Same.refl _
    | (apply Same.step (State.onChan_same ..); decide)

theorem State.pointEventsOf_same (s : State) (c k : Nat) (ended : Option (Nat × Nat)) :
    Same 0x10000 s (State.pointEventsOf s c k ended) := by
  unfold State.pointEventsOf
  try dsimp only
  repeat' with_reducible first
    | exact Same.refl _
    | (apply Same.step (State.onPoint_same ..); decide)
    | refine Same.foldl (fun _ _ => ?_) ?_
    | split

theorem State.voltReport_same (s : State) (g : EvGroup) (c r : Nat) :
    Same 0xC00000 s (State.voltReport s g c r) := by
  unfold State.voltReport
  try dsimp only
  repeat' with_reducible first
    | exact Same.refl _
    | (apply Same.step (State.report_same ..); decide)

theorem State.eventEnds_same (s : State) (c k : Nat) (slot flags : Nat) :
    Same 0xC10800 s (State.eventEnds s c k slot flags) := by
  unfold State.eventEnds
  extract_lets -merge x1 x2 x3
  refine Same.cut (w := 0xC10800) (s := s) (x := x2) (fun _ => ?_) ?_
  clear_value x2
  refine Same.cut (w := 0xC10800) (s := s) (x := x3) (fun _ => ?_) ?_
  clear_value x3
  all_goals
    repeat' with_reducible first
      | exact Same.refl _
      | assumption
      | unfold x2
      | unfold x3
      | (apply Same.step (State.onDet_same ..); decide)
      | (apply Same.step (State.pointEventsOf_same ..); decide)
      | (apply Same.step (State.voltReport_same ..); decide)

theorem State.endEvents_same (s : State) (flags c : Nat) :
    Same 0xC10800 s (State.endEvents s flags c) := by
  unfold State.endEvents
  try dsimp only
  repeat' with_reducible first
    | exact Same.refl _
    | (apply Same.step (State.eventEnds_same ..); decide)
    | refine Same.foldl (fun _ _ => ?_) ?_
    | refine Same.ite ?_ ?_

theorem State.eventStarts_same (s : State) (c k : Nat) (slot r flags : Nat) :
    Same 0xC10800 s (State.eventStarts s c k slot r flags) := by
  unfold State.eventStarts
  extract_lets -merge x1 x2 x3
  refine Same.cut (w := 0xC10800) (s := s) (x := x1) (fun _ => ?_) ?_
  clear_value x1
  refine Same.cut (w := 0xC10800) (s := s) (x := x2) (fun _ => ?_) ?_
  clear_value x2
  refine Same.cut (w := 0xC10800) (s := s) (x := x3) (fun _ => ?_) ?_
  clear_value x3
  all_goals
    repeat' with_reducible first
      | exact Same.refl _
      | assumption
      | unfold x1
      | unfold x2
      | unfold x3
      | (apply Same.step (State.onDet_same ..); decide)
      | (apply Same.step (State.onChan_same ..); decide)
      | (apply Same.step (State.pointEventsOf_same ..); decide)
      | (apply Same.step (State.captureTrigger_same ..); decide)
      | (apply Same.step (State.voltReport_same ..); decide)

theorem State.detValue_same (s : State) (c k : Nat) (slot r flags : Nat) :
    Same 0xC10800 s (State.detValue s c k slot r flags) := by
  unfold State.detValue
  try dsimp only
  repeat' with_reducible first
    | exact Same.refl _
    | (apply Same.step (State.eventEnds_same ..); decide)
    | (apply Same.step (State.onChan_same ..); decide)
    | (apply Same.step (State.onDet_same ..); decide)
    | (apply Same.step (State.eventStarts_same ..); decide)
    | refine Same.ite ?_ ?_

theorem State.halfValue_same (s : State) (c slot : Nat) (flags v : Nat) :
    Same 0xC10800 s (State.halfValue s c slot flags v) := by
  unfold State.halfValue
  try dsimp only
  repeat' with_reducible first
    | exact Same.refl _
    | (apply Same.step (State.onChan_same ..); decide)
    | (apply Same.step (State.detValue_same ..); decide)
    | refine Same.foldl (fun _ _ => ?_) ?_
    | refine Same.ite ?_ ?_

theorem State.itemsLost_same (s : State) :
    Same 0xC10800 s (State.itemsLost s) := by
  unfold State.itemsLost
  try dsimp only
  repeat' with_reducible first
    | exact Same.refl _
    | (apply Same.step (State.halfValue_same ..); decide)
    | (apply Same.step (State.onChan_same ..); decide)
    | refine Same.foldl (fun _ _ => ?_) ?_
    | refine Same.ite ?_ ?_

theorem State.freqCross_same (s : State) (c x : Nat) :
    Same 0x800 s (State.freqCross s c x) := by
  unfold State.freqCross
  try dsimp only
  repeat' with_reducible first
    | exact Same.refl _
    | (apply Same.step (State.onChan_same ..); decide)

theorem State.freqWithdraw_same (s : State) (c x : Nat) :
    Same 0x800 s (State.freqWithdraw s c x) := by
  unfold State.freqWithdraw
  try dsimp only
  repeat' with_reducible first
    | exact Same.refl _
    | (apply Same.step (State.onChan_same ..); decide)

theorem State.takeItem_same (s : State) (upsets : List (Nat × Nat)) :
    Same 0xC10A80 s (State.takeItem s upsets) := by
  unfold State.takeItem
  try dsimp only
  repeat' with_reducible first
    | exact Same.refl _
    | (apply Same.step (State.itemsLost_same ..); decide)
    | (apply Same.step (State.gapped_same ..); decide)
    | (apply Same.step (State.onPq_same ..); decide)
    | (apply Same.step (State.poisonedN_same ..); decide)
    | (apply Same.step (State.halfValue_same ..); decide)
    | (apply Same.step (State.onChan_same ..); decide)
    | (apply Same.step (State.freqCross_same ..); decide)
    | (apply Same.step (State.freqWithdraw_same ..); decide)
    | refine Same.ite ?_ ?_
    | split

theorem State.drainItems_same (s : State) :
    Same 0xC10A80 s (State.drainItems s) := by
  unfold State.drainItems
  try dsimp only
  repeat' with_reducible first
    | exact Same.refl _
    | (apply Same.step (State.takeItem_same ..); decide)
    | refine Same.foldl (fun _ _ => ?_) ?_

theorem cmdReadPq_same (s : State) (r : Request) :
    SameE 0x180 s (cmdReadPq s r) := by
  unfold cmdReadPq
  try dsimp only
  repeat' with_reducible first
    | exact Same.refl _
    | refine SameE.ok ?_
    | (apply Same.step (State.replyOk_same ..); decide)
    | refine SameE.bind (fun _ => ?_)

theorem cmdReadHarmonics_same (s : State) (r : Request) :
    SameE 0x180 s (cmdReadHarmonics s r) := by
  unfold cmdReadHarmonics
  try dsimp only
  repeat' with_reducible first
    | exact Same.refl _
    | exact SameE.error
    | refine SameE.ok ?_
    | (apply Same.step (State.replyOk_same ..); decide)
    | refine SameE.bind (fun _ => ?_)
    | refine SameE.ite ?_ ?_
    | split

theorem State.pauseHarm_same (s : State) :
    Same 0x400800 s (State.pauseHarm s) := by
  unfold State.pauseHarm
  try dsimp only
  repeat' with_reducible first
    | exact Same.refl _
    | (apply Same.step (State.eachChan_same ..); decide)
    | (apply Same.step (State.onPq_same ..); decide)

theorem State.pointHarm_same (s : State) (m : Nat) :
    Same 0x10000 s (State.pointHarm s m) := by
  unfold State.pointHarm
  try dsimp only
  repeat' with_reducible first
    | exact Same.refl _
    | (apply Same.step (State.onPoint_same ..); decide)
    | refine Same.ite ?_ ?_
    | split

theorem State.thdLimit_same (s : State) (c : Nat) :
    Same 0xC00800 s (State.thdLimit s c) := by
  unfold State.thdLimit
  try dsimp only
  repeat' with_reducible first
    | exact Same.refl _
    | (apply Same.step (State.onChan_same ..); decide)
    | (apply Same.step (State.report_same ..); decide)
    | refine Same.ite ?_ ?_

theorem execHarmonicWindowEnd_same (c : Nat) (s : State) :
    SameO 0xC10800 s (execHarmonicWindowEnd c s) := by
  unfold execHarmonicWindowEnd
  try dsimp only
  repeat' with_reducible first
    | exact Same.refl _
    | refine SameO.next ?_
    | (apply Same.step (State.onChan_same ..); decide)
    | (apply Same.step (State.thdLimit_same ..); decide)
    | (apply Same.step (State.pointHarm_same ..); decide)
    | refine Same.foldl (fun _ _ => ?_) ?_
    | refine Same.ite ?_ ?_
    | split

theorem execFrequencyWindowEnd_same (c : Nat) (s : State) :
    SameO 0xC00800 s (execFrequencyWindowEnd c s) := by
  unfold execFrequencyWindowEnd
  extract_lets -merge x1 x2 x3 x4 x5 x6 x7 x8 x9 x10
  refine Same.cut (w := 0xC00800) (s := s) (x := x6) (fun _ => ?_) ?_
  clear_value x6
  refine Same.cut (w := 0xC00800) (s := s) (x := x10) (fun _ => ?_) ?_
  clear_value x10
  all_goals
    repeat' with_reducible first
      | exact Same.refl _
      | assumption
      | unfold x6
      | unfold x10
      | refine SameO.next ?_
      | (apply Same.step (State.onChan_same ..); decide)
      | (apply Same.step (State.report_same ..); decide)
      | unfold x1
      | unfold x2
      | unfold x3
      | unfold x4
      | unfold x5
      | unfold x7
      | unfold x8
      | unfold x9
      | refine Same.ite ?_ ?_

theorem execPqItem_same (upsets : List (Nat × Nat)) (s : State) :
    SameO 0xC10A80 s (execPqItem upsets s) := by
  unfold execPqItem
  try dsimp only
  repeat' with_reducible first
    | exact Same.refl _
    | refine SameO.next ?_
    | (apply Same.step (State.takeItem_same ..); decide)

end Sys2Proof.Machine
end

