-- ==== Sys2Proof/Laws/FrameCapture.lean ====
section
/-! SUPPORT. What each function of Capture can change: the mask of the parts, and never what `Same` forbids. -/
namespace Sys2Proof.Machine

theorem State.onCapture_same (s : State) (f : Capture → Capture) :
    Same 0x400000 s (State.onCapture s f) := by
  unfold State.onCapture
  try dsimp only
  repeat' with_reducible first
    | exact Same.refl _
    | (apply Same.step (State.onPq_same ..); decide)

theorem State.holdCapture_same (s : State) (truncated : Bool) :
    Same 0xC00000 s (State.holdCapture s truncated) := by
  unfold State.holdCapture
  try dsimp only
  repeat' with_reducible first
    | exact Same.refl _
    | (apply Same.step (State.raise_same ..); decide)
    | (apply Same.step (State.onCapture_same ..); decide)

theorem State.captureChanged_same (s : State) (c : Nat) :
    Same 0xC00000 s (State.captureChanged s c) := by
  unfold State.captureChanged
  try dsimp only
  repeat' with_reducible first
    | exact Same.refl _
    | (apply Same.step (State.holdCapture_same ..); decide)
    | (apply Same.step (State.onCapture_same ..); decide)
    | refine Same.ite ?_ ?_
    | split

theorem State.dropCapture_same (s : State) :
    Same 0xC00000 s (State.dropCapture s) := by
  unfold State.dropCapture
  try dsimp only
  repeat' with_reducible first
    | exact Same.refl _
    | (apply Same.step (State.holdCapture_same ..); decide)
    | (apply Same.step (State.onCapture_same ..); decide)
    | split

theorem cmdArmCapture_same (s : State) (r : Request) :
    SameE 0x400180 s (cmdArmCapture s r) := by
  unfold cmdArmCapture
  try dsimp only
  repeat' with_reducible first
    | exact Same.refl _
    | refine SameE.ok ?_
    | (apply Same.step (State.onCapture_same ..); decide)
    | (apply Same.step (State.replyOk_same ..); decide)
    | refine SameE.bind (fun _ => ?_)
    | refine Same.ite ?_ ?_
    | split

theorem cmdReadCapture_same (s : State) (r : Request) :
    SameE 0x10400180 s (cmdReadCapture s r) := by
  unfold cmdReadCapture
  try dsimp only
  repeat' with_reducible first
    | exact Same.refl _
    | refine SameE.ok ?_
    | (apply Same.step (State.drawBytes_same ..); decide)
    | (apply Same.step (State.replyOk_same ..); decide)
    | (apply Same.step (State.onCapture_same ..); decide)
    | refine SameE.bind (fun _ => ?_)
    | refine Same.ite ?_ ?_

theorem State.resumeCapture_same (s : State) :
    Same 0x400000 s (State.resumeCapture s) := by
  unfold State.resumeCapture
  try dsimp only
  repeat' with_reducible first
    | exact Same.refl _
    | (apply Same.step (State.onCapture_same ..); decide)
    | refine Same.ite ?_ ?_

theorem State.stopCapture_same (s : State) :
    Same 0xC00000 s (State.stopCapture s) := by
  unfold State.stopCapture
  try dsimp only
  repeat' with_reducible first
    | exact Same.refl _
    | (apply Same.step (State.holdCapture_same ..); decide)
    | (apply Same.step (State.onCapture_same ..); decide)
    | split

theorem execCaptureComplete_same (s : State) :
    SameO 0xC00000 s (execCaptureComplete s) := by
  unfold execCaptureComplete
  try dsimp only
  repeat' with_reducible first
    | exact Same.refl _
    | refine SameO.next ?_
    | (apply Same.step (State.holdCapture_same ..); decide)
    | refine Same.ite ?_ ?_

end Sys2Proof.Machine
end

