-- ==== Sys2Proof/Laws/FrameChecks.lean ====
section
/-! SUPPORT. What each function of Checks can change: the mask of the parts, and never what `Same` forbids. -/
namespace Sys2Proof.Machine

theorem State.channelRecovers_same (s : State) (c : Nat) :
    Same 0x10000 s (State.channelRecovers s c) := by
  unfold State.channelRecovers
  try dsimp only
  repeat' with_reducible first
    | exact Same.refl _
    | (apply Same.step (State.endCause_same ..); decide)
    | refine Same.foldl (fun _ _ => ?_) ?_
    | refine Same.ite ?_ ?_
    | split

theorem State.checkerFault_same (s : State) (c : Nat) (x : Outcome) (m1 m2 : Nat) :
    Same 0xC00000 s (State.checkerFault s c x m1 m2) := by
  unfold State.checkerFault
  try dsimp only
  repeat' with_reducible first
    | exact Same.refl _
    | (apply Same.step (State.report_same ..); decide)

theorem State.resetCheck_same (s : State) (c : Nat) :
    Same 0xC10800 s (State.resetCheck s c) := by
  unfold State.resetCheck
  try dsimp only
  repeat' with_reducible first
    | exact Same.refl _
    | (apply Same.step (State.onChan_same ..); decide)
    | (apply Same.step (State.channelRecovers_same ..); decide)
    | (apply Same.step (State.checkerFault_same ..); decide)
    | refine Same.ite ?_ ?_

end Sys2Proof.Machine
end

