-- ==== Sys2Proof/Laws/FrameCycle.lean ====
section
/-! SUPPORT. What each function of Cycle can change: the mask of the parts, and never what `Same` forbids. -/
namespace Sys2Proof.Machine

theorem State.firstOpened_same (s : State) (m at_ : Nat) (b : Binding) :
    Same 0x110000 s (State.firstOpened s m at_ b) := by
  unfold State.firstOpened
  try dsimp only
  repeat' with_reducible first
    | exact Same.refl _
    | (apply Same.step (State.onPoint_same ..); decide)
    | (apply Same.step (State.onTariff_same ..); decide)

theorem State.endCauses_same (s : State) (m at_ : Nat) :
    Same 0x10000 s (State.endCauses s m at_) := by
  unfold State.endCauses
  try dsimp only
  repeat' with_reducible first
    | exact Same.refl _
    | (apply Same.step (State.onPoint_same ..); decide)
    | split

theorem State.openCycle_same (s : State) (m at_ : Nat) (gate : Bool) (number : Nat) :
    Same 0x110000 s (State.openCycle s m at_ gate number) := by
  unfold State.openCycle
  try dsimp only
  repeat' with_reducible first
    | exact Same.refl _
    | (apply Same.step (State.firstOpened_same ..); decide)
    | (apply Same.step (State.endCauses_same ..); decide)
    | (apply Same.step (State.onPoint_same ..); decide)
    | refine Same.ite ?_ ?_
    | split

theorem State.withdrawCycle_same (s : State) (m at_ : Nat) :
    Same 0x12000 s (State.withdrawCycle s m at_) := by
  unfold State.withdrawCycle
  try dsimp only
  repeat' with_reducible first
    | exact Same.refl _
    | (apply Same.step (State.onEngine_same ..); decide)
    | (apply Same.step (State.onPoint_same ..); decide)

theorem State.confirmCycle_same (s : State) (m at_ : Nat) :
    Same 0x10000 s (State.confirmCycle s m at_) := by
  unfold State.confirmCycle
  try dsimp only
  repeat' with_reducible first
    | exact Same.refl _
    | (apply Same.step (State.onPoint_same ..); decide)

theorem State.pointEvents_same (s : State) (pts : List Nat) (no : Nat) (l : List CrossEv) :
    Same 0x112000 s (State.pointEvents s pts no l) := by
  induction l generalizing s no with
  | nil =>
    unfold State.pointEvents
    try dsimp only
    repeat' with_reducible first
      | exact Same.refl _
  | cons e r ih =>
    unfold State.pointEvents
    try dsimp only
    repeat' with_reducible first
      | exact Same.refl _
      | (apply Same.step (State.openCycle_same ..); decide)
      | (apply Same.step (State.withdrawCycle_same ..); decide)
      | (apply Same.step (State.confirmCycle_same ..); decide)
      | (apply Same.step (ih ..); decide)
      | refine Same.foldl (fun _ _ => ?_) ?_
      | split

theorem State.fillPoint_same (s : State) (m upTo : Nat) :
    Same 0x10000 s (State.fillPoint s m upTo) := by
  unfold State.fillPoint
  try dsimp only
  repeat' with_reducible first
    | exact Same.refl _
    | (apply Same.step (State.onPoint_same ..); decide)
    | split

theorem State.redoSlot_same (s : State) (m cycle : Nat) :
    Same 0x10000 s (State.redoSlot s m cycle) := by
  unfold State.redoSlot
  try dsimp only
  repeat' with_reducible first
    | exact Same.refl _
    | (apply Same.step (State.fillPoint_same ..); decide)
    | (apply Same.step (State.onPoint_same ..); decide)

theorem State.pointSlice_same (s : State) (m : Nat) :
    Same 0x10000 s (State.pointSlice s m) := by
  unfold State.pointSlice
  try dsimp only
  repeat' with_reducible first
    | exact Same.refl _
    | (apply Same.step (State.fillPoint_same ..); decide)

theorem State.poisonedOut_same (s : State) (c stamp : Nat) :
    Same 0x812000 s (State.poisonedOut s c stamp) := by
  unfold State.poisonedOut
  try dsimp only
  repeat' with_reducible first
    | exact Same.refl _
    | (apply Same.step (State.takeback_same ..); decide)
    | (apply Same.step (State.onPoint_same ..); decide)
    | refine Same.foldl (fun _ _ => ?_) ?_
    | refine Same.ite ?_ ?_

theorem State.poisonTrigger_same (s : State) (c from_ : Nat) :
    Same 0x812000 s (State.poisonTrigger s c from_) := by
  unfold State.poisonTrigger
  try dsimp only
  repeat' with_reducible first
    | exact Same.refl _
    | (apply Same.step (State.poisonedOut_same ..); decide)
    | refine Same.foldl (fun _ _ => ?_) ?_

theorem State.flagCycle_same (s : State) (c at_ : Nat) :
    Same 0x2800 s (State.flagCycle s c at_) := by
  unfold State.flagCycle
  try dsimp only
  repeat' with_reducible first
    | exact Same.refl _
    | (apply Same.step (State.onChan_same ..); decide)
    | (apply Same.step (State.onEngine_same ..); decide)
    | refine Same.ite ?_ ?_

theorem State.redelay_same (s : State) (c at_ old : Nat) :
    Same 0x800 s (State.redelay s c at_ old) := by
  unfold State.redelay
  try dsimp only
  repeat' with_reducible first
    | exact Same.refl _
    | (apply Same.step (State.onChan_same ..); decide)

theorem State.rerun_same (s : State) (c at_ : Nat) :
    Same 0x800 s (State.rerun s c at_) := by
  unfold State.rerun
  try dsimp only
  repeat' with_reducible first
    | exact Same.refl _
    | (apply Same.step (State.runSlice_same ..); decide)
    | (apply Same.step (State.onChan_same ..); decide)

theorem State.rescale_same (s : State) (m from_ : Nat) :
    Same 0x10000 s (State.rescale s m from_) := by
  unfold State.rescale
  try dsimp only
  repeat' with_reducible first
    | exact Same.refl _
    | (apply Same.step (State.onPoint_same ..); decide)
    | split

theorem State.rebuild_same (s : State) (m from_ : Nat) :
    Same 0x10000 s (State.rebuild s m from_) := by
  unfold State.rebuild
  try dsimp only
  repeat' with_reducible first
    | exact Same.refl _
    | (apply Same.step (State.pointSlice_same ..); decide)
    | (apply Same.step (State.onPoint_same ..); decide)
    | (apply Same.step (State.rescale_same ..); decide)

theorem State.stepChannel_same (s : State) (c at_ : Nat) (items : List Effect) (banked : Bool) :
    Same 0xC12C00 s (State.stepChannel s c at_ items banked) := by
  unfold State.stepChannel
  extract_lets -merge x1 x2 x3 x4 x5 x6 x7 x8 x9 x10 x11 x12 x13 x14 x15 x16 x17
  refine Same.cut (w := 0xC12C00) (s := s) (x := x3) (fun _ => ?_) ?_
  clear_value x3
  refine Same.cut (w := 0xC12C00) (s := s) (x := x5) (fun _ => ?_) ?_
  clear_value x5
  refine Same.cut (w := 0xC12C00) (s := s) (x := x10) (fun _ => ?_) ?_
  clear_value x10
  refine Same.cut (w := 0xC12C00) (s := s) (x := x11) (fun _ => ?_) ?_
  clear_value x11
  refine Same.cut (w := 0xC12C00) (s := s) (x := x12) (fun _ => ?_) ?_
  clear_value x12
  refine Same.cut (w := 0xC12C00) (s := s) (x := x13) (fun _ => ?_) ?_
  clear_value x13
  refine Same.cut (w := 0xC12C00) (s := s) (x := x14) (fun _ => ?_) ?_
  clear_value x14
  refine Same.cut (w := 0xC12C00) (s := s) (x := x16) (fun _ => ?_) ?_
  clear_value x16
  refine Same.cut (w := 0xC12C00) (s := s) (x := x17) (fun _ => ?_) ?_
  clear_value x17
  all_goals
    repeat' with_reducible first
      | exact Same.refl _
      | assumption
      | unfold x3
      | unfold x5
      | unfold x10
      | unfold x11
      | unfold x12
      | unfold x13
      | unfold x14
      | unfold x16
      | unfold x17
      | (apply Same.step (State.putItem_same ..); decide)
      | (apply Same.step (State.onEngine_same ..); decide)
      | (apply Same.step (State.onChan_same ..); decide)
      | (apply Same.step (State.resetCheck_same ..); decide)
      | (apply Same.step (State.captureChanged_same ..); decide)
      | (apply Same.step (State.redelay_same ..); decide)
      | (apply Same.step (State.endEvents_same ..); decide)
      | (apply Same.step (State.rerun_same ..); decide)
      | (apply Same.step (State.takeback_same ..); decide)
      | (apply Same.step (State.rebuild_same ..); decide)
      | (apply Same.step (State.rescale_same ..); decide)
      | refine Same.foldl (fun _ _ => ?_) ?_
      | unfold x1
      | unfold x2
      | unfold x4
      | unfold x6
      | unfold x7
      | unfold x8
      | unfold x9
      | unfold x15
      | refine Same.ite ?_ ?_

theorem State.stepDue_same (s : State) (c : Nat) :
    Same 0xC12C00 s (State.stepDue s c) := by
  unfold State.stepDue
  try dsimp only
  repeat' with_reducible first
    | exact Same.refl _
    | (apply Same.step (State.stepChannel_same ..); decide)
    | refine Same.ite ?_ ?_
    | split

theorem State.takeUp_same (s : State) (c : Nat) :
    Same 0xC01800 s (State.takeUp s c) := by
  unfold State.takeUp
  try dsimp only
  repeat' with_reducible first
    | exact Same.refl _
    | (apply Same.step (State.onChan_same ..); decide)
    | (apply Same.step (State.takeSamples_same ..); decide)
    | split

theorem State.stepsDue_same (s : State) :
    Same 0xC13C00 s (State.stepsDue s) := by
  unfold State.stepsDue
  try dsimp only
  repeat' with_reducible first
    | exact Same.refl _
    | (apply Same.step (State.stepDue_same ..); decide)
    | (apply Same.step (State.takeUp_same ..); decide)
    | refine Same.foldl (fun _ _ => ?_) ?_
    | refine Same.ite ?_ ?_

theorem State.settleSets_same (s : State) :
    Same 0x2080 s (State.settleSets s) := by
  unfold State.settleSets
  try dsimp only
  repeat' with_reducible first
    | exact Same.refl _
    | (apply Same.step (State.onWaiting_same ..); decide)
    | (apply Same.step (State.finish_same ..); decide)
    | (apply Same.step (State.onEngine_same ..); decide)
    | refine Same.foldl (fun _ _ => ?_) ?_
    | refine Same.ite ?_ ?_
    | split

end Sys2Proof.Machine
end

