-- ==== Sys2Proof/Laws/FrameSeconds.lean ====
section
/-! SUPPORT. What each function of Seconds can change: the mask of the parts, and never what `Same` forbids. -/
namespace Sys2Proof.Machine

theorem State.stopSeconds_same (s : State) (n : Nat) :
    Same 0x1000 s (State.stopSeconds s n).1 := by
  unfold State.stopSeconds
  try dsimp only
  repeat' with_reducible first
    | exact Same.refl _
    | (apply Same.step (State.onIsland_same ..); decide)

theorem State.answerSpot_same (s : State) (o : OpRef) (x : Outcome) (m1 m2 : Nat) :
    Same 0x80 s (State.answerSpot s o x m1 m2) := by
  unfold State.answerSpot
  try dsimp only
  repeat' with_reducible first
    | exact Same.refl _
    | (apply Same.step (State.finish_same ..); decide)
    | split

theorem State.answerTamper_same (s : State) (m : Nat) (x : Outcome) :
    Same 0x1010004 s (State.answerTamper s m x) := by
  unfold State.answerTamper
  try dsimp only
  repeat' with_reducible first
    | exact Same.refl _
    | (apply Same.step (State.onPoint_same ..); decide)
    | (apply Same.step (State.raiseAlarm_same ..); decide)
    | split

theorem State.answerUrgent_same (s : State) (u : Urgent) (x : Outcome) (m1 m2 : Nat) (a b : Nat) :
    Same 0x1010884 s (State.answerUrgent s u x m1 m2 a b) := by
  unfold State.answerUrgent
  extract_lets -merge x1 x2
  refine Same.cut (w := 0x1010884) (s := s) (x := x1) (fun _ => ?_) ?_
  clear_value x1
  refine Same.cut (w := 0x1010884) (s := s) (x := x2) (fun _ => ?_) ?_
  clear_value x2
  all_goals
    repeat' with_reducible first
      | exact Same.refl _
      | assumption
      | unfold x1
      | unfold x2
      | (apply Same.step (State.answerSpot_same ..); decide)
      | (apply Same.step (State.answerTamper_same ..); decide)
      | (apply Same.step (State.onChan_same ..); decide)
      | refine Same.foldl (fun _ _ => ?_) ?_
      | refine Same.ite ?_ ?_

theorem State.answerEmpty_same (s : State) (x : Outcome) (u : Urgent) :
    Same 0x1010884 s (State.answerEmpty s x u) := by
  unfold State.answerEmpty
  try dsimp only
  repeat' with_reducible first
    | exact Same.refl _
    | (apply Same.step (State.answerUrgent_same ..); decide)

theorem State.retireSeconds_same (s : State) (n : Nat) :
    Same 0x1011884 s (State.retireSeconds s n) := by
  unfold State.retireSeconds
  try dsimp only
  repeat' with_reducible first
    | exact Same.refl _
    | (apply Same.step (State.stopSeconds_same ..); decide)
    | (apply Same.step (State.answerEmpty_same ..); decide)
    | (apply Same.step (State.onIsland_same ..); decide)
    | refine Same.foldl (fun _ _ => ?_) ?_

theorem State.channelFailed_same (s : State) (c a : Nat) :
    Same 0xC12000 s (State.channelFailed s c a) := by
  unfold State.channelFailed
  try dsimp only
  repeat' with_reducible first
    | exact Same.refl _
    | (apply Same.step (State.takeback_same ..); decide)
    | (apply Same.step (State.onPoint_same ..); decide)
    | (apply Same.step (State.setCause_same ..); decide)
    | refine Same.foldl (fun _ _ => ?_) ?_
    | refine Same.ite ?_ ?_

theorem State.compared_same (s : State) (c : Nat) (ok : Bool) (m1 m2 a : Nat) :
    Same 0xC12800 s (State.compared s c ok m1 m2 a) := by
  unfold State.compared
  try dsimp only
  repeat' with_reducible first
    | exact Same.refl _
    | (apply Same.step (State.onChan_same ..); decide)
    | (apply Same.step (State.checkerFault_same ..); decide)
    | (apply Same.step (State.channelFailed_same ..); decide)
    | (apply Same.step (State.channelRecovers_same ..); decide)
    | refine Same.ite ?_ ?_
    | split

theorem State.ask_same (s : State) (u : Urgent) :
    Same 0x8000 s (State.ask s u) := by
  unfold State.ask
  try dsimp only
  repeat' with_reducible first
    | exact Same.refl _
    | (apply Same.step (State.onQ28_same ..); decide)

theorem cmdSpotCheck_same (s : State) (r : Request) :
    SameE 0x8180 s (cmdSpotCheck s r) := by
  unfold cmdSpotCheck
  try dsimp only
  repeat' with_reducible first
    | exact Same.refl _
    | exact SameE.error
    | refine SameE.ok ?_
    | (apply Same.step (State.accept_same (by assumption)); decide)
    | (apply Same.step (State.ask_same ..); decide)
    | refine SameE.bind (fun _ => ?_)
    | split

theorem State.haltSeconds_same (s : State) (n : Nat) :
    Same 0x1000 s (State.haltSeconds s n) := by
  unfold State.haltSeconds
  try dsimp only
  repeat' with_reducible first
    | exact Same.refl _
    | (apply Same.step (State.stopSeconds_same ..); decide)
    | (apply Same.step (State.onIsland_same ..); decide)

theorem State.askVerifications_same (s : State) :
    Same 0xA000 s (State.askVerifications s) := by
  unfold State.askVerifications
  try dsimp only
  repeat' with_reducible first
    | exact Same.refl _
    | (apply Same.step (State.ask_same ..); decide)
    | (apply Same.step (State.onEngine_same ..); decide)
    | refine Same.foldl (fun _ _ => ?_) ?_

theorem State.sendGate_same (s : State) (v : Nat) :
    Same 0x800 s (State.sendGate s v) := by
  unfold State.sendGate
  try dsimp only
  repeat' with_reducible first
    | exact Same.refl _
    | (apply Same.step (State.onChan_same ..); decide)
    | refine Same.ite ?_ ?_

theorem State.onSecond_same (s : State) (n : Nat) (b : Bool) (f : Second → Second) :
    Same 0x1000 s (State.onSecond s n b f) := by
  unfold State.onSecond
  try dsimp only
  repeat' with_reducible first
    | exact Same.refl _
    | (apply Same.step (State.onIsland_same ..); decide)

theorem State.assign_same (s : State) (n : Nat) (b : Bool) (c : Nat) (u : Option Urgent) :
    Same 0x1000 s (State.assign s n b c u) := by
  unfold State.assign
  try dsimp only
  repeat' with_reducible first
    | exact Same.refl _
    | (apply Same.step (State.onSecond_same ..); decide)

theorem State.nextWork_same (s : State) (n : Nat) (b : Bool) :
    Same 0x1000 s (State.nextWork s n b) := by
  unfold State.nextWork
  try dsimp only
  repeat' with_reducible first
    | exact Same.refl _
    | (apply Same.step (State.onSecond_same ..); decide)
    | (apply Same.step (State.assign_same ..); decide)
    | (apply Same.step (State.onIsland_same ..); decide)
    | refine Same.ite ?_ ?_
    | split

theorem State.roundSecond_same (s : State) (n : Nat) (b : Bool) :
    Same 0x1000 s (State.roundSecond s n b) := by
  unfold State.roundSecond
  try dsimp only
  repeat' with_reducible first
    | exact Same.refl _
    | (apply Same.step (State.onSecond_same ..); decide)
    | (apply Same.step (State.nextWork_same ..); decide)
    | refine Same.ite ?_ ?_

theorem State.dropOff_same (s : State) (n : Nat) :
    Same 0x1011884 s (State.dropOff s n) := by
  unfold State.dropOff
  try dsimp only
  repeat' with_reducible first
    | exact Same.refl _
    | (apply Same.step (State.answerEmpty_same ..); decide)
    | (apply Same.step (State.onIsland_same ..); decide)
    | refine Same.foldl (fun _ _ => ?_) ?_

theorem State.roundSeconds_same (s : State) :
    Same 0x1011884 s (State.roundSeconds s) := by
  unfold State.roundSeconds
  try dsimp only
  repeat' with_reducible first
    | exact Same.refl _
    | (apply Same.step (State.sendGate_same ..); decide)
    | (apply Same.step (State.roundSecond_same ..); decide)
    | (apply Same.step (State.dropOff_same ..); decide)
    | refine Same.foldl (fun _ _ => ?_) ?_

theorem State.islandFault_same (s : State) (n kind value : Nat) :
    Same 0xC00000 s (State.islandFault s n kind value) := by
  unfold State.islandFault
  try dsimp only
  repeat' with_reducible first
    | exact Same.refl _
    | (apply Same.step (State.report_same ..); decide)

theorem State.onIslandChans_same (s : State) (n : Nat) (f : Channel → Channel) :
    Same 0x800 s (State.onIslandChans s n f) := by
  unfold State.onIslandChans
  try dsimp only
  repeat' with_reducible first
    | exact Same.refl _
    | (apply Same.step (State.onChan_same ..); decide)
    | refine Same.foldl (fun _ _ => ?_) ?_

theorem execSecondSelfTest_same (n : Nat) (b : Bool) (cHalf cZero : Nat) (s : State) :
    SameO 0xC11800 s (execSecondSelfTest n b cHalf cZero s) := by
  unfold execSecondSelfTest
  extract_lets -merge x1 x2 x3 x4 x5 x6 x7
  refine Same.cut (w := 0xC11800) (s := s) (x := x3) (fun _ => ?_) ?_
  clear_value x3
  refine Same.cut (w := 0xC11800) (s := s) (x := x4) (fun _ => ?_) ?_
  clear_value x4
  refine Same.cut (w := 0xC11800) (s := s) (x := x6) (fun _ => ?_) ?_
  clear_value x6
  refine Same.cut (w := 0xC11800) (s := s) (x := x7) (fun _ => ?_) ?_
  clear_value x7
  all_goals
    repeat' with_reducible first
      | exact Same.refl _
      | assumption
      | unfold x3
      | unfold x4
      | unfold x6
      | unfold x7
      | refine SameO.next ?_
      | (apply Same.step (State.onSecond_same ..); decide)
      | (apply Same.step (State.onIslandChans_same ..); decide)
      | (apply Same.step (State.islandFault_same ..); decide)
      | (apply Same.step (State.channelRecovers_same ..); decide)
      | (apply Same.step (State.checkerFault_same ..); decide)
      | (apply Same.step (State.nextWork_same ..); decide)
      | refine Same.foldl (fun _ _ => ?_) ?_
      | unfold x1
      | unfold x2
      | unfold x5
      | refine Same.ite ?_ ?_

theorem State.urgentArrives_same (s : State) (u : Urgent) :
    Same 0x1011884 s (State.urgentArrives s u) := by
  unfold State.urgentArrives
  try dsimp only
  repeat' with_reducible first
    | exact Same.refl _
    | (apply Same.step (State.answerEmpty_same ..); decide)
    | (apply Same.step (State.onIsland_same ..); decide)
    | (apply Same.step (State.nextWork_same ..); decide)
    | (apply Same.step (State.onSecond_same ..); decide)
    | refine Same.ite ?_ ?_

theorem execUrgentRequest_same (upset : Bool) (s : State) :
    SameO 0x1819A84 s (execUrgentRequest s upset) := by
  unfold execUrgentRequest
  try dsimp only
  repeat' with_reducible first
    | exact Same.refl _
    | refine SameO.next ?_
    | (apply Same.step (State.onQueue_same ..); decide)
    | (apply Same.step (State.onQ28_same ..); decide)
    | (apply Same.step (State.answerEmpty_same ..); decide)
    | (apply Same.step (State.poisoned_same ..); decide)
    | (apply Same.step (State.urgentArrives_same ..); decide)
    | refine Same.ite ?_ ?_
    | split

theorem execOverloadEpisodeEnd_same (c : Nat) (s : State) :
    SameO 0xC00800 s (execOverloadEpisodeEnd c s) := by
  unfold execOverloadEpisodeEnd
  try dsimp only
  repeat' with_reducible first
    | exact Same.refl _
    | refine SameO.next ?_
    | (apply Same.step (State.report_same ..); decide)
    | (apply Same.step (State.onChan_same ..); decide)
    | split

theorem execSecondIntegrationEnd_same (n : Nat) (b : Bool) (count : Nat) (upset : Bool) (s : State) :
    SameO 0x1C13A84 s (execSecondIntegrationEnd n b count s upset) := by
  unfold execSecondIntegrationEnd
  try dsimp only
  repeat' with_reducible first
    | exact Same.refl _
    | refine SameO.next ?_
    | (apply Same.step (State.poisoned_same ..); decide)
    | (apply Same.step (State.onSecond_same ..); decide)
    | (apply Same.step (State.compared_same ..); decide)
    | (apply Same.step (State.onIsland_same ..); decide)
    | (apply Same.step (State.answerUrgent_same ..); decide)
    | (apply Same.step (State.nextWork_same ..); decide)
    | refine Same.ite ?_ ?_
    | split

end Sys2Proof.Machine
end

