-- ==== Sys2Proof/Laws/FrameCommit.lean ====
section
/-! SUPPORT. What each function of Commit can change: the mask of the parts, and never what `Same` forbids. -/
namespace Sys2Proof.Machine

theorem State.lateSplits_same (s : State) (cuts : List Nat) (l : List (Nat × Nat)) (fin : Nat) :
    Same 0x100000 s (State.lateSplits s cuts l fin) := by
  unfold State.lateSplits
  try dsimp only
  repeat' with_reducible first
    | exact Same.refl _
    | (apply Same.step (State.onCommit_same ..); decide)
    | refine Same.foldl (fun _ _ => ?_) ?_

theorem State.saturationSign_same (s : State) (m : Nat) (b : Binding) (fin : Nat) :
    Same 0x1810024 s (State.saturationSign s m b fin) := by
  unfold State.saturationSign
  try dsimp only
  repeat' with_reducible first
    | exact Same.refl _
    | (apply Same.step (State.onPoint_same ..); decide)
    | (apply Same.step (State.clearAlarm_same ..); decide)
    | (apply Same.step (State.raiseAlarm_same ..); decide)
    | refine Same.ite ?_ ?_

theorem State.noVoltSign_same (s : State) (m : Nat) (b : Binding) (on : List Nat) (fin : Nat) :
    Same 0x1810024 s (State.noVoltSign s m b on fin) := by
  unfold State.noVoltSign
  try dsimp only
  repeat' with_reducible first
    | exact Same.refl _
    | (apply Same.step (State.onPoint_same ..); decide)
    | (apply Same.step (State.clearAlarm_same ..); decide)
    | (apply Same.step (State.raiseAlarm_same ..); decide)
    | refine Same.ite ?_ ?_

theorem State.neutralSign_same (s : State) (m : Nat) (b : Binding) (x : PendSlot) (sums : List ElemSum) :
    Same 0x1818020 s (State.neutralSign s m b x sums) := by
  unfold State.neutralSign
  try dsimp only
  repeat' with_reducible first
    | exact Same.refl _
    | (apply Same.step (State.onPoint_same ..); decide)
    | (apply Same.step (State.clearAlarm_same ..); decide)
    | (apply Same.step (State.ask_same ..); decide)
    | refine Same.ite ?_ ?_
    | split

theorem State.signatures_same (s : State) (m : Nat) (b : Binding) (x : PendSlot) (sums : List ElemSum) (on : List Nat) (fin : Nat) :
    Same 0x1818024 s (State.signatures s m b x sums on fin) := by
  unfold State.signatures
  try dsimp only
  repeat' with_reducible first
    | exact Same.refl _
    | (apply Same.step (State.saturationSign_same ..); decide)
    | (apply Same.step (State.noVoltSign_same ..); decide)
    | (apply Same.step (State.neutralSign_same ..); decide)
    | refine Same.ite ?_ ?_

theorem State.commitSlot_same (s : State) (m : Nat) (b : Binding) (x : PendSlot) (fin : Nat) :
    Same 0x191E024 s (State.commitSlot s m b x fin) := by
  unfold State.commitSlot
  extract_lets -merge x1 x2 x3 x4 x5 x6 x7 x8 x9 x10 x11 x12 x13 x14 x15 x16 x17 x18 x19
  refine Same.cut (w := 0x191E024) (s := s) (x := x16) (fun _ => ?_) ?_
  clear_value x16
  refine Same.cut (w := 0x191E024) (s := s) (x := x17) (fun _ => ?_) ?_
  clear_value x17
  refine Same.cut (w := 0x191E024) (s := s) (x := x18) (fun _ => ?_) ?_
  clear_value x18
  refine Same.cut (w := 0x191E024) (s := s) (x := x19) (fun _ => ?_) ?_
  clear_value x19
  all_goals
    repeat' with_reducible first
      | exact Same.refl _
      | assumption
      | unfold x16
      | unfold x17
      | unfold x18
      | unfold x19
      | (apply Same.step (State.lateSplits_same ..); decide)
      | (apply Same.step (State.onQ8_same ..); decide)
      | (apply Same.step (State.onEngine_same ..); decide)
      | (apply Same.step (State.onPoint_same ..); decide)
      | (apply Same.step (State.signatures_same ..); decide)

theorem State.commitDeadline_same (s : State) (m : Nat) :
    Same 0x191E024 s (State.commitDeadline s m) := by
  unfold State.commitDeadline
  try dsimp only
  repeat' with_reducible first
    | exact Same.refl _
    | (apply Same.step (State.commitSlot_same ..); decide)
    | refine Same.ite ?_ ?_
    | split

theorem State.boundSlots_same (s : State) (m : Nat) :
    Same 0x191E024 s (State.boundSlots s m) := by
  unfold State.boundSlots
  try dsimp only
  repeat' with_reducible first
    | exact Same.refl _
    | (apply Same.step (State.commitDeadline_same ..); decide)
    | refine Same.ite ?_ ?_

theorem State.mirrorPoint_same (s : State) (m : Nat) :
    Same 0x10000 s (State.mirrorPoint s m) := by
  unfold State.mirrorPoint
  try dsimp only
  repeat' with_reducible first
    | exact Same.refl _
    | (apply Same.step (State.onPoint_same ..); decide)
    | split

theorem State.mirrorSlots_same (s : State) :
    Same 0x10000 s (State.mirrorSlots s) := by
  unfold State.mirrorSlots
  try dsimp only
  repeat' with_reducible first
    | exact Same.refl _
    | (apply Same.step (State.mirrorPoint_same ..); decide)
    | refine Same.foldl (fun _ _ => ?_) ?_

theorem execCycleCommit_same (m : Nat) (s : State) :
    SameO 0x191E024 s (execCycleCommit m s) := by
  unfold execCycleCommit
  try dsimp only
  repeat' with_reducible first
    | exact Same.refl _
    | refine SameO.next ?_
    | (apply Same.step (State.commitSlot_same ..); decide)
    | refine Same.ite ?_ ?_
    | split

theorem execCycleCommitDeadline_same (m : Nat) (s : State) :
    SameO 0x191E024 s (execCycleCommitDeadline m s) := by
  unfold execCycleCommitDeadline
  try dsimp only
  repeat' with_reducible first
    | exact Same.refl _
    | refine SameO.next ?_
    | (apply Same.step (State.commitDeadline_same ..); decide)

end Sys2Proof.Machine
end

