-- ==== Sys2Proof/Laws/FrameStore.lean ====
section
/-! SUPPORT. What each function of Store can change: the mask of the parts, and never what `Same` forbids. -/
namespace Sys2Proof.Machine

theorem State.checkpoint_same (s : State) :
    Same 0x2010008 s (State.checkpoint s) := by
  unfold State.checkpoint
  extract_lets -merge x1 x2 x3 x4
  refine Same.cut (w := 0x2010008) (s := s) (x := x3) (fun _ => ?_) ?_
  clear_value x3
  refine Same.cut (w := 0x2010008) (s := s) (x := x4) (fun _ => ?_) ?_
  clear_value x4
  all_goals
    repeat' with_reducible first
      | exact Same.refl _
      | assumption
      | unfold x3
      | unfold x4
      | (apply Same.step (State.enqueue_same ..); decide)
      | (apply Same.step (State.onPoint_same ..); decide)
      | (apply Same.step (State.onPower_same ..); decide)
      | refine Same.foldl (fun _ _ => ?_) ?_

theorem execCheckpoint_same (s : State) :
    SameO 0x2010008 s (execCheckpoint s) := by
  unfold execCheckpoint
  try dsimp only
  repeat' with_reducible first
    | exact Same.refl _
    | refine SameO.next ?_
    | (apply Same.step (State.checkpoint_same ..); decide)
    | refine Same.ite ?_ ?_

theorem cmdReadProfile_same (s : State) (r : Request) :
    SameE 0x2010180 s (cmdReadProfile s r) := by
  unfold cmdReadProfile
  try dsimp only
  repeat' with_reducible first
    | exact Same.refl _
    | refine SameE.ok ?_
    | (apply Same.step (State.countTorn_same ..); decide)
    | (apply Same.step (State.onPoint_same ..); decide)
    | (apply Same.step (State.replyOk_same ..); decide)
    | (apply Same.step (State.enqueue_same ..); decide)
    | refine SameE.bind (fun _ => ?_)
    | refine SameE.ite ?_ ?_

theorem cmdReadSnapshot_same (s : State) (r : Request) :
    SameE 0x2000180 s (cmdReadSnapshot s r) := by
  unfold cmdReadSnapshot
  try dsimp only
  repeat' with_reducible first
    | exact Same.refl _
    | refine SameE.ok ?_
    | (apply Same.step (State.countTorn_same ..); decide)
    | (apply Same.step (State.replyOk_same ..); decide)
    | refine SameE.bind (fun _ => ?_)
    | refine Same.ite ?_ ?_

theorem cmdStoreStatus_same (s : State) (r : Request) :
    SameE 0x180 s (cmdStoreStatus s r) := by
  unfold cmdStoreStatus
  try dsimp only
  repeat' with_reducible first
    | exact Same.refl _
    | refine SameE.ok ?_
    | (apply Same.step (State.replyOk_same ..); decide)
    | refine SameE.bind (fun _ => ?_)

theorem cmdScrubNow_same (s : State) (r : Request) :
    SameE 0x2000180 s (cmdScrubNow s r) := by
  unfold cmdScrubNow
  try dsimp only
  repeat' with_reducible first
    | exact Same.refl _
    | exact SameE.error
    | refine SameE.ok ?_
    | (apply Same.step (State.accept_same (by assumption)); decide)
    | (apply Same.step (State.onStore_same ..) <;> first | decide | exact fun _ => rfl | (intro _; split <;> rfl) | show Same _ _ _)
    | refine SameE.bind (fun _ => ?_)
    | split

theorem cmdCheckpointNow_same (s : State) (r : Request) :
    SameE 0x188 s (cmdCheckpointNow s r) := by
  unfold cmdCheckpointNow
  try dsimp only
  repeat' with_reducible first
    | exact Same.refl _
    | exact SameE.error
    | refine SameE.ok ?_
    | (apply Same.step (State.accept_same (by assumption)); decide)
    | (apply Same.step (State.onPower_same ..); decide)
    | refine SameE.bind (fun _ => ?_)
    | split

theorem cmdHostArea_same (s : State) (r : Request) :
    SameE 0x2000180 s (cmdHostArea s r) := by
  unfold cmdHostArea
  try dsimp only
  repeat' with_reducible first
    | exact Same.refl _
    | refine SameE.ok ?_
    | (apply Same.step (State.replyOk_same ..); decide)
    | (apply Same.step (State.enqueue_same ..); decide)
    | refine SameE.bind (fun _ => ?_)
    | refine SameE.ite ?_ ?_

theorem State.pauseScrub_same (s : State) :
    Same 0x2000080 s (State.pauseScrub s) := by
  unfold State.pauseScrub
  try dsimp only
  repeat' with_reducible first
    | exact Same.refl _
    | (apply Same.step (State.finish_same ..); decide)
    | (apply Same.step (State.onStore_same ..) <;> first | decide | exact fun _ => rfl | (intro _; split <;> rfl) | show Same _ _ _)
    | split

theorem State.ckptRecord_same (s : State) (j : StoreJob) :
    Same 0x88 s (State.ckptRecord s j) := by
  unfold State.ckptRecord
  extract_lets -merge x1 x2 x3
  refine Same.cut (w := 0x88) (s := s) (x := x2) (fun _ => ?_) ?_
  clear_value x2
  refine Same.cut (w := 0x88) (s := s) (x := x3) (fun _ => ?_) ?_
  clear_value x3
  all_goals
    repeat' with_reducible first
      | exact Same.refl _
      | assumption
      | unfold x2
      | unfold x3
      | (apply Same.step (State.onPower_same ..); decide)
      | (apply Same.step (State.finish_same ..); decide)
      | refine Same.foldl (fun _ _ => ?_) ?_
      | refine Same.ite ?_ ?_

theorem State.jobReleases_same (s : State) (j : StoreJob) :
    Same 0x800080 s (State.jobReleases s j) := by
  unfold State.jobReleases
  extract_lets -merge x1 x2
  refine Same.cut (w := 0x800080) (s := s) (x := x1) (fun _ => ?_) ?_
  clear_value x1
  refine Same.cut (w := 0x800080) (s := s) (x := x2) (fun _ => ?_) ?_
  clear_value x2
  all_goals
    repeat' with_reducible first
      | exact Same.refl _
      | assumption
      | unfold x1
      | unfold x2
      | (apply Same.step (State.releaseAsIs_same ..); decide)
      | (apply Same.step (State.finish_same ..); decide)
      | (apply Same.step (State.raise_same ..); decide)
      | split

theorem State.scrubPace_same (s : State) :
    Same 0x2000010 s (State.scrubPace s) := by
  unfold State.scrubPace
  try dsimp only
  repeat' with_reducible first
    | exact Same.refl _
    | (apply Same.step (State.onStore_same ..) <;> first | decide | exact fun _ => rfl | (intro _; split <;> rfl) | show Same _ _ _)
    | (apply Same.step (State.onClock_same ..) <;> first | decide | exact fun _ => rfl | (intro _; split <;> rfl) | show Same _ _ _)
    | refine Same.ite ?_ ?_

theorem State.confirmFirst_same (s : State) :
    Same 0xA810088 s (State.confirmFirst s) := by
  unfold State.confirmFirst
  try dsimp only
  repeat' with_reducible first
    | exact Same.refl _
    | (apply Same.step (State.writeJob_same ..); decide)
    | (apply Same.step (State.onStore_same ..) <;> first | decide | exact fun _ => rfl | (intro _; split <;> rfl) | show Same _ _ _)
    | (apply Same.step (State.ckptRecord_same ..); decide)
    | (apply Same.step (State.jobReleases_same ..); decide)
    | split

theorem State.deferFirst_same (s : State) (j : StoreJob) (r : List StoreJob) (vhold : Nat) :
    Same 0x2000000 s (State.deferFirst s j r vhold) := by
  unfold State.deferFirst
  try dsimp only
  repeat' with_reducible first
    | exact Same.refl _
    | (apply Same.step (State.voidRec_same ..); decide)
    | (apply Same.step (State.onStore_same ..) <;> first | decide | exact fun _ => rfl | (intro _; split <;> rfl) | show Same _ _ _)
    | refine Same.foldl (fun _ _ => ?_) ?_
    | refine Same.ite ?_ ?_

theorem State.tryFirst_same (s : State) (vhold : Nat) :
    Same 0xA810088 s (State.tryFirst s vhold) := by
  unfold State.tryFirst
  try dsimp only
  repeat' with_reducible first
    | exact Same.refl _
    | (apply Same.step (State.onPower_same ..); decide)
    | (apply Same.step (State.confirmFirst_same ..); decide)
    | (apply Same.step (State.deferFirst_same ..); decide)
    | refine Same.ite ?_ ?_
    | split

theorem State.writerRecheck_same (s : State) (vhold : Nat) :
    Same 0xA810088 s (State.writerRecheck s vhold) := by
  unfold State.writerRecheck
  try dsimp only
  repeat' with_reducible first
    | exact Same.refl _
    | (apply Same.step (State.tryFirst_same ..); decide)
    | refine Same.ite ?_ ?_
    | split

theorem State.damage_same (s : State) (addr : Nat) :
    Same 0x2000000 s (State.damage s addr) := by
  unfold State.damage
  try dsimp only
  repeat' with_reducible first
    | exact Same.refl _
    | (apply Same.step (State.onStore_same ..) <;> first | decide | exact fun _ => rfl | (intro _; split <;> rfl) | show Same _ _ _)
    | (apply Same.step (State.writePoint_same ..); decide)
    | (apply Same.step (State.writeRelayRec_same ..); decide)
    | (apply Same.step (State.q12_same ..); decide)
    | (apply Same.step (State.writeSequencer_same ..); decide)
    | (apply Same.step (State.writeSeal_same ..); decide)
    | (apply Same.step (State.writeEvidence_same ..); decide)
    | refine Same.ite ?_ ?_

theorem State.uncorrectable_same (s : State) (addr : Nat) :
    Same 0x800000 s (State.uncorrectable s addr) := by
  unfold State.uncorrectable
  try dsimp only
  repeat' with_reducible first
    | exact Same.refl _
    | (apply Same.step (State.raise_same ..); decide)
    | (apply Same.step (State.onEvents_same ..); decide)
    | refine Same.ite ?_ ?_

theorem State.rewriteWord_same (s : State) (addr : Nat) (value again : WordRead) :
    Same 0x800000 s (State.rewriteWord s addr value again) := by
  unfold State.rewriteWord
  try dsimp only
  repeat' with_reducible first
    | exact Same.refl _
    | (apply Same.step (State.raise_same ..); decide)
    | refine Same.ite ?_ ?_

theorem State.scrubAct_same (s : State) (addr : Nat) (normal margin again : WordRead) :
    Same 0x2800000 s (State.scrubAct s addr normal margin again) := by
  unfold State.scrubAct
  try dsimp only
  repeat' with_reducible first
    | exact Same.refl _
    | (apply Same.step (State.onStore_same ..) <;> first | decide | exact fun _ => rfl | (intro _; split <;> rfl) | show Same _ _ _)
    | (apply Same.step (State.damage_same ..); decide)
    | (apply Same.step (State.uncorrectable_same ..); decide)
    | (apply Same.step (State.rewriteWord_same ..); decide)
    | refine Same.ite ?_ ?_
    | split

theorem State.endPass_same (s : State) :
    Same 0x2800080 s (State.endPass s) := by
  unfold State.endPass
  extract_lets -merge x1 x2 x3 x4
  refine Same.cut (w := 0x2800080) (s := s) (x := x2) (fun _ => ?_) ?_
  clear_value x2
  refine Same.cut (w := 0x2800080) (s := s) (x := x3) (fun _ => ?_) ?_
  clear_value x3
  all_goals
    repeat' with_reducible first
      | exact Same.refl _
      | assumption
      | unfold x2
      | unfold x3
      | (apply Same.step (State.raise_same ..); decide)
      | (apply Same.step (State.finish_same ..); decide)
      | (apply Same.step (State.commitOp_same ..); decide)
      | (apply Same.step (State.onStore_same ..) <;> first | decide | exact fun _ => rfl | (intro _; split <;> rfl) | show Same _ _ _)
      | unfold x1
      | refine Same.ite ?_ ?_
      | split

theorem execScrubWord_same (normal margin again : WordRead) (s : State) :
    SameO 0x2800090 s (execScrubWord normal margin again s) := by
  unfold execScrubWord
  extract_lets -merge x1 x2 x3
  refine Same.cut (w := 0x2800090) (s := s) (x := x1) (fun _ => ?_) ?_
  clear_value x1
  refine Same.cut (w := 0x2800090) (s := s) (x := x3) (fun _ => ?_) ?_
  clear_value x3
  all_goals
    repeat' with_reducible first
      | exact Same.refl _
      | assumption
      | unfold x1
      | unfold x3
      | refine SameO.next ?_
      | (apply Same.step (State.scrubPace_same ..); decide)
      | (apply Same.step (State.scrubAct_same ..); decide)
      | (apply Same.step (State.onStore_same ..) <;> first | decide | exact fun _ => rfl | (intro _; split <;> rfl) | show Same _ _ _)
      | (apply Same.step (State.endPass_same ..); decide)
      | unfold x2
      | refine Same.ite ?_ ?_

theorem State.keepLargest_same (s : State) (j : StoreJob) :
    Same 0x10000 s (State.keepLargest s j) := by
  unfold State.keepLargest
  try dsimp only
  repeat' with_reducible first
    | exact Same.refl _
    | (apply Same.step (State.onPoint_same ..); decide)
    | refine Same.foldl (fun _ _ => ?_) ?_
    | refine Same.ite ?_ ?_
    | split

theorem State.stopCheckpoint_same (s : State) :
    Same 0x2010008 s (State.stopCheckpoint s) := by
  unfold State.stopCheckpoint
  extract_lets -merge x1 x2
  refine Same.cut (w := 0x2010008) (s := s) (x := x1) (fun _ => ?_) ?_
  clear_value x1
  refine Same.cut (w := 0x2010008) (s := s) (x := x2) (fun _ => ?_) ?_
  clear_value x2
  all_goals
    repeat' with_reducible first
      | exact Same.refl _
      | assumption
      | unfold x1
      | unfold x2
      | (apply Same.step (State.onPower_same ..); decide)
      | (apply Same.step (State.keepLargest_same ..); decide)
      | (apply Same.step (State.onStore_same ..) <;> first | decide | exact fun _ => rfl | (intro _; split <;> rfl) | show Same _ _ _)
      | refine Same.foldl (fun _ _ => ?_) ?_
      | refine Same.ite ?_ ?_

theorem State.storeJobConfirm_same (s : State) (vhold : Nat) :
    Same 0xA810088 s (State.storeJobConfirm s vhold) := by
  unfold State.storeJobConfirm
  try dsimp only
  repeat' with_reducible first
    | exact Same.refl _
    | (apply Same.step (State.tryFirst_same ..); decide)
    | refine Same.ite ?_ ?_
    | split

end Sys2Proof.Machine
end

