-- ==== Sys2Proof/Laws/FrameModes.lean ====
section
/-! SUPPORT. What each function of Modes can change: the mask of the parts, and never what `Same` forbids. -/
namespace Sys2Proof.Machine

theorem State.requestMode_same (s : State) (q : ModeReq) :
    Same 0x20 s (State.requestMode s q) := by
  unfold State.requestMode
  try dsimp only
  repeat' with_reducible first
    | exact Same.refl _
    | (apply Same.step (State.onMode_same ..); decide)
    | refine Same.ite ?_ ?_

theorem cmdSetMode_same (s : State) (r : Request) :
    SameE 0x160001A8 s (cmdSetMode s r) := by
  unfold cmdSetMode
  try dsimp only
  repeat' with_reducible first
    | exact Same.refl _
    | assumption
    | refine SameE.ok ?_
    | (apply SameE.bindS (SameE.step (order5_same ..) ?_ ?_) ?_ <;> first | decide | intro _ _ | skip)
    | (apply Same.step (State.onMode_same ..); decide)
    | (apply Same.step (State.configWrite_same ..); decide)
    | (apply Same.step (State.onPower_same ..); decide)
    | (apply Same.step (State.replyOk_same ..); decide)
    | (apply Same.step (State.requestMode_same ..); decide)
    | refine SameE.bind (fun _ => ?_)
    | refine SameE.ite ?_ ?_
    | refine Same.ite ?_ ?_

theorem State.closeDebug_same (s : State) :
    Same 0x60 s (State.closeDebug s) := by
  unfold State.closeDebug
  try dsimp only
  repeat' with_reducible first
    | exact Same.refl _
    | (apply Same.step (State.onCp_same ..); decide)
    | (apply Same.step (State.onMode_same ..); decide)

theorem State.enterD2_same (s : State) :
    Same 0x7C10024 s (State.enterD2 s) := by
  unfold State.enterD2
  extract_lets -merge x1 x2 x3
  refine Same.cut (w := 0x7C10024) (s := s) (x := x1) (fun _ => ?_) ?_
  clear_value x1
  refine Same.cut (w := 0x7C10024) (s := s) (x := x2) (fun _ => ?_) ?_
  clear_value x2
  refine Same.cut (w := 0x7C10024) (s := s) (x := x3) (fun _ => ?_) ?_
  clear_value x3
  all_goals
    repeat' with_reducible first
      | exact Same.refl _
      | assumption
      | unfold x1
      | unfold x2
      | unfold x3
      | (apply Same.step (State.onMode_same ..); decide)
      | (apply Same.step (State.onSec_same ..); decide)
      | (apply Same.step (State.setCause_same ..); decide)
      | (apply Same.step (State.evidenceIncrement_same ..); decide)
      | refine Same.foldl (fun _ _ => ?_) ?_
      | refine Same.ite ?_ ?_

theorem State.applyDebug_same (s : State) :
    Same 0x7C10024 s (State.applyDebug s) := by
  unfold State.applyDebug
  try dsimp only
  repeat' with_reducible first
    | exact Same.refl _
    | (apply Same.step (State.onMode_same ..); decide)
    | (apply Same.step (State.raise_same ..); decide)
    | (apply Same.step (State.enterD2_same ..); decide)
    | refine Same.ite ?_ ?_
    | split

theorem State.enterMode_same (s : State) (new : Mode) (cause : Nat) :
    Same 0xE8030A8 s (State.enterMode s new cause) := by
  unfold State.enterMode
  extract_lets -merge x1 x2 x3
  refine Same.cut (w := 0xE8030A8) (s := s) (x := x2) (fun _ => ?_) ?_
  clear_value x2
  refine Same.cut (w := 0xE8030A8) (s := s) (x := x3) (fun _ => ?_) ?_
  clear_value x3
  all_goals
    repeat' with_reducible first
      | exact Same.refl _
      | assumption
      | unfold x2
      | unfold x3
      | (apply Same.step (State.onMode_same ..); decide)
      | (apply Same.step (State.modeHits_same ..); decide)
      | (apply Same.step (State.raise_same ..); decide)
      | refine Same.foldl (fun _ _ => ?_) ?_
      | unfold x1
      | refine Same.ite ?_ ?_

theorem State.applyMode_same (s : State) (q : ModeReq) :
    Same 0xE8030A8 s (State.applyMode s q) := by
  unfold State.applyMode
  try dsimp only
  repeat' with_reducible first
    | exact Same.refl _
    | (apply Same.step (State.enterMode_same ..); decide)
    | (apply Same.step (State.onMode_same ..); decide)
    | refine Same.ite ?_ ?_
    | split

theorem State.applyModes_same (s : State) :
    Same 0x1E8030A8 s (State.applyModes s) := by
  unfold State.applyModes
  extract_lets -merge x1 x2 x3
  refine Same.cut (w := 0x1E8030A8) (s := s) (x := x2) (fun _ => ?_) ?_
  clear_value x2
  refine Same.cut (w := 0x1E8030A8) (s := s) (x := x3) (fun _ => ?_) ?_
  clear_value x3
  all_goals
    repeat' with_reducible first
      | exact Same.refl _
      | assumption
      | unfold x2
      | unfold x3
      | (apply Same.step (State.applyMode_same ..); decide)
      | (apply Same.step (State.onMode_same ..); decide)
      | (apply Same.step (State.configWrite_same ..); decide)
      | (apply Same.step (State.onWaiting_same ..); decide)
      | refine Same.foldl (fun _ _ => ?_) ?_
      | unfold x1
      | refine Same.ite ?_ ?_
      | split

theorem State.judgeDegradation_same (s : State) :
    Same 0x20 s (State.judgeDegradation s) := by
  unfold State.judgeDegradation
  try dsimp only
  repeat' with_reducible first
    | exact Same.refl _
    | (apply Same.step (State.requestMode_same ..); decide)
    | refine Same.ite ?_ ?_

theorem execDebugLevelExpiry_same (s : State) :
    SameO 0x60 s (execDebugLevelExpiry s) := by
  unfold execDebugLevelExpiry
  try dsimp only
  repeat' with_reducible first
    | exact Same.refl _
    | refine SameO.next ?_
    | (apply Same.step (State.closeDebug_same ..); decide)
    | refine Same.ite ?_ ?_

theorem execCalibrateTimeout_same (s : State) :
    SameO 0x20 s (execCalibrateTimeout s) := by
  unfold execCalibrateTimeout
  try dsimp only
  repeat' with_reducible first
    | exact Same.refl _
    | refine SameO.next ?_
    | (apply Same.step (State.requestMode_same ..); decide)
    | refine Same.ite ?_ ?_

theorem execCalLinkOpenTimeout_same (s : State) :
    SameO 0x20 s (execCalLinkOpenTimeout s) := by
  unfold execCalLinkOpenTimeout
  try dsimp only
  repeat' with_reducible first
    | exact Same.refl _
    | refine SameO.next ?_
    | (apply Same.step (State.requestMode_same ..); decide)
    | refine Same.ite ?_ ?_

theorem State.calSample_same (s : State) (shorted : Bool) :
    Same 0x5000000 s (State.calSample s shorted) := by
  unfold State.calSample
  try dsimp only
  repeat' with_reducible first
    | exact Same.refl _
    | (apply Same.step (State.onTamper_same ..); decide)
    | (apply Same.step (State.onSec_same ..); decide)
    | refine Same.ite ?_ ?_

theorem execCalLink_same (samples : List Bool) (s : State) :
    SameO 0x5000000 s (execCalLink samples s) := by
  unfold execCalLink
  try dsimp only
  repeat' with_reducible first
    | exact Same.refl _
    | refine SameO.next ?_
    | (apply Same.step (State.calSample_same ..); decide)
    | refine Same.foldl (fun _ _ => ?_) ?_

end Sys2Proof.Machine
end

