-- ==== Sys2Proof/Laws/FrameSecurity.lean ====
section
/-! SUPPORT. What each function of Security can change: the mask of the parts, and never what `Same` forbids. -/
namespace Sys2Proof.Machine

theorem PairLe.programmed (p : OtpPair) : PairLe p programmed := ⟨fun _ => rfl, fun _ => rfl⟩

theorem seal0_le (o : Otp) (x y : Option (List Byte)) : OtpLe o { o with idSeed := x, transportSeed := y } := by
  constructor <;> first | exact .refl _ | exact fun _ => .refl _ | exact List.prefix_rfl

theorem seal_le (o : Otp) {c : Prop} [Decidable c] :
    OtpLe o (if c then { o with l1 := programmed } else { o with l2 := programmed }) := by
  split <;> constructor <;> first | exact .refl _ | exact fun _ => .refl _ | exact List.prefix_rfl | exact .programmed _

theorem Otp.burnSeeds_le (o : Otp) : OtpLe o o.burnSeeds := seal0_le ..

theorem zeroise_le (o : Otp) : OtpLe o ({ o with l1 := programmed, l2 := programmed, l3 := programmed } : Otp).burnSeeds := by
  constructor <;> first | exact .refl _ | exact fun _ => .refl _ | exact List.prefix_rfl | exact .programmed _

theorem cmdCalWrite_same (s : State) (r : Request) :
    SameE 0x4000180 s (cmdCalWrite s r) := by
  unfold cmdCalWrite
  try dsimp only
  repeat' with_reducible first
    | exact Same.refl _
    | exact SameE.error
    | refine SameE.ok ?_
    | (apply Same.step (State.replyOk_same ..); decide)
    | (apply Same.step (State.onSec_same ..); decide)
    | (apply Same.step (State.accept_same (by assumption)); decide)
    | refine SameE.bind (fun _ => ?_)
    | refine SameE.ite ?_ ?_
    | split

theorem cmdCalMeasure_same (s : State) (r : Request) :
    SameE 0x4000180 s (cmdCalMeasure s r) := by
  unfold cmdCalMeasure
  try dsimp only
  repeat' with_reducible first
    | exact Same.refl _
    | exact SameE.error
    | refine SameE.ok ?_
    | (apply Same.step (State.replyOk_same ..); decide)
    | (apply Same.step (State.accept_same (by assumption)); decide)
    | (apply Same.step (State.onSec_same ..); decide)
    | refine SameE.bind (fun _ => ?_)
    | refine SameE.ite ?_ ?_
    | split

theorem cmdSeal_same (s : State) (r : Request) :
    SameE 0x14800184 s (cmdSeal s r) := by
  unfold cmdSeal
  try dsimp only
  repeat' with_reducible first
    | exact Same.refl _
    | assumption
    | refine SameE.ok ?_
    | (apply SameE.bindS (SameE.step (order5_same ..) ?_ ?_) ?_ <;> first | decide | intro _ _ | skip)
    | (apply Same.step (State.replyOk_same ..); decide)
    | (apply Same.step (State.drawBytes_same ..); decide)
    | (apply Same.step (State.onOtp_same ..) <;> first | decide | (intro o; exact seal0_le ..) | show Same _ _ _)
    | (apply Same.step (State.onOtp_same ..) <;> first | decide | (intro o; exact seal_le ..) | show Same _ _ _)
    | (apply Same.step (State.onSec_same ..); decide)
    | (apply Same.step (State.raise_same ..); decide)
    | refine SameE.bind (fun _ => ?_)
    | refine SameE.ite ?_ ?_
    | refine Same.ite ?_ ?_

theorem State.sign_same (s : State) (ctx : String) (msg : List Byte) :
    Same 0x10000000 s (State.sign s ctx msg).2 := by
  unfold State.sign
  try dsimp only
  repeat' with_reducible first
    | exact Same.refl _
    | (apply Same.step (State.drawBytes_same ..); decide)

theorem cmdAttest_same (s : State) (r : Request) :
    SameE 0x10000180 s (cmdAttest s r) := by
  unfold cmdAttest
  try dsimp only
  repeat' with_reducible first
    | exact Same.refl _
    | refine SameE.ok ?_
    | (apply Same.step (State.drawBytes_same ..); decide)
    | (apply Same.step (State.sign_same ..); decide)
    | (apply Same.step (State.replyOk_same ..); decide)
    | refine SameE.bind (fun _ => ?_)

theorem cmdSignReading_same (s : State) (r : Request) :
    SameE 0x10000180 s (cmdSignReading s r) := by
  unfold cmdSignReading
  try dsimp only
  repeat' with_reducible first
    | exact Same.refl _
    | refine SameE.ok ?_
    | (apply Same.step (State.sign_same ..); decide)
    | (apply Same.step (State.replyOk_same ..); decide)
    | refine SameE.bind (fun _ => ?_)
    | refine SameE.ite ?_ ?_
    | split

theorem cmdLoadKeys_same (s : State) (r : Request) :
    SameE 0x4000180 s (cmdLoadKeys s r) := by
  unfold cmdLoadKeys
  try dsimp only
  repeat' with_reducible first
    | exact Same.refl _
    | exact SameE.error
    | refine SameE.ok ?_
    | (apply Same.step (State.replyOk_same ..); decide)
    | (apply Same.step (State.onSec_same ..); decide)
    | (apply Same.step (State.accept_same (by assumption)); decide)
    | refine SameE.bind (fun _ => ?_)
    | refine SameE.ite ?_ ?_
    | split

theorem cmdGetCerts_same (s : State) (r : Request) :
    SameE 0x180 s (cmdGetCerts s r) := by
  unfold cmdGetCerts
  try dsimp only
  repeat' with_reducible first
    | exact Same.refl _
    | refine SameE.ok ?_
    | (apply Same.step (State.replyOk_same ..); decide)
    | refine SameE.bind (fun _ => ?_)
    | refine SameE.ite ?_ ?_

theorem debugCert_same (s : State) (level : Nat) (cert : List Byte) :
    SameEP 0x4000000 s (debugCert s level cert) := by
  unfold debugCert
  try dsimp only
  repeat' with_reducible first
    | exact Same.refl _
    | exact SameEP.error
    | refine SameEP.ok ?_
    | (apply Same.step (State.takeSeq_same ..); decide)
    | refine SameEP.bind (fun _ => ?_)
    | split

theorem debugRight_same (s : State) (level : Nat) (cert : List Byte) :
    SameEP 0x4000000 s (debugRight s level cert) := by
  unfold debugRight
  try dsimp only
  repeat' with_reducible first
    | exact Same.refl _
    | refine SameEP.ok ?_
    | (refine SameEP.mono (debugCert_same ..) ?_; decide)
    | refine SameEP.ite ?_ ?_

theorem cmdDebugAuth_same (s : State) (r : Request) :
    SameE 0x40001E0 s (cmdDebugAuth s r) := by
  unfold cmdDebugAuth
  try dsimp only
  repeat' with_reducible first
    | assumption
    | refine SameE.ok ?_
    | (apply SameE.bindEP (debugRight_same ..) <;> first | decide | intro _ _ | skip)
    | (apply Same.step (State.closeDebug_same ..); decide)
    | (apply Same.step (State.onMode_same ..); decide)
    | (apply Same.step (State.replyOk_same ..); decide)
    | refine SameE.bind (fun _ => ?_)
    | refine Same.ite ?_ ?_

theorem cmdZeroise_same (s : State) (r : Request) :
    SameE 0x168001A4 s (cmdZeroise s r) := by
  unfold cmdZeroise
  try dsimp only
  repeat' with_reducible first
    | exact Same.refl _
    | assumption
    | refine SameE.ok ?_
    | (apply SameE.bindS (SameE.step (order5_same ..) ?_ ?_) ?_ <;> first | decide | intro _ _ | skip)
    | (apply Same.step (State.onOtp_same ..) <;> first | decide | (intro o; exact zeroise_le ..) | show Same _ _ _)
    | (apply Same.step (State.onSec_same ..); decide)
    | (apply Same.step (State.raise_same ..); decide)
    | (apply Same.step (State.configWrite_same ..); decide)
    | (apply Same.step (State.replyOk_same ..); decide)
    | (apply Same.step (State.requestMode_same ..); decide)
    | refine SameE.bind (fun _ => ?_)

theorem State.jobEnd_same (s : State) (j : SecJob) (st : Status) (detail result : Nat) :
    Same 0x80 s (State.jobEnd s j st detail result) := by
  unfold State.jobEnd
  try dsimp only
  repeat' with_reducible first
    | exact Same.refl _
    | (apply Same.step (State.finish_same ..); decide)
    | split

theorem State.calCommit_same (s : State) (j : SecJob) (pk : Package) (items : List EffItem) (move : Bool) :
    Same 0x17802084 s (State.calCommit s j pk items move) := by
  unfold State.calCommit
  extract_lets -merge x1 x2 x3 x4 x5 x6 x7 x8 x9 x10
  refine Same.cut (w := 0x17802084) (s := s) (x := x3) (fun _ => ?_) ?_
  clear_value x3
  refine Same.cut (w := 0x17802084) (s := s) (x := x4) (fun _ => ?_) ?_
  clear_value x4
  refine Same.cut (w := 0x17802084) (s := s) (x := x6) (fun _ => ?_) ?_
  clear_value x6
  refine Same.cut (w := 0x17802084) (s := s) (x := x7) (fun _ => ?_) ?_
  clear_value x7
  refine Same.cut (w := 0x17802084) (s := s) (x := x8) (fun _ => ?_) ?_
  clear_value x8
  refine Same.cut (w := 0x17802084) (s := s) (x := x9) (fun _ => ?_) ?_
  clear_value x9
  refine Same.cut (w := 0x17802084) (s := s) (x := x10) (fun _ => ?_) ?_
  clear_value x10
  all_goals
    repeat' with_reducible first
      | exact Same.refl _
      | assumption
      | unfold x3
      | unfold x4
      | unfold x6
      | unfold x7
      | unfold x8
      | unfold x9
      | unfold x10
      | (apply Same.step (State.evidenceIncrement_same ..); decide)
      | (apply Same.step (State.takeSeq_same ..); decide)
      | (apply Same.step (State.onSec_same ..); decide)
      | (apply Same.step (State.configWrite_same ..); decide)
      | (apply Same.step (State.writeSeal_same ..); decide)
      | (apply Same.step (State.raise_same ..); decide)
      | (apply Same.step (State.commitOp_same ..); decide)
      | (apply Same.step (State.onEngine_same ..); decide)
      | unfold x1
      | unfold x2
      | unfold x5
      | refine Same.ite ?_ ?_
      | split

theorem State.calDone_same (s : State) (j : SecJob) (poisoned : Bool) :
    Same 0x17802C84 s (State.calDone s j poisoned) := by
  unfold State.calDone
  try dsimp only
  repeat' with_reducible first
    | exact Same.refl _
    | (apply Same.step (State.jobEnd_same ..); decide)
    | (apply Same.step (State.authFail_same ..); decide)
    | (apply Same.step (State.pkgFail_same ..); decide)
    | (apply Same.step (State.calCommit_same ..); decide)
    | refine Same.ite ?_ ?_
    | split

theorem State.keyVerified_same (s : State) (j : SecJob) :
    Same 0x4800080 s (State.keyVerified s j) := by
  unfold State.keyVerified
  try dsimp only
  repeat' with_reducible first
    | exact Same.refl _
    | (apply Same.step (State.jobEnd_same ..); decide)
    | (apply Same.step (State.pkgFail_same ..); decide)
    | (apply Same.step (State.onSec_same ..); decide)
    | refine Same.ite ?_ ?_
    | split

theorem State.installKey_same (s : State) (a : Nat) (k : List Byte) :
    Same 0x16000000 s (State.installKey s a k) := by
  unfold State.installKey
  try dsimp only
  repeat' with_reducible first
    | exact Same.refl _
    | (apply Same.step (State.configWrite_same ..); decide)
    | (apply Same.step (State.onSec_same ..); decide)

theorem State.loadPublic_same (s : State) (j : SecJob) :
    Same 0x16000080 s (State.loadPublic s j) := by
  unfold State.loadPublic
  try dsimp only
  repeat' with_reducible first
    | exact Same.refl _
    | (apply Same.step (State.jobEnd_same ..); decide)
    | (apply Same.step (State.installKey_same ..); decide)
    | refine Same.ite ?_ ?_
    | split

theorem State.programAnchor_same (s : State) (a : Nat) (d : List Byte) :
    Same 0x4 s (State.programAnchor s a d) := by
  unfold State.programAnchor
  refine Same.step (State.onOtp_same s _ ?_) (by decide) (.refl _)
  intro o
  split
  · exact .refl _
  · split <;> constructor <;> first | exact .refl _ | exact fun _ => .refl _ | exact List.prefix_append .. | exact List.prefix_rfl

theorem State.loadAnchor_same (s : State) (j : SecJob) :
    Same 0x84 s (State.loadAnchor s j) := by
  unfold State.loadAnchor
  try dsimp only
  repeat' with_reducible first
    | exact Same.refl _
    | (apply Same.step (State.jobEnd_same ..); decide)
    | (apply Same.step (State.programAnchor_same ..); decide)
    | refine Same.ite ?_ ?_

theorem State.rotateAnchor_same (s : State) (j : SecJob) :
    Same 0x16800084 s (State.rotateAnchor s j) := by
  unfold State.rotateAnchor
  try dsimp only
  repeat' with_reducible first
    | exact Same.refl _
    | (apply Same.step (State.jobEnd_same ..); decide)
    | (apply Same.step (State.pkgFail_same ..); decide)
    | (apply Same.step (State.authFail_same ..); decide)
    | (apply Same.step (State.writeSeal_same ..); decide)
    | (apply Same.step (State.takeSeq_same ..); decide)
    | (apply Same.step (State.installKey_same ..); decide)
    | (apply Same.step (State.programAnchor_same ..); decide)
    | refine Same.ite ?_ ?_
    | split

theorem State.loadCertificate_same (s : State) (j : SecJob) :
    Same 0x16800080 s (State.loadCertificate s j) := by
  unfold State.loadCertificate
  try dsimp only
  repeat' with_reducible first
    | exact Same.refl _
    | (apply Same.step (State.jobEnd_same ..); decide)
    | (apply Same.step (State.pkgFail_same ..); decide)
    | (apply Same.step (State.configWrite_same ..); decide)
    | (apply Same.step (State.onSec_same ..); decide)
    | refine Same.ite ?_ ?_
    | split

theorem State.keyDone_same (s : State) (f : Nat) (j : SecJob) (poisoned : Bool) :
    Same 0x16800084 s (State.keyDone s f j poisoned) := by
  unfold State.keyDone
  try dsimp only
  repeat' with_reducible first
    | exact Same.refl _
    | (apply Same.step (State.jobEnd_same ..); decide)
    | (apply Same.step (State.authFail_same ..); decide)
    | (apply Same.step (State.keyVerified_same ..); decide)
    | (apply Same.step (State.loadPublic_same ..); decide)
    | (apply Same.step (State.loadAnchor_same ..); decide)
    | (apply Same.step (State.rotateAnchor_same ..); decide)
    | (apply Same.step (State.loadCertificate_same ..); decide)
    | refine Same.ite ?_ ?_
    | split

theorem State.applyKey_same (s : State) (e : KeyEntry) :
    Same 0x4000000 s (State.applyKey s e) := by
  unfold State.applyKey
  try dsimp only
  repeat' with_reducible first
    | exact Same.refl _
    | (apply Same.step (State.onSec_same ..); decide)
    | refine Same.ite ?_ ?_

theorem State.keysDecrypted_same (s : State) (j : SecJob) :
    Same 0x16800080 s (State.keysDecrypted s j) := by
  unfold State.keysDecrypted
  try dsimp only
  repeat' with_reducible first
    | exact Same.refl _
    | (apply Same.step (State.jobEnd_same ..); decide)
    | (apply Same.step (State.pkgFail_same ..); decide)
    | (apply Same.step (State.authFail_same ..); decide)
    | (apply Same.step (State.writeSeal_same ..); decide)
    | (apply Same.step (State.configWrite_same ..); decide)
    | (apply Same.step (State.applyKey_same ..); decide)
    | (apply Same.step (State.takeSeq_same ..); decide)
    | refine Same.foldl (fun _ _ => ?_) ?_
    | split

theorem State.decryptDone_same (s : State) (j : SecJob) (poisoned : Bool) :
    Same 0x16800080 s (State.decryptDone s j poisoned) := by
  unfold State.decryptDone
  try dsimp only
  repeat' with_reducible first
    | exact Same.refl _
    | (apply Same.step (State.jobEnd_same ..); decide)
    | (apply Same.step (State.onSec_same ..); decide)
    | (apply Same.step (State.keysDecrypted_same ..); decide)
    | refine Same.ite ?_ ?_

theorem execEntropyFailure_same (s : State) :
    SameO 0x4800000 s (execEntropyFailure s) := by
  unfold execEntropyFailure
  try dsimp only
  repeat' with_reducible first
    | exact Same.refl _
    | refine SameO.next ?_
    | (apply Same.step (State.authFail_same ..); decide)
    | (apply Same.step (State.onSec_same ..); decide)
    | refine Same.ite ?_ ?_

theorem execBoundarySigning_same (s : State) :
    SameO 0x12100000 s (execBoundarySigning s) := by
  unfold execBoundarySigning
  try dsimp only
  repeat' with_reducible first
    | exact Same.refl _
    | refine SameO.next ?_
    | (apply Same.step (State.onTariff_same ..); decide)
    | (apply Same.step (State.sign_same ..); decide)
    | (apply Same.step (State.q12_same ..); decide)
    | refine Same.ite ?_ ?_
    | split

theorem execSessionKeyExpiry_same (anchor : Nat) (s : State) :
    SameO 0x4000000 s (execSessionKeyExpiry anchor s) := by
  unfold execSessionKeyExpiry
  try dsimp only
  repeat' with_reducible first
    | exact Same.refl _
    | refine SameO.next ?_
    | (apply Same.step (State.onSec_same ..); decide)
    | refine Same.ite ?_ ?_
    | split

end Sys2Proof.Machine
end

