-- ==== Sys2Proof/Laws/FrameImages.lean ====
section
/-! SUPPORT. What each function of Images can change: the mask of the parts, and never what `Same` forbids. -/
namespace Sys2Proof.Machine

theorem advance_le (o : Otp) (n : Nat) : OtpLe o { o with rollback := o.rollback ++ List.replicate n programmed } := by
  constructor <;> first | exact .refl _ | exact fun _ => .refl _ | exact List.prefix_rfl | exact PairsLe.append _ _

theorem cmdImageBegin_same (s : State) (r : Request) :
    SameE 0x1A000180 s (cmdImageBegin s r) := by
  unfold cmdImageBegin
  try dsimp only
  repeat' with_reducible first
    | exact Same.refl _
    | refine SameE.ok ?_
    | (apply Same.step (State.onImages_same ..); decide)
    | (apply Same.step (State.configWrite_same ..); decide)
    | (apply Same.step (State.replyOk_same ..); decide)
    | refine SameE.bind (fun _ => ?_)

theorem cmdImageData_same (s : State) (r : Request) :
    SameE 0xA000180 s (cmdImageData s r) := by
  unfold cmdImageData
  try dsimp only
  repeat' with_reducible first
    | exact Same.refl _
    | exact SameE.error
    | refine SameE.ok ?_
    | (apply Same.step (State.onImages_same ..); decide)
    | (apply Same.step (State.replyOk_same ..); decide)
    | (apply Same.step (State.enqueue_same ..); decide)
    | refine SameE.bind (fun _ => ?_)
    | split

theorem cmdImageEnd_same (s : State) (r : Request) :
    SameE 0x4000180 s (cmdImageEnd s r) := by
  unfold cmdImageEnd
  try dsimp only
  repeat' with_reducible first
    | exact Same.refl _
    | exact SameE.error
    | refine SameE.ok ?_
    | (apply Same.step (State.accept_same (by assumption)); decide)
    | (apply Same.step (State.onSec_same ..); decide)
    | refine SameE.bind (fun _ => ?_)
    | split

theorem cmdImageActivate_same (s : State) (r : Request) :
    SameE 0x8000180 s (cmdImageActivate s r) := by
  unfold cmdImageActivate
  try dsimp only
  repeat' with_reducible first
    | exact Same.refl _
    | refine SameE.ok ?_
    | (apply Same.step (State.replyOk_same ..); decide)
    | (apply Same.step (State.onImages_same ..); decide)
    | (apply Same.step (State.onPort_same ..); decide)
    | refine SameE.bind (fun _ => ?_)

theorem cmdUcodeActivate_same (s : State) (r : Request) :
    SameE 0x8000180 s (cmdUcodeActivate s r) := by
  unfold cmdUcodeActivate
  try dsimp only
  repeat' with_reducible first
    | exact Same.refl _
    | exact SameE.error
    | refine SameE.ok ?_
    | (apply Same.step (State.accept_same (by assumption)); decide)
    | (apply Same.step (State.onImages_same ..); decide)
    | refine SameE.bind (fun _ => ?_)
    | split

theorem State.imageDone_same (s : State) (target slot : Nat) (j : SecJob) (poisoned : Bool) :
    Same 0x1E800080 s (State.imageDone s target slot j poisoned) := by
  unfold State.imageDone
  try dsimp only
  repeat' with_reducible first
    | exact Same.refl _
    | (apply Same.step (State.onImages_same ..); decide)
    | (apply Same.step (State.jobEnd_same ..); decide)
    | (apply Same.step (State.authFail_same ..); decide)
    | (apply Same.step (State.pkgFail_same ..); decide)
    | (apply Same.step (State.commitOp_same ..); decide)
    | (apply Same.step (State.configWrite_same ..); decide)
    | refine Same.ite ?_ ?_
    | split

theorem State.jobDone_same (s : State) (j : SecJob) (poisoned : Bool) :
    Same 0x1F912C84 s (State.jobDone s j poisoned) := by
  unfold State.jobDone
  try dsimp only
  repeat' with_reducible first
    | exact Same.refl _
    | (apply Same.step (State.planDone_same ..); decide)
    | (apply Same.step (State.calDone_same ..); decide)
    | (apply Same.step (State.keyDone_same ..); decide)
    | (apply Same.step (State.decryptDone_same ..); decide)
    | (apply Same.step (State.imageDone_same ..); decide)
    | split

theorem execSecurityJobDone_same (poisoned : Bool) (s : State) :
    SameO 0x1F912E84 s (execSecurityJobDone poisoned s) := by
  unfold execSecurityJobDone
  try dsimp only
  repeat' with_reducible first
    | exact Same.refl _
    | refine SameO.next ?_
    | (apply Same.step (State.poisoned_same ..); decide)
    | (apply Same.step (State.jobDone_same ..); decide)
    | (apply Same.step (State.onSec_same ..); decide)
    | refine Same.ite ?_ ?_
    | split

theorem State.fwEvent_same (s : State) (target slot : Nat) (version outcome : Nat) :
    Same 0x800000 s (State.fwEvent s target slot version outcome) := by
  unfold State.fwEvent
  try dsimp only
  repeat' with_reducible first
    | exact Same.refl _
    | (apply Same.step (State.raise_same ..); decide)

theorem State.clearSlot_same (s : State) (target slot : Nat) :
    Same 0x1A000000 s (State.clearSlot s target slot) := by
  unfold State.clearSlot
  try dsimp only
  repeat' with_reducible first
    | exact Same.refl _
    | (apply Same.step (State.configWrite_same ..); decide)
    | (apply Same.step (State.onImages_same ..); decide)

theorem execImageSessionTimeout_same (s : State) :
    SameO 0x8000000 s (execImageSessionTimeout s) := by
  unfold execImageSessionTimeout
  try dsimp only
  repeat' with_reducible first
    | exact Same.refl _
    | refine SameO.next ?_
    | (apply Same.step (State.onImages_same ..); decide)
    | refine Same.ite ?_ ?_
    | split

theorem State.advanceRollback_same (s : State) (n : Nat) :
    Same 0x4 s (State.advanceRollback s n) := by
  unfold State.advanceRollback
  try dsimp only
  repeat' with_reducible first
    | exact Same.refl _
    | (apply Same.step (State.onOtp_same ..) <;> first | decide | (intro o; exact advance_le ..) | show Same _ _ _)

theorem State.switchMicrocode_same (s : State) (slot : Nat) :
    Same 0x8402004 s (State.switchMicrocode s slot) := by
  unfold State.switchMicrocode
  extract_lets -merge x1 x2 x3 x4
  refine Same.cut (w := 0x8402004) (s := s) (x := x2) (fun _ => ?_) ?_
  clear_value x2
  refine Same.cut (w := 0x8402004) (s := s) (x := x3) (fun _ => ?_) ?_
  clear_value x3
  refine Same.cut (w := 0x8402004) (s := s) (x := x4) (fun _ => ?_) ?_
  clear_value x4
  all_goals
    repeat' with_reducible first
      | exact Same.refl _
      | assumption
      | unfold x2
      | unfold x3
      | unfold x4
      | (apply Same.step (State.onImages_same ..); decide)
      | (apply Same.step (State.onEngine_same ..); decide)
      | (apply Same.step (State.onPq_same ..); decide)
      | (apply Same.step (State.advanceRollback_same ..); decide)
      | unfold x1
      | refine Same.ite ?_ ?_

theorem State.ucodeSwitch_same (s : State) (u : UcodeReq) :
    Same 0x1EC02084 s (State.ucodeSwitch s u) := by
  unfold State.ucodeSwitch
  try dsimp only
  repeat' with_reducible first
    | exact Same.refl _
    | (apply Same.step (State.pkgFail_same ..); decide)
    | (apply Same.step (State.clearSlot_same ..); decide)
    | (apply Same.step (State.onImages_same ..); decide)
    | (apply Same.step (State.finish_same ..); decide)
    | (apply Same.step (State.configWrite_same ..); decide)
    | (apply Same.step (State.switchMicrocode_same ..); decide)
    | (apply Same.step (State.commitOp_same ..); decide)
    | (apply Same.step (State.fwEvent_same ..); decide)
    | split

theorem execUcodeSwitch_same (s : State) :
    SameO 0x1EC02084 s (execUcodeSwitch s) := by
  unfold execUcodeSwitch
  try dsimp only
  repeat' with_reducible first
    | exact Same.refl _
    | refine SameO.next ?_
    | (apply Same.step (State.switchMicrocode_same ..); decide)
    | (apply Same.step (State.ucodeSwitch_same ..); decide)
    | (apply Same.step (State.finish_same ..); decide)
    | (apply Same.step (State.onImages_same ..); decide)
    | refine Same.ite ?_ ?_
    | split

end Sys2Proof.Machine
end

