-- ==== Sys2Proof/Laws/FrameControlPlane.lean ====
section
/-! SUPPORT. What each function of ControlPlane can change: the mask of the parts, and never what `Same` forbids. -/
namespace Sys2Proof.Machine

theorem State.forgetReplies_same (s : State) :
    Same 0x2302030 s (State.forgetReplies s) := by
  unfold State.forgetReplies
  extract_lets -merge x1 x2 x3 x4 x5
  refine Same.cut (w := 0x2302030) (s := s) (x := x1) (fun _ => ?_) ?_
  clear_value x1
  refine Same.cut (w := 0x2302030) (s := s) (x := x2) (fun _ => ?_) ?_
  clear_value x2
  refine Same.cut (w := 0x2302030) (s := s) (x := x3) (fun _ => ?_) ?_
  clear_value x3
  refine Same.cut (w := 0x2302030) (s := s) (x := x4) (fun _ => ?_) ?_
  clear_value x4
  refine Same.cut (w := 0x2302030) (s := s) (x := x5) (fun _ => ?_) ?_
  clear_value x5
  all_goals
    repeat' with_reducible first
      | exact Same.refl _
      | assumption
      | unfold x1
      | unfold x2
      | unfold x3
      | unfold x4
      | unfold x5
      | (apply Same.step (State.onEngine_same ..); decide)
      | (apply Same.step (State.onTariff_same ..); decide)
      | (apply Same.step (State.onStore_same ..) <;> first | decide | exact fun _ => rfl | (intro _; split <;> rfl) | show Same _ _ _)
      | (apply Same.step (State.onMode_same ..); decide)
      | (apply Same.step (State.onClock_same ..) <;> first | decide | exact fun _ => rfl | (intro _; split <;> rfl) | show Same _ _ _)
      | (apply Same.step (State.onRelays_same ..); decide)

theorem cmdResetCmd_same (s : State) (r : Request) :
    SameE 0x40001C0 s (cmdResetCmd s r) := by
  unfold cmdResetCmd
  try dsimp only
  repeat' with_reducible first
    | exact Same.refl _
    | assumption
    | refine SameE.ok ?_
    | (apply SameE.bindS (SameE.step (order5_same ..) ?_ ?_) ?_ <;> first | decide | intro _ _ | skip)
    | (apply Same.step (State.replyOk_same ..); decide)
    | (apply Same.step (State.onCp_same ..); decide)
    | (apply Same.step (State.onPort_same ..); decide)
    | refine SameE.bind (fun _ => ?_)

theorem State.giveUpTrial_same (s : State) :
    Same 0x1A800000 s (State.giveUpTrial s) := by
  unfold State.giveUpTrial
  try dsimp only
  repeat' with_reducible first
    | exact Same.refl _
    | (apply Same.step (State.onImages_same ..); decide)
    | (apply Same.step (State.fwEvent_same ..); decide)
    | (apply Same.step (State.clearSlot_same ..); decide)

theorem State.cpDrop_same (s : State) :
    Same 0xE3030F8 s (State.cpDrop s) := by
  unfold State.cpDrop
  extract_lets -merge x1 x2 x3 x4
  refine Same.cut (w := 0xE3030F8) (s := s) (x := x1) (fun _ => ?_) ?_
  clear_value x1
  refine Same.cut (w := 0xE3030F8) (s := s) (x := x2) (fun _ => ?_) ?_
  clear_value x2
  refine Same.cut (w := 0xE3030F8) (s := s) (x := x3) (fun _ => ?_) ?_
  clear_value x3
  refine Same.cut (w := 0xE3030F8) (s := s) (x := x4) (fun _ => ?_) ?_
  clear_value x4
  all_goals
    repeat' with_reducible first
      | exact Same.refl _
      | assumption
      | unfold x1
      | unfold x2
      | unfold x3
      | unfold x4
      | (apply Same.step (State.forgetReplies_same ..); decide)
      | (apply Same.step (State.detachOps_same ..); decide)
      | (apply Same.step (State.eachPort_same ..); decide)
      | (apply Same.step (State.onSec_same ..); decide)
      | (apply Same.step (State.onImages_same ..); decide)
      | (apply Same.step (State.onCp_same ..); decide)

theorem State.cpReset_same (s : State) (cause vddio : Nat) :
    Same 0xE3030F8 s (State.cpReset s cause vddio) := by
  unfold State.cpReset
  try dsimp only
  repeat' with_reducible first
    | exact Same.refl _
    | (apply Same.step (State.onCp_same ..); decide)
    | (apply Same.step (State.onPower_same ..); decide)
    | (apply Same.step (State.cpDrop_same ..); decide)

theorem State.runSlot_same (s : State) (slot : Nat) :
    Same 0x8000040 s (State.runSlot s slot) := by
  unfold State.runSlot
  try dsimp only
  repeat' with_reducible first
    | exact Same.refl _
    | (apply Same.step (State.onCp_same ..); decide)
    | (apply Same.step (State.onImages_same ..); decide)
    | refine Same.ite ?_ ?_

theorem State.fallBack_same (s : State) (cause vddio : Nat) :
    Same 0x1EB030F8 s (State.fallBack s cause vddio) := by
  unfold State.fallBack
  try dsimp only
  repeat' with_reducible first
    | exact Same.refl _
    | (apply Same.step (State.giveUpTrial_same ..); decide)
    | (apply Same.step (State.cpReset_same ..); decide)
    | (apply Same.step (State.runSlot_same ..); decide)

theorem execResetNRelease_same (s : State) :
    SameO 0x40 s (execResetNRelease s) := by
  unfold execResetNRelease
  try dsimp only
  repeat' with_reducible first
    | exact Same.refl _
    | refine SameO.next ?_
    | (apply Same.step (State.onCp_same ..); decide)
    | refine Same.ite ?_ ?_

theorem execWatchdogExpiry_same (vddio : Nat) (s : State) :
    SameO 0x1EB030F8 s (execWatchdogExpiry s vddio) := by
  unfold execWatchdogExpiry
  try dsimp only
  repeat' with_reducible first
    | exact Same.refl _
    | refine SameO.next ?_
    | (apply Same.step (State.fallBack_same ..); decide)
    | (apply Same.step (State.cpReset_same ..); decide)
    | (apply Same.step (State.onCp_same ..); decide)
    | refine Same.ite ?_ ?_

theorem execResetN_same (vddio : Nat) (s : State) :
    SameO 0xE3030F8 s (execResetN s vddio) := by
  unfold execResetN
  try dsimp only
  repeat' with_reducible first
    | exact Same.refl _
    | refine SameO.next ?_
    | (apply Same.step (State.onCp_same ..); decide)
    | (apply Same.step (State.cpReset_same ..); decide)
    | refine Same.ite ?_ ?_

theorem execControlCoreFallback_same (vddio : Nat) (s : State) :
    SameO 0x1EB030F8 s (execControlCoreFallback s vddio) := by
  unfold execControlCoreFallback
  try dsimp only
  repeat' with_reducible first
    | exact Same.refl _
    | refine SameO.next ?_
    | (apply Same.step (State.fallBack_same ..); decide)
    | refine Same.ite ?_ ?_

theorem execControlCoreSwitch_same (vddio : Nat) (s : State) :
    SameO 0x1EB030F8 s (execControlCoreSwitch s vddio) := by
  unfold execControlCoreSwitch
  try dsimp only
  repeat' with_reducible first
    | exact Same.refl _
    | refine SameO.next ?_
    | (apply Same.step (State.onImages_same ..); decide)
    | (apply Same.step (State.postOwed_same ..); decide)
    | (apply Same.step (State.detachOps_same ..); decide)
    | (apply Same.step (State.fwEvent_same ..); decide)
    | (apply Same.step (State.pkgFail_same ..); decide)
    | (apply Same.step (State.clearSlot_same ..); decide)
    | (apply Same.step (State.configWrite_same ..); decide)
    | (apply Same.step (State.cpReset_same ..); decide)
    | (apply Same.step (State.runSlot_same ..); decide)
    | refine Same.ite ?_ ?_
    | split

end Sys2Proof.Machine
end

