-- ==== Sys2Proof/Laws/FrameIslands.lean ====
section
/-! SUPPORT. What each function of Islands can change: the mask of the parts, and never what `Same` forbids. -/
namespace Sys2Proof.Machine

theorem State.commitAuth_same (s : State) (o : OpRef) :
    Same 0x6000080 s (State.commitAuth s o) := by
  unfold State.commitAuth
  try dsimp only
  repeat' with_reducible first
    | exact Same.refl _
    | (apply Same.step (State.commitOp_same ..); decide)
    | (apply Same.step (State.writeSeal_same ..); decide)
    | (apply Same.step (State.takeSeq_same ..); decide)
    | (apply Same.step (State.onEntry_same ..); decide)
    | split

theorem State.leaveService_same (s : State) (n : Nat) :
    Same 0x1C11884 s (State.leaveService s n) := by
  unfold State.leaveService
  extract_lets -merge x1 x2
  refine Same.cut (w := 0x1C11884) (s := s) (x := x1) (fun _ => ?_) ?_
  clear_value x1
  refine Same.cut (w := 0x1C11884) (s := s) (x := x2) (fun _ => ?_) ?_
  clear_value x2
  all_goals
    repeat' with_reducible first
      | exact Same.refl _
      | assumption
      | unfold x1
      | unfold x2
      | (apply Same.step (State.retireSeconds_same ..); decide)
      | (apply Same.step (State.setCause_same ..); decide)
      | (apply Same.step (State.raise_same ..); decide)
      | refine Same.foldl (fun _ _ => ?_) ?_
      | split

theorem State.dropIslands_same (s : State) (k : Nat) :
    Same 0x1C11884 s (State.dropIslands k s) := by
  induction k generalizing s with
  | zero =>
    unfold State.dropIslands
    try dsimp only
    repeat' with_reducible first
      | exact Same.refl _
  | succ k ih =>
    unfold State.dropIslands
    try dsimp only
    repeat' with_reducible first
      | exact Same.refl _
      | (apply Same.step (State.leaveService_same ..); decide)
      | (apply Same.step (State.onIsland_same ..); decide)
      | (apply Same.step (ih ..); decide)
      | refine Same.ite ?_ ?_
      | split

theorem State.restartIsland_same (s : State) (n : Nat) :
    Same 0x800 s (State.restartIsland s n) := by
  unfold State.restartIsland
  try dsimp only
  repeat' with_reducible first
    | exact Same.refl _
    | (apply Same.step (State.restartChan_same ..); decide)
    | refine Same.foldl (fun _ _ => ?_) ?_

theorem State.enterService_same (s : State) (n : Nat) :
    Same 0x10800 s (State.enterService s n) := by
  unfold State.enterService
  try dsimp only
  repeat' with_reducible first
    | exact Same.refl _
    | (apply Same.step (State.restartIsland_same ..); decide)
    | (apply Same.step (State.endCause_same ..); decide)
    | refine Same.foldl (fun _ _ => ?_) ?_
    | refine Same.ite ?_ ?_
    | split

theorem State.restoreIslands_same (s : State) (l : List Nat) :
    Same 0x11800 s (State.restoreIslands s l) := by
  induction l generalizing s with
  | nil =>
    unfold State.restoreIslands
    try dsimp only
    repeat' with_reducible first
      | exact Same.refl _
  | cons n r ih =>
    unfold State.restoreIslands
    try dsimp only
    repeat' with_reducible first
      | exact Same.refl _
      | (apply Same.step (State.onIsland_same ..); decide)
      | (apply Same.step (State.enterService_same ..); decide)
      | (apply Same.step (ih ..); decide)
      | refine Same.ite ?_ ?_

theorem State.admissionChange_same (s : State) (before : Nat) :
    Same 0x800000 s (State.admissionChange s before) := by
  unfold State.admissionChange
  try dsimp only
  repeat' with_reducible first
    | exact Same.refl _
    | (apply Same.step (State.raise_same ..); decide)

theorem State.reAdmit_same (s : State) (before : Nat) (changed : Bool) :
    Same 0x1C11884 s (State.reAdmit s before changed) := by
  unfold State.reAdmit
  extract_lets -merge x1 x2 x3 x4
  refine Same.cut (w := 0x1C11884) (s := s) (x := x3) (fun _ => ?_) ?_
  clear_value x3
  refine Same.cut (w := 0x1C11884) (s := s) (x := x4) (fun _ => ?_) ?_
  clear_value x4
  all_goals
    repeat' with_reducible first
      | exact Same.refl _
      | assumption
      | unfold x3
      | unfold x4
      | (apply Same.step (State.dropIslands_same ..); decide)
      | (apply Same.step (State.restoreIslands_same ..); decide)
      | (apply Same.step (State.admissionChange_same ..); decide)
      | unfold x1
      | unfold x2
      | refine Same.ite ?_ ?_

theorem State.restoreLane_same (s : State) (n : Nat) (o : OpRef) :
    Same 0x7C13884 s (State.restoreLane s n o) := by
  unfold State.restoreLane
  try dsimp only
  repeat' with_reducible first
    | exact Same.refl _
    | (apply Same.step (State.onLane_same ..); decide)
    | (apply Same.step (State.finish_same ..); decide)
    | (apply Same.step (State.commitAuth_same ..); decide)
    | (apply Same.step (State.reAdmit_same ..); decide)

theorem cmdRestoreIsland_same (s : State) (r : Request) :
    SameE 0x1180 s (cmdRestoreIsland s r) := by
  unfold cmdRestoreIsland
  try dsimp only
  repeat' with_reducible first
    | exact Same.refl _
    | exact SameE.error
    | refine SameE.ok ?_
    | (apply Same.step (State.onIsland_same ..); decide)
    | (apply Same.step (State.accept_same (by assumption)); decide)
    | (apply Same.step (State.holdAuth_same ..); decide)
    | refine SameE.bind (fun _ => ?_)
    | split

theorem cmdRemapChannel_same (s : State) (r : Request) :
    SameE 0x16002180 s (cmdRemapChannel s r) := by
  unfold cmdRemapChannel
  try dsimp only
  repeat' with_reducible first
    | exact Same.refl _
    | exact SameE.error
    | refine SameE.ok ?_
    | (apply SameE.bindS (SameE.step (order5_same ..) ?_ ?_) ?_ <;> first | decide | intro _ _ | skip)
    | (apply Same.step (State.accept_same (by assumption)); decide)
    | (apply Same.step (State.configWrite_same ..); decide)
    | (apply Same.step (State.onEngine_same ..); decide)
    | (apply Same.step (State.holdAuth_same ..); decide)
    | refine SameE.bind (fun _ => ?_)
    | split

theorem cmdRetireIsland_same (s : State) (r : Request) :
    SameE 0x1180 s (cmdRetireIsland s r) := by
  unfold cmdRetireIsland
  try dsimp only
  repeat' with_reducible first
    | exact Same.refl _
    | exact SameE.error
    | refine SameE.ok ?_
    | (apply Same.step (State.accept_same (by assumption)); decide)
    | (apply Same.step (State.onIsland_same ..); decide)
    | (apply Same.step (State.holdAuth_same ..); decide)
    | refine SameE.bind (fun _ => ?_)
    | split

theorem cmdLaneTest_same (s : State) (r : Request) :
    SameE 0x4002180 s (cmdLaneTest s r) := by
  unfold cmdLaneTest
  try dsimp only
  repeat' with_reducible first
    | exact Same.refl _
    | exact SameE.error
    | refine SameE.ok ?_
    | (apply SameE.bindS (SameE.step (order5_same ..) ?_ ?_) ?_ <;> first | decide | intro _ _ | skip)
    | (apply Same.step (State.onLane_same ..); decide)
    | (apply Same.step (State.accept_same (by assumption)); decide)
    | (apply Same.step (State.holdAuth_same ..); decide)
    | refine SameE.bind (fun _ => ?_)
    | split

theorem State.retireLane_same (s : State) (n : Nat) :
    Same 0x7C13884 s (State.retireLane s n) := by
  unfold State.retireLane
  extract_lets -merge x1 x2 x3 x4 x5
  refine Same.cut (w := 0x7C13884) (s := s) (x := x3) (fun _ => ?_) ?_
  clear_value x3
  refine Same.cut (w := 0x7C13884) (s := s) (x := x4) (fun _ => ?_) ?_
  clear_value x4
  refine Same.cut (w := 0x7C13884) (s := s) (x := x5) (fun _ => ?_) ?_
  clear_value x5
  all_goals
    repeat' with_reducible first
      | exact Same.refl _
      | assumption
      | unfold x3
      | unfold x4
      | unfold x5
      | (apply Same.step (State.onLane_same ..); decide)
      | (apply Same.step (State.raise_same ..); decide)
      | (apply Same.step (State.reAdmit_same ..); decide)
      | (apply Same.step (State.finish_same ..); decide)
      | (apply Same.step (State.commitAuth_same ..); decide)
      | unfold x2
      | refine Same.ite ?_ ?_
      | split

theorem State.lanesDue_same (s : State) :
    Same 0x7C13884 s (State.lanesDue s) := by
  unfold State.lanesDue
  try dsimp only
  repeat' with_reducible first
    | exact Same.refl _
    | (apply Same.step (State.retireLane_same ..); decide)
    | (apply Same.step (State.restoreLane_same ..); decide)
    | refine Same.foldl (fun _ _ => ?_) ?_
    | refine Same.ite ?_ ?_
    | split

theorem State.laneResult_same (s : State) (n : Nat) (pass : Bool) :
    Same 0x2000 s (State.laneResult s n pass) := by
  unfold State.laneResult
  try dsimp only
  repeat' with_reducible first
    | exact Same.refl _
    | (apply Same.step (State.onEngine_same ..); decide)
    | (apply Same.step (State.onLane_same ..); decide)
    | refine Same.ite ?_ ?_

theorem State.laneTested_same (s : State) (n sig : Nat) :
    Same 0x6002080 s (State.laneTested s n sig) := by
  unfold State.laneTested
  try dsimp only
  repeat' with_reducible first
    | exact Same.refl _
    | (apply Same.step (State.laneResult_same ..); decide)
    | (apply Same.step (State.finish_same ..); decide)
    | (apply Same.step (State.commitAuth_same ..); decide)
    | (apply Same.step (State.onLane_same ..); decide)
    | refine Same.ite ?_ ?_
    | split

theorem execLaneSelfTest_same (j : Nat) (sigs : Nat × Nat) (s : State) :
    SameO 0x6002080 s (execLaneSelfTest j sigs s) := by
  unfold execLaneSelfTest
  try dsimp only
  repeat' with_reducible first
    | exact Same.refl _
    | refine SameO.next ?_
    | (apply Same.step (State.onEngine_same ..); decide)
    | (apply Same.step (State.laneTested_same ..); decide)
    | refine Same.ite ?_ ?_
    | split

theorem State.settleRemaps_same (s : State) :
    Same 0x2080 s (State.settleRemaps s) := by
  unfold State.settleRemaps
  try dsimp only
  repeat' with_reducible first
    | exact Same.refl _
    | (apply Same.step (State.onEngine_same ..); decide)
    | (apply Same.step (State.finish_same ..); decide)
    | refine Same.foldl (fun _ _ => ?_) ?_

theorem State.retireIsland_same (s : State) (n : Nat) (o : Option OpRef) :
    Same 0x7C11884 s (State.retireIsland s n o) := by
  unfold State.retireIsland
  extract_lets -merge x1 x2 x3 x4 x5
  refine Same.cut (w := 0x7C11884) (s := s) (x := x3) (fun _ => ?_) ?_
  clear_value x3
  refine Same.cut (w := 0x7C11884) (s := s) (x := x4) (fun _ => ?_) ?_
  clear_value x4
  refine Same.cut (w := 0x7C11884) (s := s) (x := x5) (fun _ => ?_) ?_
  clear_value x5
  all_goals
    repeat' with_reducible first
      | exact Same.refl _
      | assumption
      | unfold x3
      | unfold x4
      | unfold x5
      | (apply Same.step (State.onIsland_same ..); decide)
      | (apply Same.step (State.raise_same ..); decide)
      | (apply Same.step (State.leaveService_same ..); decide)
      | (apply Same.step (State.reAdmit_same ..); decide)
      | (apply Same.step (State.finish_same ..); decide)
      | (apply Same.step (State.commitAuth_same ..); decide)
      | unfold x2
      | refine Same.ite ?_ ?_
      | split

theorem State.restoreIsland_same (s : State) (n : Nat) (o : OpRef) :
    Same 0x7C11884 s (State.restoreIsland s n o) := by
  unfold State.restoreIsland
  extract_lets -merge x1 x2 x3 x4
  refine Same.cut (w := 0x7C11884) (s := s) (x := x2) (fun _ => ?_) ?_
  clear_value x2
  refine Same.cut (w := 0x7C11884) (s := s) (x := x4) (fun _ => ?_) ?_
  clear_value x4
  all_goals
    repeat' with_reducible first
      | exact Same.refl _
      | assumption
      | unfold x2
      | unfold x4
      | (apply Same.step (State.onIsland_same ..); decide)
      | (apply Same.step (State.finish_same ..); decide)
      | (apply Same.step (State.resetCheck_same ..); decide)
      | (apply Same.step (State.enterService_same ..); decide)
      | (apply Same.step (State.commitAuth_same ..); decide)
      | (apply Same.step (State.reAdmit_same ..); decide)
      | refine Same.foldl (fun _ _ => ?_) ?_
      | unfold x1
      | unfold x3
      | refine Same.ite ?_ ?_

theorem State.islandsDue_same (s : State) :
    Same 0x7C11884 s (State.islandsDue s) := by
  unfold State.islandsDue
  try dsimp only
  repeat' with_reducible first
    | exact Same.refl _
    | (apply Same.step (State.retireIsland_same ..); decide)
    | (apply Same.step (State.restoreIsland_same ..); decide)
    | (apply Same.step (State.finish_same ..); decide)
    | (apply Same.step (State.onIsland_same ..); decide)
    | refine Same.foldl (fun _ _ => ?_) ?_
    | refine Same.ite ?_ ?_
    | split

theorem State.adapt_same (s : State) (short : Bool) :
    Same 0x2C00 s (State.adapt s short) := by
  unfold State.adapt
  try dsimp only
  repeat' with_reducible first
    | exact Same.refl _
    | (apply Same.step (State.onEngine_same ..); decide)
    | refine Same.ite ?_ ?_

theorem State.exchange_same (s : State) (x : Remap) (at_ : Nat) :
    Same 0x16C12C80 s (State.exchange s x at_) := by
  unfold State.exchange
  extract_lets -merge x1 x2 x3 x4 x5 x6 x7 x8 x9 x10 x11 x12 x13 x14 x15 x16 x17 x18 x19 x20 x21 x22 x23
  refine Same.cut (w := 0x16C12C80) (s := s) (x := x4) (fun _ => ?_) ?_
  clear_value x4
  refine Same.cut (w := 0x16C12C80) (s := s) (x := x5) (fun _ => ?_) ?_
  clear_value x5
  refine Same.cut (w := 0x16C12C80) (s := s) (x := x7) (fun _ => ?_) ?_
  clear_value x7
  refine Same.cut (w := 0x16C12C80) (s := s) (x := x8) (fun _ => ?_) ?_
  clear_value x8
  refine Same.cut (w := 0x16C12C80) (s := s) (x := x9) (fun _ => ?_) ?_
  clear_value x9
  refine Same.cut (w := 0x16C12C80) (s := s) (x := x13) (fun _ => ?_) ?_
  clear_value x13
  refine Same.cut (w := 0x16C12C80) (s := s) (x := x17) (fun _ => ?_) ?_
  clear_value x17
  refine Same.cut (w := 0x16C12C80) (s := s) (x := x18) (fun _ => ?_) ?_
  clear_value x18
  refine Same.cut (w := 0x16C12C80) (s := s) (x := x19) (fun _ => ?_) ?_
  clear_value x19
  refine Same.cut (w := 0x16C12C80) (s := s) (x := x20) (fun _ => ?_) ?_
  clear_value x20
  refine Same.cut (w := 0x16C12C80) (s := s) (x := x21) (fun _ => ?_) ?_
  clear_value x21
  refine Same.cut (w := 0x16C12C80) (s := s) (x := x22) (fun _ => ?_) ?_
  clear_value x22
  refine Same.cut (w := 0x16C12C80) (s := s) (x := x23) (fun _ => ?_) ?_
  clear_value x23
  all_goals
    repeat' with_reducible first
      | exact Same.refl _
      | assumption
      | unfold x4
      | unfold x5
      | unfold x7
      | unfold x8
      | unfold x9
      | unfold x13
      | unfold x17
      | unfold x18
      | unfold x19
      | unfold x20
      | unfold x21
      | unfold x22
      | unfold x23
      | (apply Same.step (State.endEvents_same ..); decide)
      | (apply Same.step (State.captureChanged_same ..); decide)
      | (apply Same.step (State.onChan_same ..); decide)
      | (apply Same.step (State.setPar_same ..); decide)
      | (apply Same.step (State.eachPoint_same ..); decide)
      | (apply Same.step (State.resetCheck_same ..); decide)
      | (apply Same.step (State.rerun_same ..); decide)
      | (apply Same.step (State.onPoint_same ..); decide)
      | (apply Same.step (State.rebuild_same ..); decide)
      | (apply Same.step (State.commitAuth_same ..); decide)
      | (apply Same.step (State.configWrite_same ..); decide)
      | (apply Same.step (State.onEngine_same ..); decide)
      | refine Same.foldl (fun _ _ => ?_) ?_
      | unfold x1
      | unfold x3
      | unfold x14
      | unfold x15
      | unfold x16
      | refine Same.ite ?_ ?_

theorem execRemapEffect_same (s : State) :
    SameO 0x16C12C80 s (execRemapEffect s) := by
  unfold execRemapEffect
  try dsimp only
  repeat' with_reducible first
    | exact Same.refl _
    | refine SameO.next ?_
    | (apply Same.step (State.exchange_same ..); decide)
    | refine Same.foldl (fun _ _ => ?_) ?_
    | refine Same.ite ?_ ?_
    | split

theorem execIslandSupplyCheck_same (n : Nat) (vref avdd t16 : Int) (s : State) :
    SameO 0xC01800 s (execIslandSupplyCheck n vref avdd t16 s) := by
  unfold execIslandSupplyCheck
  extract_lets -merge x1 x2 x3 x4 x5 x6 x7 x8 x9 x10 x11 x12 x13 x14
  refine Same.cut (w := 0xC01800) (s := s) (x := x12) (fun _ => ?_) ?_
  clear_value x12
  refine Same.cut (w := 0xC01800) (s := s) (x := x13) (fun _ => ?_) ?_
  clear_value x13
  refine Same.cut (w := 0xC01800) (s := s) (x := x14) (fun _ => ?_) ?_
  clear_value x14
  all_goals
    repeat' with_reducible first
      | exact Same.refl _
      | assumption
      | unfold x12
      | unfold x13
      | unfold x14
      | refine SameO.next ?_
      | (apply Same.step (State.onIsland_same ..); decide)
      | (apply Same.step (State.islandFault_same ..); decide)
      | (apply Same.step (State.restartIsland_same ..); decide)
      | unfold x1
      | unfold x2
      | unfold x3
      | unfold x4
      | unfold x5
      | unfold x6
      | unfold x7
      | unfold x8
      | unfold x9
      | unfold x10
      | refine Same.ite ?_ ?_

end Sys2Proof.Machine
end

