-- ==== Sys2Proof/Laws/FrameEngine.lean ====
section
/-! SUPPORT. What each function of Engine can change: the mask of the parts, and never what `Same` forbids. -/
namespace Sys2Proof.Machine

theorem State.changeRole_same (s : State) (c : Nat) (v : BitVec 32) :
    Same 0xC10800 s (State.changeRole s c v) := by
  unfold State.changeRole
  extract_lets -merge x1 x2 x3 x4
  refine Same.cut (w := 0xC10800) (s := s) (x := x2) (fun _ => ?_) ?_
  clear_value x2
  refine Same.cut (w := 0xC10800) (s := s) (x := x3) (fun _ => ?_) ?_
  clear_value x3
  refine Same.cut (w := 0xC10800) (s := s) (x := x4) (fun _ => ?_) ?_
  clear_value x4
  all_goals
    repeat' with_reducible first
      | exact Same.refl _
      | assumption
      | unfold x2
      | unfold x3
      | unfold x4
      | (apply Same.step (State.endEvents_same ..); decide)
      | (apply Same.step (State.restartChan_same ..); decide)
      | (apply Same.step (State.captureChanged_same ..); decide)
      | (apply Same.step (State.putChan_same ..); decide)
      | (apply Same.step (State.onChan_same ..); decide)
      | (apply Same.step (State.resetCheck_same ..); decide)
      | unfold x1
      | refine Same.ite ?_ ?_

theorem State.endAllEvents_same (s : State) :
    Same 0xC10800 s (State.endAllEvents s) := by
  unfold State.endAllEvents
  try dsimp only
  repeat' with_reducible first
    | exact Same.refl _
    | (apply Same.step (State.endEvents_same ..); decide)
    | refine Same.foldl (fun _ _ => ?_) ?_
    | refine Same.ite ?_ ?_

theorem State.applyRate_same (s : State) :
    Same 0x80 s (State.applyRate s) := by
  unfold State.applyRate
  try dsimp only
  repeat' with_reducible first
    | exact Same.refl _
    | (apply Same.step (State.onPort_same ..); decide)
    | refine Same.ite ?_ ?_

theorem State.legalRebase_same (s : State) (old new : Nat) :
    Same 0x800000 s (State.legalRebase s old new) := by
  unfold State.legalRebase
  try dsimp only
  repeat' with_reducible first
    | exact Same.refl _
    | (apply Same.step (State.note_same ..); decide)
    | refine Same.foldl (fun _ _ => ?_) ?_

theorem State.capServiceWritten_same (s : State) (on : Bool) :
    Same 0x800408 s (State.capServiceWritten s on) := by
  unfold State.capServiceWritten
  extract_lets -merge x1 x2
  refine Same.cut (w := 0x800408) (s := s) (x := x1) (fun _ => ?_) ?_
  clear_value x1
  refine Same.cut (w := 0x800408) (s := s) (x := x2) (fun _ => ?_) ?_
  clear_value x2
  all_goals
    repeat' with_reducible first
      | exact Same.refl _
      | assumption
      | unfold x1
      | unfold x2
      | (apply Same.step (State.setPar_same ..); decide)
      | (apply Same.step (State.onPower_same ..); decide)
      | (apply Same.step (State.raise_same ..); decide)
      | refine Same.ite ?_ ?_

theorem State.applyPid_same (s : State) (pid : Nat) (v : BitVec 32) (move : Bool) :
    Same 0x1D13CE8 s (State.applyPid s pid v move) := by
  unfold State.applyPid
  extract_lets -merge x1 x2 x3
  refine Same.cut (w := 0x1D13CE8) (s := s) (x := x2) (fun _ => ?_) ?_
  clear_value x2
  refine Same.cut (w := 0x1D13CE8) (s := s) (x := x3) (fun _ => ?_) ?_
  clear_value x3
  all_goals
    repeat' with_reducible first
      | exact Same.refl _
      | assumption
      | unfold x2
      | unfold x3
      | (apply Same.step (State.setPar_same ..); decide)
      | (apply Same.step (State.onIsland_same ..); decide)
      | (apply Same.step (State.endAllEvents_same ..); decide)
      | (apply Same.step (State.intervalWritten_same ..); decide)
      | (apply Same.step (State.rewriteTable_same ..); decide)
      | (apply Same.step (State.thermIdle_same ..); decide)
      | (apply Same.step (State.onCp_same ..); decide)
      | (apply Same.step (State.applyRate_same ..); decide)
      | (apply Same.step (State.onPort_same ..); decide)
      | (apply Same.step (State.onEngine_same ..); decide)
      | (apply Same.step (State.legalRebase_same ..); decide)
      | (apply Same.step (State.onTariff_same ..); decide)
      | (apply Same.step (State.inputsChanged_same ..); decide)
      | (apply Same.step (State.capServiceWritten_same ..); decide)
      | (apply Same.step (State.onPower_same ..); decide)
      | unfold x1
      | refine Same.ite ?_ ?_
      | split

theorem State.applyItem_same (roles : Bool) (s : State) (e : Effect) :
    Same 0x1D13CE8 s (State.applyItem roles s e) := by
  unfold State.applyItem
  try dsimp only
  repeat' with_reducible first
    | exact Same.refl _
    | (apply Same.step (State.loadBank_same ..); decide)
    | (apply Same.step (State.changeRole_same ..); decide)
    | (apply Same.step (State.setPar_same ..); decide)
    | (apply Same.step (State.applyPid_same ..); decide)
    | refine Same.ite ?_ ?_
    | split

theorem State.missing_same (s : State) (c from_ upTo : Nat) :
    Same 0x800 s (State.missing s c from_ upTo) := by
  unfold State.missing
  try dsimp only
  repeat' with_reducible first
    | exact Same.refl _
    | (apply Same.step (State.onChan_same ..); decide)

theorem State.abandon_same (s : State) (c fin : Nat) :
    Same 0xC03800 s (State.abandon s c fin) := by
  unfold State.abandon
  try dsimp only
  repeat' with_reducible first
    | exact Same.refl _
    | (apply Same.step (State.onEngine_same ..); decide)
    | (apply Same.step (State.restartChan_same ..); decide)
    | (apply Same.step (State.missing_same ..); decide)
    | (apply Same.step (State.takeSamples_same ..); decide)

theorem State.crossChannel_same (s : State) (c from_ : Nat) :
    Same 0x512A00 s (State.crossChannel s c from_).1 := by
  unfold State.crossChannel
  try dsimp only
  repeat' with_reducible first
    | exact Same.refl _
    | (apply Same.step (State.sendItem_same ..); decide)
    | (apply Same.step (State.onChan_same ..); decide)
    | (apply Same.step (State.pointEvents_same ..); decide)
    | refine Same.foldl (fun _ _ => ?_) ?_

theorem State.redoSlices_same (s : State) (placed late : List Placed) :
    Same 0x10000 s (State.redoSlices s placed late) := by
  unfold State.redoSlices
  try dsimp only
  repeat' with_reducible first
    | exact Same.refl _
    | (apply Same.step (State.redoSlot_same ..); decide)
    | refine Same.foldl (fun _ _ => ?_) ?_
    | refine Same.ite ?_ ?_
    | split

theorem State.crossAll_same (s : State) (froms : List Nat) :
    Same 0x512A00 s (State.crossAll s froms).1 := by
  unfold State.crossAll
  try dsimp only
  repeat' with_reducible first
    | exact Same.refl _
    | (apply Same.step (State.crossChannel_same ..); decide)
    | refine Same.foldl_fst (fun _ _ => ?_) ?_
    | split

theorem State.pointSlices_same (s : State) (late : List Nat) :
    Same 0x10000 s (State.pointSlices s late) := by
  unfold State.pointSlices
  try dsimp only
  repeat' with_reducible first
    | exact Same.refl _
    | (apply Same.step (State.pointSlice_same ..); decide)
    | refine Same.foldl (fun _ _ => ?_) ?_
    | refine Same.ite ?_ ?_

theorem State.flagAll_same (s : State) (ends : List (Nat × Nat)) :
    Same 0x2800 s (State.flagAll s ends) := by
  unfold State.flagAll
  try dsimp only
  repeat' with_reducible first
    | exact Same.refl _
    | (apply Same.step (State.flagCycle_same ..); decide)
    | refine Same.foldl (fun _ _ => ?_) ?_
    | refine Same.ite ?_ ?_
    | split

theorem State.afterSlices_same (s : State) (a : RoundInput) (froms : List Nat) (late : List Placed) :
    Same 0x5D13EA4 s (State.afterSlices s a froms late) := by
  unfold State.afterSlices
  try dsimp only
  repeat' with_reducible first
    | exact Same.refl _
    | (apply Same.step (State.crossAll_same ..); decide)
    | (apply Same.step (State.pointSlices_same ..); decide)
    | (apply Same.step (State.poisonTrigger_same ..); decide)
    | (apply Same.step (State.onEngine_same ..); decide)
    | (apply Same.step (State.flagAll_same ..); decide)
    | (apply Same.step (State.stepsDue_same ..); decide)
    | (apply Same.step (State.detectAll_same ..); decide)
    | refine Same.foldl (fun _ _ => ?_) ?_
    | refine Same.ite ?_ ?_

theorem State.flagFall_same (s : State) (fell : Bool) (gone : List Nat) :
    Same 0x10802000 s (State.flagFall s fell gone) := by
  unfold State.flagFall
  extract_lets -merge x1 x2 x3 x4
  refine Same.cut (w := 0x10802000) (s := s) (x := x3) (fun _ => ?_) ?_
  clear_value x3
  refine Same.cut (w := 0x10802000) (s := s) (x := x4) (fun _ => ?_) ?_
  clear_value x4
  all_goals
    repeat' with_reducible first
      | exact Same.refl _
      | assumption
      | unfold x3
      | unfold x4
      | (apply Same.step (State.draw_same ..); decide)
      | (apply Same.step (State.raise_same ..); decide)
      | (apply Same.step (State.onEngine_same ..); decide)
      | unfold x1
      | unfold x2
      | refine Same.ite ?_ ?_

theorem SliceAcc.chan_same (x : SliceAcc) (c : Nat) (old : Bool) (late : Option (Nat × Nat)) :
    Same 0x15D13EA4 x.s (x.chan c old late).s := by
  unfold SliceAcc.chan
  cases late with
  | none =>
    unfold State.channelSlice
    dsimp only
    split
    · exact .refl _
    · exact ((State.runSlice_same ..).mono (by decide)).trans ((State.onChan_same ..).mono (by decide))
  | some p =>
    dsimp only
    split
    · exact (State.abandon_same ..).mono (by decide)
    · split
      · exact .refl _
      · exact (State.abandon_same ..).mono (by decide)

theorem State.channelSlices_same (s : State) (late : List (Placed × Nat)) :
    Same 0x15D13EA4 s (s.channelSlices late).s := by
  unfold State.channelSlices
  suffices ∀ (l : List Nat) (x : SliceAcc), Same 0x15D13EA4 s x.s → Same 0x15D13EA4 s (l.foldl (fun x c =>
      if !s.sampled c then x
      else x.chan c (s.engine.carried.any fun y => y.slice == .chan c)
        ((late.find? fun y => y.1.slice == .chan c).map fun y => (y.1.cost, y.2))) x).s from this _ _ (.refl _)
  intro l
  induction l with
  | nil => exact fun _ k => k
  | cons c r ih =>
    refine fun x k => ih _ ?_
    dsimp only
    split
    · exact k
    · exact k.trans (SliceAcc.chan_same ..)

theorem State.redoSlices_in (s : State) (placed late : List Placed) : Same 0x15D13EA4 s (State.redoSlices s placed late) :=
  (State.redoSlices_same ..).mono (by decide)

theorem State.sliceWork_same (s : State) (a : RoundInput) (final : Bool) :
    Same 0x15D13EA4 s (State.sliceWork s a final) := by
  unfold State.sliceWork
  extract_lets -merge froms budget placed late x t
  have hx : Same 0x15D13EA4 s x.s := (State.redoSlices_in ..).trans (State.channelSlices_same ..)
  exact hx.trans (((State.onEngine_same ..).mono (by decide)).trans (((State.flagFall_same ..).mono (by decide)).trans
    ((State.afterSlices_same ..).mono (by decide))))

theorem State.slices_same (s : State) (a : RoundInput) (final : Bool) :
    Same 0x15D13EA4 s (State.slices s a final) := by
  unfold State.slices
  try dsimp only
  repeat' with_reducible first
    | exact Same.refl _
    | (apply Same.step (State.sliceWork_same ..); decide)
    | (apply Same.step (State.deliverAll_same ..); decide)

theorem State.handOver_same (s : State) :
    Same 0x1D13CE8 s (State.handOver s) := by
  unfold State.handOver
  extract_lets -merge x1 x2 x3 x4 x5
  refine Same.cut (w := 0x1D13CE8) (s := s) (x := x2) (fun _ => ?_) ?_
  clear_value x2
  refine Same.cut (w := 0x1D13CE8) (s := s) (x := x5) (fun _ => ?_) ?_
  clear_value x5
  all_goals
    repeat' with_reducible first
      | exact Same.refl _
      | assumption
      | unfold x2
      | unfold x5
      | (apply Same.step (State.applyItem_same ..); decide)
      | (apply Same.step (State.onEngine_same ..); decide)
      | (apply Same.step (State.stepDue_same ..); decide)
      | refine Same.foldl (fun _ _ => ?_) ?_
      | unfold x1
      | refine Same.ite ?_ ?_

theorem State.relaysDue_same (s : State) :
    Same 0x7E10084 s (State.relaysDue s) := by
  unfold State.relaysDue
  extract_lets -merge x1 x2 x3 x4 x5 x6
  refine Same.cut (w := 0x7E10084) (s := s) (x := x5) (fun _ => ?_) ?_
  clear_value x5
  refine Same.cut (w := 0x7E10084) (s := s) (x := x6) (fun _ => ?_) ?_
  clear_value x6
  all_goals
    repeat' with_reducible first
      | exact Same.refl _
      | assumption
      | unfold x5
      | unfold x6
      | (apply Same.step (State.onRelays_same ..); decide)
      | (apply Same.step (State.applyAlarms_same ..); decide)
      | (apply Same.step (State.applyArms_same ..); decide)
      | (apply Same.step (State.applyPolicy_same ..); decide)
      | (apply Same.step (State.applyRelayCommands_same ..); decide)
      | (apply Same.step (State.alarmRecords_same ..); decide)
      | (apply Same.step (State.answerRelayCommands_same ..); decide)
      | (apply Same.step (State.evalRelays_same ..); decide)
      | refine Same.foldl (fun _ _ => ?_) ?_

theorem State.requestsDue_same (s : State) :
    Same 0x1FDD38BC s (State.requestsDue s) := by
  unfold State.requestsDue
  extract_lets -merge x1 x2 x3
  refine Same.cut (w := 0x1FDD38BC) (s := s) (x := x1) (fun _ => ?_) ?_
  clear_value x1
  refine Same.cut (w := 0x1FDD38BC) (s := s) (x := x2) (fun _ => ?_) ?_
  clear_value x2
  refine Same.cut (w := 0x1FDD38BC) (s := s) (x := x3) (fun _ => ?_) ?_
  clear_value x3
  all_goals
    repeat' with_reducible first
      | exact Same.refl _
      | assumption
      | unfold x1
      | unfold x2
      | unfold x3
      | (apply Same.step (State.applyPulses_same ..); decide)
      | (apply Same.step (State.applySetTimes_same ..); decide)
      | (apply Same.step (State.applyDemandResets_same ..); decide)
      | (apply Same.step (State.onClock_same ..) <;> first | decide | exact fun _ => rfl | (intro _; split <;> rfl) | show Same _ _ _)
      | (apply Same.step (State.pruneCloses_same ..); decide)
      | (apply Same.step (State.openDueAll_same ..); decide)
      | (apply Same.step (State.applyDebug_same ..); decide)
      | (apply Same.step (State.applyModes_same ..); decide)
      | (apply Same.step (State.judgeDegradation_same ..); decide)
      | (apply Same.step (State.thermIdle_same ..); decide)
      | (apply Same.step (State.settleRemaps_same ..); decide)
      | (apply Same.step (State.finishUnbinds_same ..); decide)

theorem State.loopDue_same (s : State) :
    Same 0x12880 s (State.loopDue s) := by
  unfold State.loopDue
  try dsimp only
  repeat' with_reducible first
    | exact Same.refl _
    | (apply Same.step (State.onPoint_same ..); decide)
    | (apply Same.step (State.gateFrom_same ..); decide)
    | (apply Same.step (State.onWaiting_same ..); decide)
    | (apply Same.step (State.onEngine_same ..); decide)
    | refine Same.foldl (fun _ _ => ?_) ?_
    | refine Same.ite ?_ ?_
    | split

theorem State.resourcesDue_same (s : State) (short : Bool) :
    Same 0x7C13CA4 s (State.resourcesDue s short) := by
  unfold State.resourcesDue
  extract_lets -merge x1 x2
  refine Same.cut (w := 0x7C13CA4) (s := s) (x := x1) (fun _ => ?_) ?_
  clear_value x1
  refine Same.cut (w := 0x7C13CA4) (s := s) (x := x2) (fun _ => ?_) ?_
  clear_value x2
  all_goals
    repeat' with_reducible first
      | exact Same.refl _
      | assumption
      | unfold x1
      | unfold x2
      | (apply Same.step (State.loopDue_same ..); decide)
      | (apply Same.step (State.islandsDue_same ..); decide)
      | (apply Same.step (State.lanesDue_same ..); decide)
      | (apply Same.step (State.reAdmit_same ..); decide)
      | (apply Same.step (State.judgeDegradation_same ..); decide)
      | (apply Same.step (State.adapt_same ..); decide)
      | refine Same.ite ?_ ?_

theorem State.roundBoundary_same (s : State) (a : RoundInput) :
    Same 0x1FFDFEFC s (State.roundBoundary s a) := by
  unfold State.roundBoundary
  extract_lets -merge x1 x2 x3 x4
  refine Same.cut (w := 0x1FFDFEFC) (s := s) (x := x1) (fun _ => ?_) ?_
  clear_value x1
  refine Same.cut (w := 0x1FFDFEFC) (s := s) (x := x2) (fun _ => ?_) ?_
  clear_value x2
  refine Same.cut (w := 0x1FFDFEFC) (s := s) (x := x3) (fun _ => ?_) ?_
  clear_value x3
  refine Same.cut (w := 0x1FFDFEFC) (s := s) (x := x4) (fun _ => ?_) ?_
  clear_value x4
  all_goals
    repeat' with_reducible first
      | exact Same.refl _
      | assumption
      | unfold x1
      | unfold x2
      | unfold x3
      | unfold x4
      | (apply Same.step (State.handOver_same ..); decide)
      | (apply Same.step (State.slices_same ..); decide)
      | (apply Same.step (State.boundSlots_same ..); decide)
      | (apply Same.step (State.settleSets_same ..); decide)
      | (apply Same.step (State.relaysDue_same ..); decide)
      | (apply Same.step (State.requestsDue_same ..); decide)
      | (apply Same.step (State.mirrorSlots_same ..); decide)
      | (apply Same.step (State.askVerifications_same ..); decide)
      | (apply Same.step (State.roundSeconds_same ..); decide)
      | (apply Same.step (State.resourcesDue_same ..); decide)
      | (apply Same.step (State.onClock_same ..) <;> first | decide | exact fun _ => rfl | (intro _; split <;> rfl) | show Same _ _ _)
      | (apply Same.step (State.onMode_same ..); decide)
      | refine Same.foldl (fun _ _ => ?_) ?_
      | refine Same.ite ?_ ?_

theorem State.nextBoundary_same (s : State) (a : RoundInput) :
    Same 0x3FFDFEFC s (State.nextBoundary s a) := by
  unfold State.nextBoundary
  try dsimp only
  repeat' with_reducible first
    | exact Same.refl _
    | (apply Same.step (State.onClock_time ..); decide)
    | (apply Same.step (State.roundBoundary_same ..); decide)
    | refine Same.ite ?_ ?_

theorem State.channelSlice_same (s : State) (c : Nat) :
    Same 0x800 s (State.channelSlice s c) := by
  unfold State.channelSlice
  try dsimp only
  repeat' with_reducible first
    | exact Same.refl _
    | (apply Same.step (State.onChan_same ..); decide)
    | (apply Same.step (State.runSlice_same ..); decide)
    | refine Same.ite ?_ ?_

theorem State.restoreReference_same (s : State) :
    Same 0x1810830 s (State.restoreReference s) := by
  unfold State.restoreReference
  extract_lets -merge x1 x2 x3
  refine Same.cut (w := 0x1810830) (s := s) (x := x1) (fun _ => ?_) ?_
  clear_value x1
  refine Same.cut (w := 0x1810830) (s := s) (x := x2) (fun _ => ?_) ?_
  clear_value x2
  refine Same.cut (w := 0x1810830) (s := s) (x := x3) (fun _ => ?_) ?_
  clear_value x3
  all_goals
    repeat' with_reducible first
      | exact Same.refl _
      | assumption
      | unfold x1
      | unfold x2
      | unfold x3
      | (apply Same.step (State.onClock_same ..) <;> first | decide | exact fun _ => rfl | (intro _; split <;> rfl) | show Same _ _ _)
      | (apply Same.step (State.restartIsland_same ..); decide)
      | (apply Same.step (State.dropCause_same ..); decide)
      | (apply Same.step (State.clearAlarm_same ..); decide)
      | refine Same.foldl (fun _ _ => ?_) ?_
      | refine Same.ite ?_ ?_

theorem State.declareLoss_same (s : State) :
    Same 0x1C11034 s (State.declareLoss s) := by
  unfold State.declareLoss
  extract_lets -merge x1 x2 x3 x4
  refine Same.cut (w := 0x1C11034) (s := s) (x := x1) (fun _ => ?_) ?_
  clear_value x1
  refine Same.cut (w := 0x1C11034) (s := s) (x := x2) (fun _ => ?_) ?_
  clear_value x2
  refine Same.cut (w := 0x1C11034) (s := s) (x := x3) (fun _ => ?_) ?_
  clear_value x3
  refine Same.cut (w := 0x1C11034) (s := s) (x := x4) (fun _ => ?_) ?_
  clear_value x4
  all_goals
    repeat' with_reducible first
      | exact Same.refl _
      | assumption
      | unfold x1
      | unfold x2
      | unfold x3
      | unfold x4
      | (apply Same.step (State.onClock_same ..) <;> first | decide | exact fun _ => rfl | (intro _; split <;> rfl) | show Same _ _ _)
      | (apply Same.step (State.onPoint_same ..); decide)
      | (apply Same.step (State.setCause_same ..); decide)
      | (apply Same.step (State.haltSeconds_same ..); decide)
      | (apply Same.step (State.requestMode_same ..); decide)
      | (apply Same.step (State.raiseAlarm_same ..); decide)
      | refine Same.foldl (fun _ _ => ?_) ?_
      | refine Same.ite ?_ ?_

theorem execReferenceWindow_same (count : Nat) (s : State) :
    SameO 0x21C11834 s (execReferenceWindow count s) := by
  unfold execReferenceWindow
  extract_lets -merge x1 x2 x3
  refine Same.cut (w := 0x21C11834) (s := s) (x := x1) (fun _ => ?_) ?_
  clear_value x1
  refine Same.cut (w := 0x21C11834) (s := s) (x := x3) (fun _ => ?_) ?_
  clear_value x3
  all_goals
    repeat' with_reducible first
      | exact Same.refl _
      | assumption
      | unfold x1
      | unfold x3
      | refine SameO.next ?_
      | (apply Same.step (State.onClock_time ..); decide)
      | (apply Same.step (State.restoreReference_same ..); decide)
      | (apply Same.step (State.declareLoss_same ..); decide)
      | unfold x2
      | refine Same.ite ?_ ?_

end Sys2Proof.Machine
end

