-- ==== Sys2Proof/Laws/FramePower.lean ====
section
/-! SUPPORT. What each function of Power can change: the mask of the parts, and never what `Same` forbids. -/
namespace Sys2Proof.Machine

theorem State.endDetection_same (s : State) :
    Same 0xC10A80 s (State.endDetection s) := by
  unfold State.endDetection
  try dsimp only
  repeat' with_reducible first
    | exact Same.refl _
    | (apply Same.step (State.endEvents_same ..); decide)
    | (apply Same.step (State.drainItems_same ..); decide)
    | (apply Same.step (State.dropCapture_same ..); decide)
    | (apply Same.step (State.closeWindows_same ..); decide)
    | refine Same.foldl (fun _ _ => ?_) ?_
    | refine Same.ite ?_ ?_

theorem cmdHoldupTest_same (s : State) (r : Request) :
    SameE 0x188 s (cmdHoldupTest s r) := by
  unfold cmdHoldupTest
  try dsimp only
  repeat' with_reducible first
    | exact Same.refl _
    | exact SameE.error
    | refine SameE.ok ?_
    | (apply Same.step (State.accept_same (by assumption)); decide)
    | (apply Same.step (State.onPower_same ..); decide)
    | refine SameE.bind (fun _ => ?_)
    | split

theorem State.drainEvents_same (s : State) (k : Nat) :
    Same 0x2800280 s (State.drainEvents k s) := by
  induction k generalizing s with
  | zero =>
    unfold State.drainEvents
    try dsimp only
    repeat' with_reducible first
      | exact Same.refl _
  | succ k ih =>
    unfold State.drainEvents
    try dsimp only
    repeat' with_reducible first
      | exact Same.refl _
      | (apply Same.step (State.onEvents_same ..); decide)
      | (apply Same.step (State.poisoned_same ..); decide)
      | (apply Same.step (State.record_same ..); decide)
      | (apply Same.step (ih ..); decide)
      | refine Same.foldl (fun _ _ => ?_) ?_
      | refine Same.ite ?_ ?_

theorem State.vbatMeasured_same (s : State) (mv : Nat) :
    Same 0x181002C s (State.vbatMeasured s mv) := by
  unfold State.vbatMeasured
  try dsimp only
  repeat' with_reducible first
    | exact Same.refl _
    | (apply Same.step (State.onPower_same ..); decide)
    | (apply Same.step (State.raiseAlarm_same ..); decide)
    | (apply Same.step (State.clearAlarm_same ..); decide)
    | refine Same.ite ?_ ?_

theorem State.toCell_same (s : State) :
    Same 0x28 s (State.toCell s) := by
  unfold State.toCell
  try dsimp only
  repeat' with_reducible first
    | exact Same.refl _
    | (apply Same.step (State.onPower_same ..); decide)
    | (apply Same.step (State.onMode_same ..); decide)

theorem State.toDormant_same (s : State) :
    Same 0x1000038 s (State.toDormant s) := by
  unfold State.toDormant
  extract_lets -merge x1 x2 x3
  refine Same.cut (w := 0x1000038) (s := s) (x := x1) (fun _ => ?_) ?_
  clear_value x1
  refine Same.cut (w := 0x1000038) (s := s) (x := x2) (fun _ => ?_) ?_
  clear_value x2
  refine Same.cut (w := 0x1000038) (s := s) (x := x3) (fun _ => ?_) ?_
  clear_value x3
  all_goals
    repeat' with_reducible first
      | exact Same.refl _
      | assumption
      | unfold x1
      | unfold x2
      | unfold x3
      | (apply Same.step (State.toCell_same ..); decide)
      | (apply Same.step (State.onMode_same ..); decide)
      | (apply Same.step (State.onClock_same ..) <;> first | decide | exact fun _ => rfl | (intro _; split <;> rfl) | show Same _ _ _)
      | (apply Same.step (State.onTamper_same ..); decide)

theorem State.fullWork_same (s : State) :
    Same 0x400000 s (State.fullWork s) := by
  unfold State.fullWork
  try dsimp only
  repeat' with_reducible first
    | exact Same.refl _
    | (apply Same.step (State.resumeCapture_same ..); decide)
    | (apply Same.step (State.onPq_same ..); decide)
    | refine Same.ite ?_ ?_

theorem State.finishNow_same (s : State) (c : Commit) :
    Same 0x2910080 s (State.finishNow s c) := by
  unfold State.finishNow
  extract_lets -merge x1 x2 x3 x4
  refine Same.cut (w := 0x2910080) (s := s) (x := x2) (fun _ => ?_) ?_
  clear_value x2
  refine Same.cut (w := 0x2910080) (s := s) (x := x3) (fun _ => ?_) ?_
  clear_value x3
  refine Same.cut (w := 0x2910080) (s := s) (x := x4) (fun _ => ?_) ?_
  clear_value x4
  all_goals
    repeat' with_reducible first
      | exact Same.refl _
      | assumption
      | unfold x2
      | unfold x3
      | unfold x4
      | (apply Same.step (State.onCommit_same ..); decide)
      | (apply Same.step (State.pointSteps_same ..); decide)
      | (apply Same.step (State.onPoint_same ..); decide)
      | (apply Same.step (State.finishCommit_same ..); decide)
      | refine Same.foldl (fun _ _ => ?_) ?_
      | unfold x1
      | refine Same.ite ?_ ?_
      | split

theorem State.aonAt_same (s : State) (vholdMv : Nat) :
    Same 0x8 s (State.aonAt s vholdMv) := by
  unfold State.aonAt
  try dsimp only
  repeat' with_reducible first
    | exact Same.refl _
    | (apply Same.step (State.onPower_same ..); decide)

theorem State.unpowered_same (s : State) :
    Same 0x2C44140 s (State.unpowered s) := by
  unfold State.unpowered
  extract_lets -merge x1 x2 x3 x4 x5
  refine Same.cut (w := 0x2C44140) (s := s) (x := x1) (fun _ => ?_) ?_
  clear_value x1
  refine Same.cut (w := 0x2C44140) (s := s) (x := x2) (fun _ => ?_) ?_
  clear_value x2
  refine Same.cut (w := 0x2C44140) (s := s) (x := x3) (fun _ => ?_) ?_
  clear_value x3
  refine Same.cut (w := 0x2C44140) (s := s) (x := x4) (fun _ => ?_) ?_
  clear_value x4
  refine Same.cut (w := 0x2C44140) (s := s) (x := x5) (fun _ => ?_) ?_
  clear_value x5
  all_goals
    repeat' with_reducible first
      | exact Same.refl _
      | assumption
      | unfold x1
      | unfold x2
      | unfold x3
      | unfold x4
      | unfold x5
      | (apply Same.step (State.onStore_same ..) <;> first | decide | exact fun _ => rfl | (intro _; split <;> rfl) | show Same _ _ _)
      | (apply Same.step (State.onEvents_same ..); decide)
      | (apply Same.step (State.onPq_same ..); decide)
      | (apply Same.step (State.eachPulse_same ..); decide)
      | (apply Same.step (State.onQ8_same ..); decide)
      | (apply Same.step (State.onTap_same ..); decide)
      | (apply Same.step (State.onCp_same ..); decide)

theorem State.commitOldest_same (s : State) (m : Nat) :
    Same 0x3BDE2A4 s (State.commitOldest s m) := by
  unfold State.commitOldest
  try dsimp only
  repeat' with_reducible first
    | exact Same.refl _
    | (apply Same.step (State.drainSegments_same ..); decide)
    | (apply Same.step (State.commitSlot_same ..); decide)
    | (apply Same.step (State.onPoint_same ..); decide)
    | refine Same.ite ?_ ?_
    | split

theorem State.commitPending_same (s : State) :
    Same 0x3BDE2A4 s (State.commitPending s) := by
  unfold State.commitPending
  try dsimp only
  repeat' with_reducible first
    | exact Same.refl _
    | (apply Same.step (State.commitOldest_same ..); decide)
    | (apply Same.step (State.drainSegments_same ..); decide)
    | refine Same.foldl (fun _ _ => ?_) ?_

theorem State.lastRound_same (s : State) (a : AdjInput) :
    Same 0x35D13EB4 s (State.lastRound s a) := by
  unfold State.lastRound
  try dsimp only
  repeat' with_reducible first
    | exact Same.refl _
    | (apply Same.step (State.onClock_time ..); decide)
    | (apply Same.step (State.slices_same ..); decide)
    | (apply Same.step (State.sliceWork_same ..); decide)
    | refine Same.ite ?_ ?_

theorem State.markOutage_same (s : State) :
    Same 0x90000 s (State.markOutage s) := by
  unfold State.markOutage
  try dsimp only
  repeat' with_reducible first
    | exact Same.refl _
    | (apply Same.step (State.onPoint_same ..); decide)
    | (apply Same.step (State.eachGroup_same ..); decide)
    | refine Same.foldl (fun _ _ => ?_) ?_

theorem State.adjournMetering_same (s : State) (a : AdjInput) :
    Same 0x37FDFEB4 s (State.adjournMetering s a).1 := by
  unfold State.adjournMetering
  extract_lets -merge x1 x2 x3
  refine Same.cut (w := 0x37FDFEB4) (s := s) (x := x1) (fun _ => ?_) ?_
  clear_value x1
  refine Same.cut (w := 0x37FDFEB4) (s := s) (x := x2) (fun _ => ?_) ?_
  clear_value x2
  all_goals
    repeat' with_reducible first
      | exact Same.refl _
      | assumption
      | unfold x1
      | unfold x2
      | (apply Same.step (State.mirrorSlots_same ..); decide)
      | (apply Same.step (State.commitPending_same ..); decide)
      | (apply Same.step (State.openDueAll_same ..); decide)
      | (apply Same.step (State.lastRound_same ..); decide)
      | (apply Same.step (State.onTariff_same ..); decide)
      | (apply Same.step (State.markOutage_same ..); decide)
      | (apply Same.step (State.finishNow_same ..); decide)
      | refine Same.foldl (fun _ _ => ?_) ?_

theorem State.adjournEvents_same (s : State) :
    Same 0x2800280 s (State.adjournEvents s) := by
  unfold State.adjournEvents
  extract_lets -merge x1 x2 x3 x4 x5 x6
  refine Same.cut (w := 0x2800280) (s := s) (x := x2) (fun _ => ?_) ?_
  clear_value x2
  refine Same.cut (w := 0x2800280) (s := s) (x := x3) (fun _ => ?_) ?_
  clear_value x3
  refine Same.cut (w := 0x2800280) (s := s) (x := x4) (fun _ => ?_) ?_
  clear_value x4
  refine Same.cut (w := 0x2800280) (s := s) (x := x5) (fun _ => ?_) ?_
  clear_value x5
  refine Same.cut (w := 0x2800280) (s := s) (x := x6) (fun _ => ?_) ?_
  clear_value x6
  all_goals
    repeat' with_reducible first
      | exact Same.refl _
      | assumption
      | unfold x2
      | unfold x3
      | unfold x4
      | unfold x5
      | unfold x6
      | (apply Same.step (State.drainEvents_same ..); decide)
      | (apply Same.step (State.releaseLog_same ..); decide)
      | (apply Same.step (State.raise_same ..); decide)
      | (apply Same.step (State.record_same ..); decide)
      | (apply Same.step (State.enqueue_same ..); decide)
      | refine Same.foldl (fun _ _ => ?_) ?_

theorem State.switchOff_same (s : State) (a : AdjInput) :
    Same 0x2C44168 s (State.switchOff s a) := by
  unfold State.switchOff
  extract_lets -merge x1 x2
  refine Same.cut (w := 0x2C44168) (s := s) (x := x1) (fun _ => ?_) ?_
  clear_value x1
  refine Same.cut (w := 0x2C44168) (s := s) (x := x2) (fun _ => ?_) ?_
  clear_value x2
  all_goals
    repeat' with_reducible first
      | exact Same.refl _
      | assumption
      | unfold x1
      | unfold x2
      | (apply Same.step (State.unpowered_same ..); decide)
      | (apply Same.step (State.onMode_same ..); decide)
      | (apply Same.step (State.onPower_same ..); decide)

theorem State.afterMarker_same (s : State) (a : AdjInput) :
    Same 0x1000038 s (State.afterMarker s a) := by
  unfold State.afterMarker
  extract_lets -merge x1 x2
  refine Same.cut (w := 0x1000038) (s := s) (x := x1) (fun _ => ?_) ?_
  clear_value x1
  refine Same.cut (w := 0x1000038) (s := s) (x := x2) (fun _ => ?_) ?_
  clear_value x2
  all_goals
    repeat' with_reducible first
      | exact Same.refl _
      | assumption
      | unfold x1
      | unfold x2
      | (apply Same.step (State.onPower_same ..); decide)
      | (apply Same.step (State.onClock_same ..) <;> first | decide | exact fun _ => rfl | (intro _; split <;> rfl) | show Same _ _ _)
      | (apply Same.step (State.onMode_same ..); decide)
      | (apply Same.step (State.toDormant_same ..); decide)
      | (apply Same.step (State.toCell_same ..); decide)
      | refine Same.ite ?_ ?_

theorem Save.on_same {w : Nat} {v : Save} {s : State} {f : State → State} (hf : ∀ x, Same w x (f x))
    (h : Same w s v.s) : Same w s (v.on f).s := by
  unfold Save.on
  split
  · exact h
  · exact h.trans (hf _)

theorem Save.ite_same {w : Nat} {s : State} {a b : Save} {c : Prop} [Decidable c] (h : Same w s a.s) (k : Same w s b.s) :
    Same w s (if c then a else b).s := by split <;> assumption

theorem Save.await_same (v : Save) (j : StoreJob) (level : Nat) (rest : List Nat) :
    Same 0x1BE543F8 v.s (v.await j level rest).s := by
  unfold Save.await
  generalize passAt (v.allows 3500) rest = o
  generalize (level :: rest).any (v.allows 150) = c
  cases o with
  | some r => exact .refl _
  | none =>
    cases c with
    | false => exact .refl _
    | true =>
      show Same 0x1BE543F8 v.s (v.on fun s => j.recs.foldl State.voidRec s).s
      exact Save.on_same (fun x => Same.foldl (fun _ _ => (State.voidRec_same ..).mono (by decide)) (.refl _)) (.refl _)

theorem Save.check_same (v : Save) (j : StoreJob) : Same 0x1BE543F8 v.s (v.check j).s := by
  unfold Save.check
  cases v.levels with
  | nil => exact .refl _
  | cons x r =>
    refine Save.ite_same (.refl _) (Save.ite_same (.refl _) (Same.trans (Save.on_same (fun x => ?_) (.refl _)) (Save.await_same ..)))
    exact Same.mono (State.onStore_same x _ (fun _ => rfl)) (by decide)

theorem Save.job_same (v : Save) (j : StoreJob) : Same 0x1BE543F8 v.s (v.job j).s := by
  unfold Save.job
  dsimp only
  refine Save.ite_same (Save.check_same v j) ?_
  split
  · exact (Save.check_same v j).trans ((State.cutJob_same ..).mono (by decide))
  · exact (Save.check_same v j).trans (((State.writeJob_same ..).mono (by decide)).trans ((State.jobReleases_same ..).mono (by decide)))
  · exact (Save.check_same v j).trans (((State.writeJob_same ..).mono (by decide)).trans ((State.jobReleases_same ..).mono (by decide)))

theorem Save.flush_same {s : State} {v : Save} (h : Same 0x1BE543F8 s v.s) : Same 0x1BE543F8 s v.flush.s := by
  unfold Save.flush
  suffices ∀ (js : List StoreJob) (x : Save), Same 0x1BE543F8 s x.s → Same 0x1BE543F8 s (js.foldl Save.job x).s from
    this _ _ (Save.on_same (fun x => Same.mono (State.onStore_same x _ (fun _ => rfl)) (by decide)) h)
  intro js
  induction js with
  | nil => exact fun _ k => k
  | cons j r ih => exact fun x k => ih _ (k.trans (Save.job_same x j))

theorem State.adjournSave_same (s : State) (a : AdjInput) (boundaries : Nat) :
    Same 0x1BE543F8 s (State.adjournSave s a boundaries) := by
  unfold State.adjournSave
  extract_lets -merge x1 x2 x3 x4 x5 x6 x7 x8 x9 x10 x11 x12 x13 x14 x15 x16 x17 x18 x19 x20 x21 x22
  have h4 : Same 0x1BE543F8 s x4 := Same.ite (Same.mono (State.onStore_same _ _ fun _ => rfl) (by decide)) (.refl _)
  have h7 : Same 0x1BE543F8 s x7.s := Save.flush_same h4
  have h9 : Same 0x1BE543F8 s x9.s := Save.on_same (fun x => Same.foldl (fun _ _ => (State.applyToken_same ..).mono (by decide))
    ((State.onRelays_same ..).mono (by decide))) h7
  have h12 : Same 0x1BE543F8 s x12.s := Save.flush_same (Save.on_same (fun x => Same.foldl
    (fun _ _ => (State.enqueue_same ..).mono (by decide)) (.refl _)) h9)
  have h13 : Same 0x1BE543F8 s x13.s := Save.ite_same h12 (Save.flush_same (Save.on_same (fun x =>
    ((State.jobReleases_same ..).mono (by decide)).trans (Same.mono (State.onStore_same _ _ fun _ => rfl) (by decide))) h12))
  have h15 : Same 0x1BE543F8 s x15.s := Save.on_same (fun x => (State.adjournEvents_same ..).mono (by decide)) h13
  have h17 : Same 0x1BE543F8 s x17.s := Save.flush_same h15
  have h20 : Same 0x1BE543F8 s x20.s := Save.ite_same (Save.flush_same (Save.on_same (fun x =>
    Same.mono (State.onStore_same _ _ fun _ => rfl) (by decide)) h17)) h17
  have h21 : Same 0x1BE543F8 s x21.s := Save.flush_same (Save.on_same (fun x =>
    ((State.enqueue_same ..).mono (by decide)).trans ((State.enqueue_same ..).mono (by decide))) h20)
  have h22 : Same 0x1BE543F8 s x22 := h21.trans ((State.switchOff_same ..).mono (by decide))
  exact Same.ite (h22.trans ((State.toCell_same ..).mono (by decide))) (h22.trans ((State.afterMarker_same ..).mono (by decide)))

theorem execAdjournment_same (a : AdjInput) (s : State) :
    SameO 0x3FFDFFFC s (execAdjournment a s) := by
  unfold execAdjournment
  try dsimp only
  repeat' with_reducible first
    | exact Same.refl _
    | refine SameO.next ?_
    | (apply Same.step (State.adjournMetering_same ..); decide)
    | (apply Same.step (State.adjournSave_same ..); decide)
    | (apply Same.step (State.endDetection_same ..); decide)
    | refine Same.ite ?_ ?_

theorem execTemperatureReduction_same (t16 : Int) (s : State) :
    SameO 0x1C0080C s (execTemperatureReduction t16 s) := by
  unfold execTemperatureReduction
  try dsimp only
  repeat' with_reducible first
    | exact Same.refl _
    | refine SameO.next ?_
    | (apply Same.step (State.onPower_same ..); decide)
    | (apply Same.step (State.raiseAlarm_same ..); decide)
    | (apply Same.step (State.stopCapture_same ..); decide)
    | (apply Same.step (State.pauseHarm_same ..); decide)
    | refine Same.ite ?_ ?_

theorem execCapService_same (on : Bool) (s : State) :
    SameO 0x800408 s (execCapService on s) := by
  unfold execCapService
  try dsimp only
  repeat' with_reducible first
    | exact Same.refl _
    | refine SameO.next ?_
    | (apply Same.step (State.capServiceWritten_same ..); decide)
    | refine Same.ite ?_ ?_

theorem execVbatMeasurement_same (mv vhold : Nat) (s : State) :
    SameO 0x181002C s (execVbatMeasurement mv s vhold) := by
  unfold execVbatMeasurement
  try dsimp only
  repeat' with_reducible first
    | exact Same.refl _
    | refine SameO.next ?_
    | (apply Same.step (State.aonAt_same ..); decide)
    | (apply Same.step (State.vbatMeasured_same ..); decide)
    | refine Same.ite ?_ ?_

theorem State.discardTest_same (s : State) :
    Same 0x88 s (State.discardTest s) := by
  unfold State.discardTest
  try dsimp only
  repeat' with_reducible first
    | exact Same.refl _
    | (apply Same.step (State.finish_same ..); decide)
    | (apply Same.step (State.onPower_same ..); decide)
    | refine Same.ite ?_ ?_
    | split

theorem execPfail_same (vmain vhold : Nat) (s : State) :
    SameO 0x2C10888 s (execPfail vmain vhold s) := by
  unfold execPfail
  try dsimp only
  repeat' with_reducible first
    | exact Same.refl _
    | refine SameO.next ?_
    | (apply Same.step (State.onPower_same ..); decide)
    | (apply Same.step (State.stopCapture_same ..); decide)
    | (apply Same.step (State.pauseHarm_same ..); decide)
    | (apply Same.step (State.pauseScrub_same ..); decide)
    | (apply Same.step (State.stopCheckpoint_same ..); decide)
    | (apply Same.step (State.discardTest_same ..); decide)
    | (apply Same.step (State.raise_same ..); decide)
    | refine Same.ite ?_ ?_

theorem execTemperatureRecovery_same (t16 : Int) (s : State) :
    SameO 0x1C10028 s (execTemperatureRecovery t16 s) := by
  unfold execTemperatureRecovery
  try dsimp only
  repeat' with_reducible first
    | exact Same.refl _
    | refine SameO.next ?_
    | (apply Same.step (State.clearAlarm_same ..); decide)
    | (apply Same.step (State.fullWork_same ..); decide)
    | (apply Same.step (State.onPower_same ..); decide)
    | refine Same.ite ?_ ?_

theorem State.startAdjourn_same (s : State) (cause : Nat) :
    Same 0xE35B1F8 s (State.startAdjourn s cause) := by
  unfold State.startAdjourn
  extract_lets -merge x1 x2 x3 x4 x5 x6 x7 x8 x9 x10 x11 x12 x13 x14
  refine Same.cut (w := 0xE35B1F8) (s := s) (x := x1) (fun _ => ?_) ?_
  clear_value x1
  refine Same.cut (w := 0xE35B1F8) (s := s) (x := x2) (fun _ => ?_) ?_
  clear_value x2
  refine Same.cut (w := 0xE35B1F8) (s := s) (x := x3) (fun _ => ?_) ?_
  clear_value x3
  refine Same.cut (w := 0xE35B1F8) (s := s) (x := x4) (fun _ => ?_) ?_
  clear_value x4
  refine Same.cut (w := 0xE35B1F8) (s := s) (x := x5) (fun _ => ?_) ?_
  clear_value x5
  refine Same.cut (w := 0xE35B1F8) (s := s) (x := x6) (fun _ => ?_) ?_
  clear_value x6
  refine Same.cut (w := 0xE35B1F8) (s := s) (x := x7) (fun _ => ?_) ?_
  clear_value x7
  refine Same.cut (w := 0xE35B1F8) (s := s) (x := x8) (fun _ => ?_) ?_
  clear_value x8
  refine Same.cut (w := 0xE35B1F8) (s := s) (x := x9) (fun _ => ?_) ?_
  clear_value x9
  refine Same.cut (w := 0xE35B1F8) (s := s) (x := x10) (fun _ => ?_) ?_
  clear_value x10
  refine Same.cut (w := 0xE35B1F8) (s := s) (x := x11) (fun _ => ?_) ?_
  clear_value x11
  refine Same.cut (w := 0xE35B1F8) (s := s) (x := x12) (fun _ => ?_) ?_
  clear_value x12
  refine Same.cut (w := 0xE35B1F8) (s := s) (x := x13) (fun _ => ?_) ?_
  clear_value x13
  refine Same.cut (w := 0xE35B1F8) (s := s) (x := x14) (fun _ => ?_) ?_
  clear_value x14
  all_goals
    repeat' with_reducible first
      | exact Same.refl _
      | assumption
      | unfold x1
      | unfold x2
      | unfold x3
      | unfold x4
      | unfold x5
      | unfold x6
      | unfold x7
      | unfold x8
      | unfold x9
      | unfold x10
      | unfold x11
      | unfold x12
      | unfold x13
      | unfold x14
      | (apply Same.step (State.onMode_same ..); decide)
      | (apply Same.step (State.onEntry_same ..); decide)
      | (apply Same.step (State.cpDrop_same ..); decide)
      | (apply Same.step (State.pauseScrub_same ..); decide)
      | (apply Same.step (State.stopCheckpoint_same ..); decide)
      | (apply Same.step (State.onIsland_same ..); decide)
      | (apply Same.step (State.stopSeconds_same ..); decide)
      | (apply Same.step (State.onQ28_same ..); decide)
      | (apply Same.step (State.onEngine_same ..); decide)
      | (apply Same.step (State.onTariff_same ..); decide)
      | (apply Same.step (State.onClock_same ..) <;> first | decide | exact fun _ => rfl | (intro _; split <;> rfl) | show Same _ _ _)
      | (apply Same.step (State.onRelays_same ..); decide)
      | (apply Same.step (State.onStore_same ..) <;> first | decide | exact fun _ => rfl | (intro _; split <;> rfl) | show Same _ _ _)
      | (apply Same.step (State.eachPulse_same ..); decide)
      | (apply Same.step (State.closeDebug_same ..); decide)
      | (apply Same.step (State.onCp_same ..); decide)
      | (apply Same.step (State.onTap_same ..); decide)
      | (apply Same.step (State.onPower_same ..); decide)
      | refine Same.foldl (fun _ _ => ?_) ?_
      | refine Same.ite ?_ ?_

theorem execRideThroughEnd_same (vhold : Nat) (s : State) :
    SameO 0xE35B1F8 s (execRideThroughEnd vhold s) := by
  unfold execRideThroughEnd
  try dsimp only
  repeat' with_reducible first
    | exact Same.refl _
    | refine SameO.next ?_
    | (apply Same.step (State.onPower_same ..); decide)
    | (apply Same.step (State.startAdjourn_same ..); decide)
    | refine Same.ite ?_ ?_
    | split

theorem execResetCmdStart_same (vddio : Nat) (s : State) :
    SameO 0xE35B1F8 s (execResetCmdStart s vddio) := by
  unfold execResetCmdStart
  try dsimp only
  repeat' with_reducible first
    | exact Same.refl _
    | refine SameO.next ?_
    | (apply Same.step (State.startAdjourn_same ..); decide)
    | (apply Same.step (State.cpReset_same ..); decide)
    | refine Same.ite ?_ ?_
    | split

theorem execVbatMeasure_same (mv : Nat) (s : State) :
    SameO 0x181002C s (execVbatMeasure mv s) := by
  unfold execVbatMeasure
  try dsimp only
  repeat' with_reducible first
    | exact Same.refl _
    | refine SameO.next ?_
    | (apply Same.step (State.vbatMeasured_same ..); decide)
    | refine Same.ite ?_ ?_

theorem execFullMeteringReturn_same (vmain : Nat) (s : State) :
    SameO 0x2610008 s (execFullMeteringReturn vmain s) := by
  unfold execFullMeteringReturn
  extract_lets -merge x1 x2
  refine Same.cut (w := 0x2610008) (s := s) (x := x1) (fun _ => ?_) ?_
  clear_value x1
  refine Same.cut (w := 0x2610008) (s := s) (x := x2) (fun _ => ?_) ?_
  clear_value x2
  all_goals
    repeat' with_reducible first
      | exact Same.refl _
      | assumption
      | unfold x1
      | unfold x2
      | refine SameO.next ?_
      | (apply Same.step (State.onPower_same ..); decide)
      | (apply Same.step (State.onStore_same ..) <;> first | decide | exact fun _ => rfl | (intro _; split <;> rfl) | show Same _ _ _)
      | (apply Same.step (State.evalRelays_same ..); decide)
      | (apply Same.step (State.fullWork_same ..); decide)
      | refine Same.ite ?_ ?_

theorem execHealthTestStart_same (vmain vhold : Nat) (s : State) :
    SameO 0x88 s (execHealthTestStart vmain vhold s) := by
  unfold execHealthTestStart
  extract_lets -merge x1 x2
  refine Same.cut (w := 0x88) (s := s) (x := x1) (fun _ => ?_) ?_
  clear_value x1
  refine Same.cut (w := 0x88) (s := s) (x := x2) (fun _ => ?_) ?_
  clear_value x2
  all_goals
    repeat' with_reducible first
      | exact Same.refl _
      | assumption
      | unfold x1
      | unfold x2
      | refine SameO.next ?_
      | (apply Same.step (State.onPower_same ..); decide)
      | (apply Same.step (State.commitOp_same ..); decide)
      | (apply Same.step (State.finish_same ..); decide)
      | refine Same.ite ?_ ?_
      | split

theorem execHealthTestComplete_same (m : HealthMeasure) (s : State) :
    SameO 0x800088 s (execHealthTestComplete m s) := by
  unfold execHealthTestComplete
  extract_lets -merge x1 x2 x3 x4 x5 x6 x7
  refine Same.cut (w := 0x800088) (s := s) (x := x6) (fun _ => ?_) ?_
  clear_value x6
  refine Same.cut (w := 0x800088) (s := s) (x := x7) (fun _ => ?_) ?_
  clear_value x7
  all_goals
    repeat' with_reducible first
      | exact Same.refl _
      | assumption
      | unfold x6
      | unfold x7
      | refine SameO.next ?_
      | (apply Same.step (State.onPower_same ..); decide)
      | (apply Same.step (State.raise_same ..); decide)
      | (apply Same.step (State.finish_same ..); decide)
      | unfold x1
      | unfold x2
      | unfold x3
      | unfold x4
      | unfold x5
      | refine Same.ite ?_ ?_
      | split

end Sys2Proof.Machine
end

