-- ==== Sys2Proof/Laws/FrameStart.lean ====
section
/-! SUPPORT. What each function of Start can change: the mask of the parts, and never what `Same` forbids. -/
namespace Sys2Proof.Machine

theorem OtpPair.repair_le (p : OtpPair) : PairLe p p.repair := by
  unfold OtpPair.repair
  split
  · exact ⟨id, fun _ => rfl⟩
  · exact .refl _

theorem PairsLe.map (l : List OtpPair) : PairsLe l (l.map OtpPair.repair) := by
  intro i
  rw [List.getD_eq_getElem?_getD, List.getD_eq_getElem?_getD, List.getElem?_map]
  cases l[i]? with
  | none => exact .refl _
  | some p => exact p.repair_le

theorem repair_le (o : Otp) : OtpLe o { o with
    l1 := o.l1.repair, l2 := o.l2.repair, l3 := o.l3.repair, rollback := o.rollback.map OtpPair.repair
    evidence := o.evidence.map fun l => l.map OtpPair.repair } := by
  constructor
  all_goals first | exact OtpPair.repair_le _ | exact .map _ | exact List.prefix_rfl | skip
  intro c
  rw [List.getD_eq_getElem?_getD, List.getD_eq_getElem?_getD, List.getElem?_map]
  cases o.evidence[c]? with
  | none => exact .refl _
  | some p => exact .map p

theorem State.wholeConfig_same (s : State) :
    Same 0x1D13CE8 s (State.wholeConfig s) := by
  unfold State.wholeConfig
  try dsimp only
  repeat' with_reducible first
    | exact Same.refl _
    | (apply Same.step (State.applyItem_same ..); decide)
    | (apply Same.step (State.onEngine_same ..); decide)
    | (apply Same.step (State.configured_same ..); decide)
    | refine Same.foldl (fun _ _ => ?_) ?_

theorem State.fallbackEvent_same (s : State) (fields : List Byte) :
    Same 0x2800000 s (State.fallbackEvent s fields) := by
  unfold State.fallbackEvent
  try dsimp only
  repeat' with_reducible first
    | exact Same.refl _
    | (apply Same.step (State.raise_same ..); decide)
    | (apply Same.step (State.onStore_same ..) <;> first | decide | exact fun _ => rfl | (intro _; split <;> rfl) | show Same _ _ _)

theorem State.restorePoint_same (kept : Bool) (s : State) (m : Nat) :
    Same 0x2810000 s (State.restorePoint kept s m) := by
  unfold State.restorePoint
  try dsimp only
  repeat' with_reducible first
    | exact Same.refl _
    | (apply Same.step (State.onPoint_same ..); decide)
    | (apply Same.step (State.fallbackEvent_same ..); decide)
    | refine Same.ite ?_ ?_
    | split

theorem State.seedLoops_same (s : State) :
    Same 0x11000000 s (State.seedLoops s) := by
  unfold State.seedLoops
  try dsimp only
  repeat' with_reducible first
    | exact Same.refl _
    | (apply Same.step (State.draw_same ..); decide)
    | (apply Same.step (State.onTamper_same ..); decide)
    | refine Same.foldl (fun _ _ => ?_) ?_

theorem State.bufferLost_same (s : State) :
    Same 0x3800004 s (State.bufferLost s) := by
  unfold State.bufferLost
  try dsimp only
  repeat' with_reducible first
    | exact Same.refl _
    | (apply Same.step (State.send_same ..); decide)
    | (apply Same.step (State.evidenceIncrement_same ..); decide)
    | refine Same.ite ?_ ?_

theorem State.freshIsland_same (s : State) (n : Nat) :
    Same 0x1000 s (State.freshIsland s n) := by
  unfold State.freshIsland
  try dsimp only
  repeat' with_reducible first
    | exact Same.refl _
    | (apply Same.step (State.onIsland_same ..); decide)

theorem State.freshChannel_same (s : State) (c : Nat) :
    Same 0xC10800 s (State.freshChannel s c) := by
  unfold State.freshChannel
  extract_lets -merge x1 x2 x3 x4
  refine Same.cut (w := 0xC10800) (s := s) (x := x1) (fun _ => ?_) ?_
  clear_value x1
  refine Same.cut (w := 0xC10800) (s := s) (x := x4) (fun _ => ?_) ?_
  clear_value x4
  all_goals
    repeat' with_reducible first
      | exact Same.refl _
      | assumption
      | unfold x1
      | unfold x4
      | (apply Same.step (State.resetCheck_same ..); decide)
      | (apply Same.step (State.onChan_same ..); decide)
      | (apply Same.step (State.restartChan_same ..); decide)

theorem State.freshEngine_same (s : State) :
    Same 0x2000 s (State.freshEngine s) := by
  unfold State.freshEngine
  try dsimp only
  repeat' with_reducible first
    | exact Same.refl _
    | (apply Same.step (State.onEngine_same ..); decide)

theorem State.recordLost_same {α : Type} (s : State) (d : Dual α) :
    Same 0x12800000 s (State.recordLost s d) := by
  unfold State.recordLost
  try dsimp only
  repeat' with_reducible first
    | exact Same.refl _
    | (apply Same.step (State.draw_same ..); decide)
    | (apply Same.step (State.fallbackEvent_same ..); decide)
    | refine Same.ite ?_ ?_

theorem State.restoreDevice_same (s : State) :
    Same 0x17900000 s (State.restoreDevice s) := by
  unfold State.restoreDevice
  extract_lets -merge x1 x2 x3 x4 x5 x6 x7
  refine Same.cut (w := 0x17900000) (s := s) (x := x2) (fun _ => ?_) ?_
  clear_value x2
  refine Same.cut (w := 0x17900000) (s := s) (x := x5) (fun _ => ?_) ?_
  clear_value x5
  refine Same.cut (w := 0x17900000) (s := s) (x := x6) (fun _ => ?_) ?_
  clear_value x6
  refine Same.cut (w := 0x17900000) (s := s) (x := x7) (fun _ => ?_) ?_
  clear_value x7
  all_goals
    repeat' with_reducible first
      | exact Same.refl _
      | assumption
      | unfold x2
      | unfold x5
      | unfold x6
      | unfold x7
      | (apply Same.step (State.recordLost_same ..); decide)
      | (apply Same.step (State.onTariff_same ..); decide)
      | (apply Same.step (State.onSec_same ..); decide)
      | (apply Same.step (State.onTamper_same ..); decide)
      | (apply Same.step (State.onStore_same ..) <;> first | decide | exact fun _ => rfl | (intro _; split <;> rfl) | show Same _ _ _)

theorem State.restorePq_same (s : State) (m : Nat) :
    Same 0x10000 s (State.restorePq s m) := by
  unfold State.restorePq
  try dsimp only
  repeat' with_reducible first
    | exact Same.refl _
    | (apply Same.step (State.onPoint_same ..); decide)

theorem State.scanRings_same (s : State) (m : Nat) :
    Same 0x10000 s (State.scanRings s m) := by
  unfold State.scanRings
  try dsimp only
  repeat' with_reducible first
    | exact Same.refl _
    | (apply Same.step (State.onPoint_same ..); decide)

theorem State.restoreRelay_same (s : State) (m : Nat) :
    Same 0x10000 s (State.restoreRelay s m) := by
  unfold State.restoreRelay
  try dsimp only
  repeat' with_reducible first
    | exact Same.refl _
    | (apply Same.step (State.onLedger_same ..); decide)
    | refine Same.ite ?_ ?_
    | split

theorem State.restoreStore_same (s : State) :
    Same 0x17910000 s (State.restoreStore s) := by
  unfold State.restoreStore
  extract_lets -merge x1 x2 x3 x4 x5 x6
  refine Same.cut (w := 0x17910000) (s := s) (x := x3) (fun _ => ?_) ?_
  clear_value x3
  refine Same.cut (w := 0x17910000) (s := s) (x := x4) (fun _ => ?_) ?_
  clear_value x4
  refine Same.cut (w := 0x17910000) (s := s) (x := x5) (fun _ => ?_) ?_
  clear_value x5
  refine Same.cut (w := 0x17910000) (s := s) (x := x6) (fun _ => ?_) ?_
  clear_value x6
  all_goals
    repeat' with_reducible first
      | exact Same.refl _
      | assumption
      | unfold x3
      | unfold x4
      | unfold x5
      | unfold x6
      | (apply Same.step (State.restoreDevice_same ..); decide)
      | (apply Same.step (State.restorePq_same ..); decide)
      | (apply Same.step (State.scanRings_same ..); decide)
      | (apply Same.step (State.restorePoint_same ..); decide)
      | (apply Same.step (State.restoreRelay_same ..); decide)
      | (apply Same.step (State.eachPoint_same ..); decide)
      | (apply Same.step (State.onEvents_same ..); decide)
      | refine Same.foldl (fun _ _ => ?_) ?_
      | unfold x1
      | unfold x2
      | refine Same.ite ?_ ?_

theorem State.bootControlCore_same (s : State) :
    Same 0x1A800040 s (State.bootControlCore s) := by
  unfold State.bootControlCore
  extract_lets -merge x1 x2 x3 x4
  refine Same.cut (w := 0x1A800040) (s := s) (x := x1) (fun _ => ?_) ?_
  clear_value x1
  refine Same.cut (w := 0x1A800040) (s := s) (x := x4) (fun _ => ?_) ?_
  clear_value x4
  all_goals
    repeat' with_reducible first
      | exact Same.refl _
      | assumption
      | unfold x1
      | unfold x4
      | (apply Same.step (State.giveUpTrial_same ..); decide)
      | (apply Same.step (State.runSlot_same ..); decide)
      | (apply Same.step (State.onImages_same ..); decide)
      | unfold x2
      | refine Same.ite ?_ ?_

theorem execStartAbandoned_same (vhold : Nat) (s : State) :
    SameO 0x2C44168 s (execStartAbandoned s vhold) := by
  unfold execStartAbandoned
  try dsimp only
  repeat' with_reducible first
    | exact Same.refl _
    | refine SameO.next ?_
    | (apply Same.step (State.onMode_same ..); decide)
    | (apply Same.step (State.aonAt_same ..); decide)
    | (apply Same.step (State.unpowered_same ..); decide)
    | refine Same.ite ?_ ?_

theorem State.firstCycle_same (s : State) (m : Nat) :
    Same 0x10000 s (State.firstCycle s m) := by
  unfold State.firstCycle
  try dsimp only
  repeat' with_reducible first
    | exact Same.refl _
    | (apply Same.step (State.onPoint_same ..); decide)
    | refine Same.ite ?_ ?_
    | split

theorem State.scanStore_same (s : State) :
    Same 0x2000000 s (State.scanStore s) := by
  unfold State.scanStore
  try dsimp only
  repeat' with_reducible first
    | exact Same.refl _
    | (apply Same.step (State.onStore_same ..) <;> first | decide | exact fun _ => rfl | (intro _; split <;> rfl) | show Same _ _ _)
    | (apply Same.step (State.countTorn_same ..); decide)

theorem State.bootScan_same (s : State) :
    Same 0x2000160 s (State.bootScan s) := by
  unfold State.bootScan
  extract_lets -merge x1 x2 x3 x4 x5
  refine Same.cut (w := 0x2000160) (s := s) (x := x3) (fun _ => ?_) ?_
  clear_value x3
  refine Same.cut (w := 0x2000160) (s := s) (x := x4) (fun _ => ?_) ?_
  clear_value x4
  refine Same.cut (w := 0x2000160) (s := s) (x := x5) (fun _ => ?_) ?_
  clear_value x5
  all_goals
    repeat' with_reducible first
      | exact Same.refl _
      | assumption
      | unfold x3
      | unfold x4
      | unfold x5
      | (apply Same.step (State.scanStore_same ..); decide)
      | (apply Same.step (State.onMode_same ..); decide)
      | (apply Same.step (State.onTap_same ..); decide)
      | (apply Same.step (State.onCp_same ..); decide)

theorem State.outageWindows_same (s : State) :
    Same 0x1890024 s (State.outageWindows s) := by
  unfold State.outageWindows
  try dsimp only
  repeat' with_reducible first
    | exact Same.refl _
    | (apply Same.step (State.nextWindow_same ..); decide)
    | (apply Same.step (State.evaluateWindow_same ..); decide)
    | (apply Same.step (State.clearAlarm_same ..); decide)
    | (apply Same.step (State.onGroup_same ..); decide)
    | refine Same.foldl (fun _ _ => ?_) ?_
    | refine Same.ite ?_ ?_

theorem State.bootPower_same (s : State) (a : StartInput) :
    Same 0xE8 s (State.bootPower s a) := by
  unfold State.bootPower
  extract_lets -merge x1 x2 x3
  refine Same.cut (w := 0xE8) (s := s) (x := x1) (fun _ => ?_) ?_
  clear_value x1
  refine Same.cut (w := 0xE8) (s := s) (x := x2) (fun _ => ?_) ?_
  clear_value x2
  refine Same.cut (w := 0xE8) (s := s) (x := x3) (fun _ => ?_) ?_
  clear_value x3
  all_goals
    repeat' with_reducible first
      | exact Same.refl _
      | assumption
      | unfold x1
      | unfold x2
      | unfold x3
      | (apply Same.step (State.eachPort_same ..); decide)
      | (apply Same.step (State.onMode_same ..); decide)
      | (apply Same.step (State.onPower_same ..); decide)
      | (apply Same.step (State.onCp_same ..); decide)

theorem State.referenceAfresh_same (s : State) :
    Same 0x1810020 s (State.referenceAfresh s) := by
  unfold State.referenceAfresh
  try dsimp only
  repeat' with_reducible first
    | exact Same.refl _
    | (apply Same.step (State.clearAlarm_same ..); decide)
    | refine Same.ite ?_ ?_

theorem State.outageDemand_same (s : State) (m plan : Nat) (c : Commit) (es : List Entry) (stop : Int) :
    Same 0x110000 s (State.outageDemand s m plan c es stop) := by
  unfold State.outageDemand
  try dsimp only
  repeat' with_reducible first
    | exact Same.refl _
    | (apply Same.step (State.closeSub_same ..); decide)
    | (apply Same.step (State.onCommit_same ..); decide)
    | (apply Same.step (State.onPoint_same ..); decide)
    | refine Same.ite ?_ ?_
    | split

theorem State.beginRun_same (s : State) :
    Same 0x2800030 s (State.beginRun s) := by
  unfold State.beginRun
  extract_lets -merge x1 x2 x3 x4 x5 x6
  refine Same.cut (w := 0x2800030) (s := s) (x := x4) (fun _ => ?_) ?_
  clear_value x4
  refine Same.cut (w := 0x2800030) (s := s) (x := x5) (fun _ => ?_) ?_
  clear_value x5
  all_goals
    repeat' with_reducible first
      | exact Same.refl _
      | assumption
      | unfold x4
      | unfold x5
      | (apply Same.step (State.q12_same ..); decide)
      | (apply Same.step (State.onClock_same ..) <;> first | decide | exact fun _ => rfl | (intro _; split <;> rfl) | show Same _ _ _)
      | (apply Same.step (State.send_same ..); decide)
      | (apply Same.step (State.onMode_same ..); decide)
      | refine Same.foldl (fun _ _ => ?_) ?_

theorem State.startTime_same (s : State) :
    Same 0x800030 s (State.startTime s) := by
  unfold State.startTime
  extract_lets -merge x1 x2 x3 x4 x5 x6 x7
  refine Same.cut (w := 0x800030) (s := s) (x := x5) (fun _ => ?_) ?_
  clear_value x5
  refine Same.cut (w := 0x800030) (s := s) (x := x6) (fun _ => ?_) ?_
  clear_value x6
  refine Same.cut (w := 0x800030) (s := s) (x := x7) (fun _ => ?_) ?_
  clear_value x7
  all_goals
    repeat' with_reducible first
      | exact Same.refl _
      | assumption
      | unfold x5
      | unfold x6
      | unfold x7
      | (apply Same.step (State.onClock_same ..) <;> first | decide | exact fun _ => rfl | (intro _; split <;> rfl) | show Same _ _ _)
      | (apply Same.step (State.placeAnchor_same ..); decide)
      | (apply Same.step (State.onMode_same ..); decide)
      | (apply Same.step (State.driftEvent_same ..); decide)
      | unfold x1
      | unfold x2
      | unfold x3
      | unfold x4
      | refine Same.ite ?_ ?_

theorem State.freshRest_same (s : State) :
    Same 0x64C000 s (State.freshRest s) := by
  unfold State.freshRest
  extract_lets -merge x1 x2
  refine Same.cut (w := 0x64C000) (s := s) (x := x1) (fun _ => ?_) ?_
  clear_value x1
  refine Same.cut (w := 0x64C000) (s := s) (x := x2) (fun _ => ?_) ?_
  clear_value x2
  all_goals
    repeat' with_reducible first
      | exact Same.refl _
      | assumption
      | unfold x1
      | unfold x2
      | (apply Same.step (State.onPq_same ..); decide)
      | (apply Same.step (State.eachPulse_same ..); decide)
      | (apply Same.step (State.onQ28_same ..); decide)
      | (apply Same.step (State.onQ8_same ..); decide)
      | (apply Same.step (State.onRelays_same ..); decide)

theorem State.bootConfigure_same (s : State) :
    Same 0x31F5FCF8 s (State.bootConfigure s) := by
  unfold State.bootConfigure
  extract_lets -merge x1 x2 x3 x4 x5 x6 x7 x8 x9 x10 x11
  refine Same.cut (w := 0x31F5FCF8) (s := s) (x := x4) (fun _ => ?_) ?_
  clear_value x4
  refine Same.cut (w := 0x31F5FCF8) (s := s) (x := x5) (fun _ => ?_) ?_
  clear_value x5
  refine Same.cut (w := 0x31F5FCF8) (s := s) (x := x6) (fun _ => ?_) ?_
  clear_value x6
  refine Same.cut (w := 0x31F5FCF8) (s := s) (x := x7) (fun _ => ?_) ?_
  clear_value x7
  refine Same.cut (w := 0x31F5FCF8) (s := s) (x := x8) (fun _ => ?_) ?_
  clear_value x8
  refine Same.cut (w := 0x31F5FCF8) (s := s) (x := x9) (fun _ => ?_) ?_
  clear_value x9
  refine Same.cut (w := 0x31F5FCF8) (s := s) (x := x10) (fun _ => ?_) ?_
  clear_value x10
  refine Same.cut (w := 0x31F5FCF8) (s := s) (x := x11) (fun _ => ?_) ?_
  clear_value x11
  all_goals
    repeat' with_reducible first
      | exact Same.refl _
      | assumption
      | unfold x4
      | unfold x5
      | unfold x6
      | unfold x7
      | unfold x8
      | unfold x9
      | unfold x10
      | unfold x11
      | (apply Same.step (State.onMode_same ..); decide)
      | (apply Same.step (State.onClock_time ..); decide)
      | (apply Same.step (State.wholeConfig_same ..); decide)
      | (apply Same.step (State.startTime_same ..); decide)
      | (apply Same.step (State.eachPoint_same ..); decide)
      | (apply Same.step (State.freshIsland_same ..); decide)
      | (apply Same.step (State.freshChannel_same ..); decide)
      | (apply Same.step (State.seedLoops_same ..); decide)
      | (apply Same.step (State.freshRest_same ..); decide)
      | (apply Same.step (State.freshEngine_same ..); decide)
      | (apply Same.step (State.onPower_same ..); decide)
      | refine Same.foldl (fun _ _ => ?_) ?_
      | unfold x1
      | refine Same.ite ?_ ?_

theorem State.bootSample_same (s : State) :
    Same 0x10820 s (State.bootSample s) := by
  unfold State.bootSample
  try dsimp only
  repeat' with_reducible first
    | exact Same.refl _
    | (apply Same.step (State.eachChanAt_same ..); decide)
    | (apply Same.step (State.onMode_same ..); decide)
    | (apply Same.step (State.firstCycle_same ..); decide)
    | refine Same.foldl (fun _ _ => ?_) ?_

theorem State.repairOtp_same (s : State) :
    Same 0x4000004 s (State.repairOtp s) := by
  unfold State.repairOtp
  extract_lets -merge x1 x2 x3
  refine Same.cut (w := 0x4000004) (s := s) (x := x1) (fun _ => ?_) ?_
  clear_value x1
  refine Same.cut (w := 0x4000004) (s := s) (x := x2) (fun _ => ?_) ?_
  clear_value x2
  all_goals
    repeat' with_reducible first
      | exact Same.refl _
      | assumption
      | unfold x1
      | unfold x2
      | (apply Same.step (State.onOtp_same ..) <;> first | decide | (intro o; exact repair_le ..) | show Same _ _ _)
      | (apply Same.step (State.onOtp_same ..) <;> first | decide | (intro o; exact Otp.burnSeeds_le ..) | show Same _ _ _)
      | (apply Same.step (State.onSec_same ..); decide)
      | refine Same.ite ?_ ?_

theorem State.checkEvidence_same (s : State) (repaired : List Nat) :
    Same 0x2800000 s (State.checkEvidence s repaired) := by
  unfold State.checkEvidence
  try dsimp only
  repeat' with_reducible first
    | exact Same.refl _
    | (apply Same.step (State.writeEvidence_same ..); decide)
    | (apply Same.step (State.evidenceEvent_same ..); decide)
    | refine Same.foldl (fun _ _ => ?_) ?_
    | refine Same.ite ?_ ?_

theorem State.lossBound_same (s : State) :
    Same 0x28 s (State.lossBound s) := by
  unfold State.lossBound
  try dsimp only
  repeat' with_reducible first
    | exact Same.refl _
    | (apply Same.step (State.onMode_same ..); decide)
    | (apply Same.step (State.onPower_same ..); decide)
    | refine Same.ite ?_ ?_

theorem State.resumedEvent_same (s : State) :
    Same 0x20 s (State.resumedEvent s) := by
  unfold State.resumedEvent
  try dsimp only
  repeat' with_reducible first
    | exact Same.refl _
    | (apply Same.step (State.onMode_same ..); decide)
    | refine Same.ite ?_ ?_

theorem State.commitPend_same (s : State) (m : Nat) :
    Same 0x3BD00A4 s (State.commitPend s m) := by
  unfold State.commitPend
  try dsimp only
  repeat' with_reducible first
    | exact Same.refl _
    | (apply Same.step (State.onPoint_same ..); decide)
    | (apply Same.step (State.applyIncrements_same ..); decide)
    | refine Same.ite ?_ ?_
    | split

theorem State.outageProfile_same (s : State) (m plan : Nat) (c : Commit) (es : List Entry) (stop : Int) :
    Same 0x2810000 s (State.outageProfile s m plan c es stop) := by
  unfold State.outageProfile
  try dsimp only
  repeat' with_reducible first
    | exact Same.refl _
    | (apply Same.step (State.closeProfile_same ..); decide)
    | (apply Same.step (State.onPoint_same ..); decide)
    | (apply Same.step (State.dailyCharge_same ..); decide)
    | refine Same.foldl (fun _ _ => ?_) ?_
    | refine Same.ite ?_ ?_

theorem State.outageSteps_same (s : State) (m : Nat) (c : Commit) (stop : Int) :
    Same 0x2910080 s (State.outageSteps s m c stop) := by
  unfold State.outageSteps
  try dsimp only
  repeat' with_reducible first
    | exact Same.refl _
    | (apply Same.step (State.outageProfile_same ..); decide)
    | (apply Same.step (State.outageDemand_same ..); decide)
    | (apply Same.step (State.entrySteps_same ..); decide)
    | (apply Same.step (State.onPoint_same ..); decide)
    | refine Same.foldl (fun _ _ => ?_) ?_
    | split

theorem State.outageCommit_same (s : State) (kept : Bool) (stop : Int) (es : List Entry) :
    Same 0x2910080 s (State.outageCommit s kept stop es) := by
  unfold State.outageCommit
  try dsimp only
  repeat' with_reducible first
    | exact Same.refl _
    | (apply Same.step (State.openCommit_same ..); decide)
    | (apply Same.step (State.outageSteps_same ..); decide)
    | (apply Same.step (State.finishCommit_same ..); decide)
    | refine Same.foldl (fun _ _ => ?_) ?_
    | refine Same.ite ?_ ?_
    | split

theorem State.catchOutage_same (s : State) :
    Same 0x2990080 s (State.catchOutage s) := by
  unfold State.catchOutage
  extract_lets -merge x1 x2 x3 x4 x5 x6 x7 x8 x9 x10
  refine Same.cut (w := 0x2990080) (s := s) (x := x8) (fun _ => ?_) ?_
  clear_value x8
  refine Same.cut (w := 0x2990080) (s := s) (x := x9) (fun _ => ?_) ?_
  clear_value x9
  refine Same.cut (w := 0x2990080) (s := s) (x := x10) (fun _ => ?_) ?_
  clear_value x10
  all_goals
    repeat' with_reducible first
      | exact Same.refl _
      | assumption
      | unfold x8
      | unfold x9
      | unfold x10
      | (apply Same.step (State.onTariff_same ..); decide)
      | (apply Same.step (State.markOutage_same ..); decide)
      | (apply Same.step (State.outageCommit_same ..); decide)
      | (apply Same.step (State.reinstant_same ..); decide)
      | refine Same.foldl (fun _ _ => ?_) ?_

theorem State.bootMicrocode_same (s : State) :
    Same 0x8000000 s (State.bootMicrocode s) := by
  unfold State.bootMicrocode
  try dsimp only
  repeat' with_reducible first
    | exact Same.refl _
    | (apply Same.step (State.onImages_same ..); decide)
    | refine Same.ite ?_ ?_

theorem State.bootRestore_same (s : State) :
    Same 0x1FFD00FC s (State.bootRestore s) := by
  unfold State.bootRestore
  extract_lets -merge x1 x2 x3 x4 x5 x6 x7 x8 x9
  refine Same.cut (w := 0x1FFD00FC) (s := s) (x := x2) (fun _ => ?_) ?_
  clear_value x2
  refine Same.cut (w := 0x1FFD00FC) (s := s) (x := x3) (fun _ => ?_) ?_
  clear_value x3
  refine Same.cut (w := 0x1FFD00FC) (s := s) (x := x4) (fun _ => ?_) ?_
  clear_value x4
  refine Same.cut (w := 0x1FFD00FC) (s := s) (x := x5) (fun _ => ?_) ?_
  clear_value x5
  refine Same.cut (w := 0x1FFD00FC) (s := s) (x := x6) (fun _ => ?_) ?_
  clear_value x6
  refine Same.cut (w := 0x1FFD00FC) (s := s) (x := x7) (fun _ => ?_) ?_
  clear_value x7
  refine Same.cut (w := 0x1FFD00FC) (s := s) (x := x8) (fun _ => ?_) ?_
  clear_value x8
  refine Same.cut (w := 0x1FFD00FC) (s := s) (x := x9) (fun _ => ?_) ?_
  clear_value x9
  all_goals
    repeat' with_reducible first
      | exact Same.refl _
      | assumption
      | unfold x2
      | unfold x3
      | unfold x4
      | unfold x5
      | unfold x6
      | unfold x7
      | unfold x8
      | unfold x9
      | (apply Same.step (State.repairOtp_same ..); decide)
      | (apply Same.step (State.onMode_same ..); decide)
      | (apply Same.step (State.checkEvidence_same ..); decide)
      | (apply Same.step (State.restoreStore_same ..); decide)
      | (apply Same.step (State.lossBound_same ..); decide)
      | (apply Same.step (State.resumedEvent_same ..); decide)
      | (apply Same.step (State.commitPend_same ..); decide)
      | (apply Same.step (State.outageWindows_same ..); decide)
      | (apply Same.step (State.catchOutage_same ..); decide)
      | (apply Same.step (State.referenceAfresh_same ..); decide)
      | (apply Same.step (State.resumeAlarms_same ..); decide)
      | (apply Same.step (State.bufferLost_same ..); decide)
      | (apply Same.step (State.evalRelays_same ..); decide)
      | (apply Same.step (State.onClock_same ..) <;> first | decide | exact fun _ => rfl | (intro _; split <;> rfl) | show Same _ _ _)
      | (apply Same.step (State.bootMicrocode_same ..); decide)
      | (apply Same.step (State.bootControlCore_same ..); decide)
      | refine Same.foldl (fun _ _ => ?_) ?_

theorem State.bootNext_same (s : State) :
    Same 0x3FFDFDFC s (State.bootNext s) := by
  unfold State.bootNext
  try dsimp only
  repeat' with_reducible first
    | exact Same.refl _
    | (apply Same.step (State.bootScan_same ..); decide)
    | (apply Same.step (State.bootConfigure_same ..); decide)
    | (apply Same.step (State.bootSample_same ..); decide)
    | (apply Same.step (State.bootRestore_same ..); decide)
    | split

theorem State.bootUpTo_same (s : State) (n : Nat) :
    Same 0x3FFDFDFC s (State.bootUpTo s n) := by
  unfold State.bootUpTo
  try dsimp only
  repeat' with_reducible first
    | exact Same.refl _
    | (apply Same.step (State.bootNext_same ..); decide)
    | refine Same.foldl (fun _ _ => ?_) ?_
    | refine Same.ite ?_ ?_

theorem State.resyncPorts_same (s : State) :
    Same 0x80 s (State.resyncPorts s) := by
  unfold State.resyncPorts
  try dsimp only
  repeat' with_reducible first
    | exact Same.refl _
    | (apply Same.step (State.onPort_same ..); decide)

theorem State.endBoot_same (s : State) :
    Same 0x1E8030A8 s (State.endBoot s) := by
  unfold State.endBoot
  extract_lets -merge x1 x2 x3 x4
  refine Same.cut (w := 0x1E8030A8) (s := s) (x := x2) (fun _ => ?_) ?_
  clear_value x2
  refine Same.cut (w := 0x1E8030A8) (s := s) (x := x3) (fun _ => ?_) ?_
  clear_value x3
  refine Same.cut (w := 0x1E8030A8) (s := s) (x := x4) (fun _ => ?_) ?_
  clear_value x4
  all_goals
    repeat' with_reducible first
      | exact Same.refl _
      | assumption
      | unfold x2
      | unfold x3
      | unfold x4
      | (apply Same.step (State.onMode_same ..); decide)
      | (apply Same.step (State.enterMode_same ..); decide)
      | (apply Same.step (State.onStore_same ..) <;> first | decide | exact fun _ => rfl | (intro _; split <;> rfl) | show Same _ _ _)
      | (apply Same.step (State.configWrite_same ..); decide)
      | (apply Same.step (State.onPower_same ..); decide)

theorem State.imagesReady_same (s : State) :
    Same 0x1E800004 s (State.imagesReady s) := by
  unfold State.imagesReady
  extract_lets -merge x1 x2 x3
  refine Same.cut (w := 0x1E800004) (s := s) (x := x2) (fun _ => ?_) ?_
  clear_value x2
  refine Same.cut (w := 0x1E800004) (s := s) (x := x3) (fun _ => ?_) ?_
  clear_value x3
  all_goals
    repeat' with_reducible first
      | exact Same.refl _
      | assumption
      | unfold x2
      | unfold x3
      | (apply Same.step (State.fwEvent_same ..); decide)
      | (apply Same.step (State.configWrite_same ..); decide)
      | (apply Same.step (State.onImages_same ..); decide)
      | (apply Same.step (State.advanceRollback_same ..); decide)
      | (apply Same.step (State.authFail_same ..); decide)
      | refine Same.foldl (fun _ _ => ?_) ?_
      | unfold x1
      | refine Same.ite ?_ ?_

theorem execControlPlaneReady_same (s : State) :
    SameO 0x3FFDFDFC s (execControlPlaneReady s) := by
  unfold execControlPlaneReady
  extract_lets -merge x1 x2 x3 x4 x5 x6 x7 x8 x9
  refine Same.cut (w := 0x3FFDFDFC) (s := s) (x := x1) (fun _ => ?_) ?_
  clear_value x1
  refine Same.cut (w := 0x3FFDFDFC) (s := s) (x := x3) (fun _ => ?_) ?_
  clear_value x3
  refine Same.cut (w := 0x3FFDFDFC) (s := s) (x := x5) (fun _ => ?_) ?_
  clear_value x5
  refine Same.cut (w := 0x3FFDFDFC) (s := s) (x := x6) (fun _ => ?_) ?_
  clear_value x6
  refine Same.cut (w := 0x3FFDFDFC) (s := s) (x := x7) (fun _ => ?_) ?_
  clear_value x7
  refine Same.cut (w := 0x3FFDFDFC) (s := s) (x := x8) (fun _ => ?_) ?_
  clear_value x8
  refine Same.cut (w := 0x3FFDFDFC) (s := s) (x := x9) (fun _ => ?_) ?_
  clear_value x9
  all_goals
    repeat' with_reducible first
      | exact Same.refl _
      | assumption
      | unfold x1
      | unfold x3
      | unfold x5
      | unfold x6
      | unfold x7
      | unfold x8
      | unfold x9
      | refine SameO.next ?_
      | (apply Same.step (State.bootUpTo_same ..); decide)
      | (apply Same.step (State.postOwed_same ..); decide)
      | (apply Same.step (State.resyncPorts_same ..); decide)
      | (apply Same.step (State.onCp_same ..); decide)
      | (apply Same.step (State.sendNotices_same ..); decide)
      | (apply Same.step (State.endBoot_same ..); decide)
      | (apply Same.step (State.beginRun_same ..); decide)
      | (apply Same.step (State.raise_same ..); decide)
      | (apply Same.step (State.imagesReady_same ..); decide)
      | unfold x2
      | unfold x4
      | refine Same.ite ?_ ?_

theorem execStartCondition_same (a : StartInput) (s : State) :
    SameO 0x3FFDFDFC s (execStartCondition a s) := by
  unfold execStartCondition
  try dsimp only
  repeat' with_reducible first
    | exact Same.refl _
    | refine SameO.next ?_
    | (apply Same.step (State.bootUpTo_same ..); decide)
    | (apply Same.step (State.bootPower_same ..); decide)
    | refine Same.ite ?_ ?_

theorem execVaonLoss_same (s : State) :
    SameO 0x1000038 s (execVaonLoss s) := by
  unfold execVaonLoss
  extract_lets -merge x1 x2 x3
  refine Same.cut (w := 0x1000038) (s := s) (x := x1) (fun _ => ?_) ?_
  clear_value x1
  refine Same.cut (w := 0x1000038) (s := s) (x := x2) (fun _ => ?_) ?_
  clear_value x2
  refine Same.cut (w := 0x1000038) (s := s) (x := x3) (fun _ => ?_) ?_
  clear_value x3
  all_goals
    repeat' with_reducible first
      | exact Same.refl _
      | assumption
      | unfold x1
      | unfold x2
      | unfold x3
      | refine SameO.next ?_
      | (apply Same.step (State.onPower_same ..); decide)
      | (apply Same.step (State.onMode_same ..); decide)
      | (apply Same.step (State.onClock_same ..) <;> first | decide | exact fun _ => rfl | (intro _; split <;> rfl) | show Same _ _ _)
      | (apply Same.step (State.onTamper_same ..); decide)
      | refine Same.ite ?_ ?_

end Sys2Proof.Machine
end

