-- ==== Sys2Proof/Laws/FramePins.lean ====
section
/-! SUPPORT. What each function of Pins can change: the mask of the parts, and never what `Same` forbids. -/
namespace Sys2Proof.Machine

theorem State.queueWord_same (s : State) (q place : Nat) :
    Same 0x10000000 s (State.queueWord s q place).2 := by
  unfold State.queueWord
  try dsimp only
  repeat' with_reducible first
    | exact Same.refl _
    | (apply Same.step (State.draw_same ..); decide)
    | split

theorem State.debugRead_same (s : State) (a : DebugOp) :
    Same 0x10000100 s (State.debugRead s a) := by
  unfold State.debugRead
  try dsimp only
  repeat' with_reducible first
    | exact Same.refl _
    | (apply Same.step (State.queueWord_same ..); decide)
    | (apply Same.step (State.onTap_same ..); decide)
    | (apply Same.step (State.draw_same ..); decide)
    | split

theorem State.tapSelect_same (s : State) (code : BitVec 8) :
    Same 0x100 s (State.tapSelect s code) := by
  unfold State.tapSelect
  try dsimp only
  repeat' with_reducible first
    | exact Same.refl _
    | (apply Same.step (State.onTap_same ..); decide)
    | refine Same.ite ?_ ?_
    | split

theorem execSamplePreload_same (pins preload : List Bool) (s : State) :
    SameO 0x100 s (execSamplePreload pins preload s) := by
  unfold execSamplePreload
  try dsimp only
  repeat' with_reducible first
    | exact Same.refl _
    | refine SameO.next ?_
    | (apply Same.step (State.onTap_same ..); decide)
    | (apply Same.step (State.tapSelect_same ..); decide)
    | refine Same.ite ?_ ?_

theorem execExtest_same (pins : List Bool) (s : State) :
    SameO 0x100 s (execExtest s pins) := by
  unfold execExtest
  try dsimp only
  repeat' with_reducible first
    | exact Same.refl _
    | refine SameO.next ?_
    | (apply Same.step (State.tapSelect_same ..); decide)
    | (apply Same.step (State.onTap_same ..); decide)
    | refine Same.ite ?_ ?_

theorem execTrstN_same (s : State) :
    SameO 0x160 s (execTrstN s) := by
  unfold execTrstN
  try dsimp only
  repeat' with_reducible first
    | exact Same.refl _
    | refine SameO.next ?_
    | (apply Same.step (State.onTap_same ..); decide)
    | (apply Same.step (State.closeDebug_same ..); decide)
    | refine Same.ite ?_ ?_

theorem execIdcode_same (s : State) :
    SameO 0x100 s (execIdcode s) := by
  unfold execIdcode
  try dsimp only
  repeat' with_reducible first
    | exact Same.refl _
    | refine SameO.next ?_
    | (apply Same.step (State.tapSelect_same ..); decide)

theorem State.inject_same (s : State) (q data : Nat) :
    Same 0x404000 s (State.inject s q data) := by
  unfold State.inject
  try dsimp only
  repeat' with_reducible first
    | exact Same.refl _
    | (apply Same.step (State.onQ8_same ..); decide)
    | (apply Same.step (State.onPq_same ..); decide)
    | refine Same.ite ?_ ?_
    | split

theorem State.debugWrite_same (s : State) (a : DebugOp) :
    Same 0x404040 s (State.debugWrite s a) := by
  unfold State.debugWrite
  try dsimp only
  repeat' with_reducible first
    | exact Same.refl _
    | (apply Same.step (State.onCp_same ..); decide)
    | (apply Same.step (State.inject_same ..); decide)
    | split

theorem execBypass_same (code : BitVec 8) (s : State) :
    SameO 0x100 s (execBypass code s) := by
  unfold execBypass
  try dsimp only
  repeat' with_reducible first
    | exact Same.refl _
    | refine SameO.next ?_
    | (apply Same.step (State.tapSelect_same ..); decide)
    | refine Same.ite ?_ ?_

theorem execClamp_same (s : State) :
    SameO 0x100 s (execClamp s) := by
  unfold execClamp
  try dsimp only
  repeat' with_reducible first
    | exact Same.refl _
    | refine SameO.next ?_
    | (apply Same.step (State.tapSelect_same ..); decide)

theorem execHighz_same (s : State) :
    SameO 0x100 s (execHighz s) := by
  unfold execHighz
  try dsimp only
  repeat' with_reducible first
    | exact Same.refl _
    | refine SameO.next ?_
    | (apply Same.step (State.tapSelect_same ..); decide)

theorem execDebug_same (op : DebugOp) (s : State) :
    SameO 0x10404140 s (execDebug s op) := by
  unfold execDebug
  extract_lets -merge x1 x2
  refine Same.cut (w := 0x10404140) (s := s) (x := x1) (fun _ => ?_) ?_
  clear_value x1
  refine Same.cut (w := 0x10404140) (s := s) (x := x2) (fun _ => ?_) ?_
  clear_value x2
  all_goals
    repeat' with_reducible first
      | exact Same.refl _
      | assumption
      | unfold x1
      | unfold x2
      | refine SameO.next ?_
      | (apply Same.step (State.tapSelect_same ..); decide)
      | (apply Same.step (State.debugRead_same ..); decide)
      | (apply Same.step (State.debugWrite_same ..); decide)
      | refine Same.ite ?_ ?_

end Sys2Proof.Machine
end

