-- ==== Sys2Proof/Laws/FramePorts.lean ====
section
/-! SUPPORT. What each function of Ports can change: the mask of the parts, and never what `Same` forbids. -/
namespace Sys2Proof.Machine

theorem State.sent_same (s : State) (p : Nat) :
    Same 0x80 s (State.sent s p) := by
  unfold State.sent
  try dsimp only
  repeat' with_reducible first
    | exact Same.refl _
    | (apply Same.step (State.applyRate_same ..); decide)
    | (apply Same.step (State.onPort_same ..); decide)
    | split

theorem State.readReply_same (s : State) (p n : Nat) :
    Same 0x80 s (State.readReply s p n) := by
  unfold State.readReply
  try dsimp only
  repeat' with_reducible first
    | exact Same.refl _
    | (apply Same.step (State.onPort_same ..); decide)
    | (apply Same.step (State.sent_same ..); decide)
    | refine Same.ite ?_ ?_
    | split

theorem State.framingError_same (s : State) (p : Nat) :
    Same 0x800080 s (State.framingError s p) := by
  unfold State.framingError
  try dsimp only
  repeat' with_reducible first
    | exact Same.refl _
    | (apply Same.step (State.raisePort_same ..); decide)
    | (apply Same.step (State.onPort_same ..); decide)

theorem State.unknownSpi_same (s : State) (p code : Nat) :
    Same 0x800080 s (State.unknownSpi s p code) := by
  unfold State.unknownSpi
  try dsimp only
  repeat' with_reducible first
    | exact Same.refl _
    | (apply Same.step (State.framingError_same ..); decide)
    | refine Same.ite ?_ ?_

theorem execReadPacketQ_same (port clocked : Nat) (s : State) :
    SameO 0x800080 s (execReadPacketQ port clocked s) := by
  unfold execReadPacketQ
  try dsimp only
  repeat' with_reducible first
    | exact Same.refl _
    | refine SameO.next ?_
    | (apply Same.step (State.readReply_same ..); decide)
    | (apply Same.step (State.unknownSpi_same ..); decide)
    | refine Same.ite ?_ ?_

theorem State.arrive_same (s : State) (p : Nat) (q : RawReq) :
    Same 0x800080 s (State.arrive s p q) := by
  unfold State.arrive
  try dsimp only
  repeat' with_reducible first
    | exact Same.refl _
    | (apply Same.step (State.raisePort_same ..); decide)
    | (apply Same.step (State.onPort_same ..); decide)
    | (apply Same.step (State.framingError_same ..); decide)
    | refine Same.ite ?_ ?_

theorem execReadPortStatus_same (port : Nat) (s : State) :
    SameO 0x80 s (execReadPortStatus port s) := by
  unfold execReadPortStatus
  try dsimp only
  repeat' with_reducible first
    | exact Same.refl _
    | refine SameO.next ?_
    | (apply Same.step (State.onPort_same ..); decide)
    | refine Same.ite ?_ ?_

theorem execReadPacket_same (port clocked : Nat) (s : State) :
    SameO 0x80 s (execReadPacket port clocked s) := by
  unfold execReadPacket
  try dsimp only
  repeat' with_reducible first
    | exact Same.refl _
    | refine SameO.next ?_
    | (apply Same.step (State.readReply_same ..); decide)
    | refine Same.ite ?_ ?_

theorem execSpiUnknownInstruction_same (port : Nat) (code : BitVec 8) (s : State) :
    SameO 0x800080 s (execSpiUnknownInstruction port s code) := by
  unfold execSpiUnknownInstruction
  try dsimp only
  repeat' with_reducible first
    | exact Same.refl _
    | refine SameO.next ?_
    | (apply Same.step (State.unknownSpi_same ..); decide)

theorem execAuxReplySent_same (s : State) :
    SameO 0x80 s (execAuxReplySent s) := by
  unfold execAuxReplySent
  try dsimp only
  repeat' with_reducible first
    | exact Same.refl _
    | refine SameO.next ?_
    | (apply Same.step (State.sent_same ..); decide)
    | (apply Same.step (State.onPort_same ..); decide)
    | split

end Sys2Proof.Machine
end

