-- ==== Sys2Proof/Laws/FrameJoros.lean ====
section
/-! SUPPORT. What each function of Joros can change: the mask of the parts, and never what `Same` forbids. -/
namespace Sys2Proof.Machine

theorem State.accepted_same (s : State) (op : Nat) (old : SealState) :
    Same 0x2000020 s (State.accepted s op old) := by
  unfold State.accepted
  try dsimp only
  repeat' with_reducible first
    | exact Same.refl _
    | (apply Same.step (State.writeSeal_same ..); decide)
    | (apply Same.step (State.onMode_same ..); decide)
    | refine Same.ite ?_ ?_

theorem commandOf_same {op : Nat} {f : State → Request → Except Deny State} (h : commandOf op = some f) (s : State) (r : Request) :
    SameE 0x1EFFBFFC s (f s r) := by
  unfold commandOf at h
  split at h
  · cases h; exact SameE.mono (w := 0x1EFFBFFC) (cmdGetIdentity_same _ _) (by decide)
  · cases h; exact SameE.mono (w := 0x1EFFBFFC) (cmdGetStatus_same _ _) (by decide)
  · cases h; exact SameE.mono (w := 0x1EFFBFFC) (cmdSetMode_same _ _) (by decide)
  · cases h; exact SameE.mono (w := 0x1EFFBFFC) (cmdResetCmd_same _ _) (by decide)
  · cases h; exact SameE.mono (w := 0x1EFFBFFC) (cmdReadNotify_same _ _) (by decide)
  · cases h; exact SameE.mono (w := 0x1EFFBFFC) (cmdAckEvents_same _ _) (by decide)
  · cases h; exact SameE.mono (w := 0x1EFFBFFC) (cmdSetEventMask_same _ _) (by decide)
  · cases h; exact SameE.mono (w := 0x1EFFBFFC) (cmdGetParam_same _ _) (by decide)
  · cases h; exact SameE.mono (w := 0x1EFFBFFC) (cmdSetParam_same _ _) (by decide)
  · cases h; exact SameE.mono (w := 0x1EFFBFFC) (cmdGetParamBlock_same _ _) (by decide)
  · cases h; exact SameE.mono (w := 0x1EFFBFFC) (cmdSetParamBlock_same _ _) (by decide)
  · cases h; exact SameE.mono (w := 0x1EFFBFFC) (cmdCommitParams_same _ _) (by decide)
  · cases h; exact SameE.mono (w := 0x1EFFBFFC) (cmdLoadFirBank_same _ _) (by decide)
  · cases h; exact SameE.mono (w := 0x1EFFBFFC) (cmdBindMp_same _ _) (by decide)
  · cases h; exact SameE.mono (w := 0x1EFFBFFC) (cmdUnbindMp_same _ _) (by decide)
  · cases h; exact SameE.mono (w := 0x1EFFBFFC) (cmdReadRegisters_same _ _) (by decide)
  · cases h; exact SameE.mono (w := 0x1EFFBFFC) (cmdReadInstant_same _ _) (by decide)
  · cases h; exact SameE.mono (w := 0x1EFFBFFC) (cmdSetBalanceGroup_same _ _) (by decide)
  · cases h; exact SameE.mono (w := 0x1EFFBFFC) (cmdPulseAssign_same _ _) (by decide)
  · cases h; exact SameE.mono (w := 0x1EFFBFFC) (cmdSetTime_same _ _) (by decide)
  · cases h; exact SameE.mono (w := 0x1EFFBFFC) (cmdAdjustTime_same _ _) (by decide)
  · cases h; exact SameE.mono (w := 0x1EFFBFFC) (cmdLoadPlan_same _ _) (by decide)
  · cases h; exact SameE.mono (w := 0x1EFFBFFC) (cmdReadBoundaries_same _ _) (by decide)
  · cases h; exact SameE.mono (w := 0x1EFFBFFC) (cmdBillingClose_same _ _) (by decide)
  · cases h; exact SameE.mono (w := 0x1EFFBFFC) (cmdDemandReset_same _ _) (by decide)
  · cases h; exact SameE.mono (w := 0x1EFFBFFC) (cmdSubmitToken_same _ _) (by decide)
  · cases h; exact SameE.mono (w := 0x1EFFBFFC) (cmdReadCredit_same _ _) (by decide)
  · cases h; exact SameE.mono (w := 0x1EFFBFFC) (cmdRelayCommand_same _ _) (by decide)
  · cases h; exact SameE.mono (w := 0x1EFFBFFC) (cmdReconnectArm_same _ _) (by decide)
  · cases h; exact SameE.mono (w := 0x1EFFBFFC) (cmdSetCreditPolicy_same _ _) (by decide)
  · cases h; exact SameE.mono (w := 0x1EFFBFFC) (cmdReadProfile_same _ _) (by decide)
  · cases h; exact SameE.mono (w := 0x1EFFBFFC) (cmdReadSnapshot_same _ _) (by decide)
  · cases h; exact SameE.mono (w := 0x1EFFBFFC) (cmdReadEvents_same _ _) (by decide)
  · cases h; exact SameE.mono (w := 0x1EFFBFFC) (cmdFreezeLog_same _ _) (by decide)
  · cases h; exact SameE.mono (w := 0x1EFFBFFC) (cmdUnfreezeLog_same _ _) (by decide)
  · cases h; exact SameE.mono (w := 0x1EFFBFFC) (cmdStoreStatus_same _ _) (by decide)
  · cases h; exact SameE.mono (w := 0x1EFFBFFC) (cmdScrubNow_same _ _) (by decide)
  · cases h; exact SameE.mono (w := 0x1EFFBFFC) (cmdCheckpointNow_same _ _) (by decide)
  · cases h; exact SameE.mono (w := 0x1EFFBFFC) (cmdHostArea_same _ _) (by decide)
  · cases h; exact SameE.mono (w := 0x1EFFBFFC) (cmdReadPq_same _ _) (by decide)
  · cases h; exact SameE.mono (w := 0x1EFFBFFC) (cmdReadHarmonics_same _ _) (by decide)
  · cases h; exact SameE.mono (w := 0x1EFFBFFC) (cmdArmCapture_same _ _) (by decide)
  · cases h; exact SameE.mono (w := 0x1EFFBFFC) (cmdReadCapture_same _ _) (by decide)
  · cases h; exact SameE.mono (w := 0x1EFFBFFC) (cmdCalWrite_same _ _) (by decide)
  · cases h; exact SameE.mono (w := 0x1EFFBFFC) (cmdCalMeasure_same _ _) (by decide)
  · cases h; exact SameE.mono (w := 0x1EFFBFFC) (cmdSpotCheck_same _ _) (by decide)
  · cases h; exact SameE.mono (w := 0x1EFFBFFC) (cmdSeal_same _ _) (by decide)
  · cases h; exact SameE.mono (w := 0x1EFFBFFC) (cmdAttest_same _ _) (by decide)
  · cases h; exact SameE.mono (w := 0x1EFFBFFC) (cmdSignReading_same _ _) (by decide)
  · cases h; exact SameE.mono (w := 0x1EFFBFFC) (cmdLoadKeys_same _ _) (by decide)
  · cases h; exact SameE.mono (w := 0x1EFFBFFC) (cmdGetCerts_same _ _) (by decide)
  · cases h; exact SameE.mono (w := 0x1EFFBFFC) (cmdDebugAuth_same _ _) (by decide)
  · cases h; exact SameE.mono (w := 0x1EFFBFFC) (cmdZeroise_same _ _) (by decide)
  · cases h; exact SameE.mono (w := 0x1EFFBFFC) (cmdImageBegin_same _ _) (by decide)
  · cases h; exact SameE.mono (w := 0x1EFFBFFC) (cmdImageData_same _ _) (by decide)
  · cases h; exact SameE.mono (w := 0x1EFFBFFC) (cmdImageEnd_same _ _) (by decide)
  · cases h; exact SameE.mono (w := 0x1EFFBFFC) (cmdImageActivate_same _ _) (by decide)
  · cases h; exact SameE.mono (w := 0x1EFFBFFC) (cmdUcodeActivate_same _ _) (by decide)
  · cases h; exact SameE.mono (w := 0x1EFFBFFC) (cmdRemapChannel_same _ _) (by decide)
  · cases h; exact SameE.mono (w := 0x1EFFBFFC) (cmdRetireIsland_same _ _) (by decide)
  · cases h; exact SameE.mono (w := 0x1EFFBFFC) (cmdRestoreIsland_same _ _) (by decide)
  · cases h; exact SameE.mono (w := 0x1EFFBFFC) (cmdLaneTest_same _ _) (by decide)
  · cases h; exact SameE.mono (w := 0x1EFFBFFC) (cmdHoldupTest_same _ _) (by decide)
  · cases h; exact SameE.mono (w := 0x1EFFBFFC) (cmdPollHandle_same _ _) (by decide)
  · cases h; exact SameE.mono (w := 0x1EFFBFFC) (cmdCancelHandle_same _ _) (by decide)
  · cases h; exact SameE.mono (w := 0x1EFFBFFC) (cmdReadCompletions_same _ _) (by decide)
  · cases h

theorem State.execute_same (s : State) (op : Nat) (headerOk : Bool) (r : Request) :
    Same 0x1EFFBFFC s (State.execute s op headerOk r) := by
  unfold State.execute
  split
  · exact (State.refuse_same ..).mono (by decide)
  · next f q =>
    refine Same.ite ((State.refuse_same ..).mono (by decide)) ?_
    exact State.answer_same (by decide)
      (SameE.map (commandOf_same q s r) (fun y => State.accepted_same y op s.security.sealSt) (by decide))

theorem State.runRaw_same (s : State) (p : Nat) (q : RawReq) :
    Same 0x1EFFBFFC s (State.runRaw s p q) := by
  unfold State.runRaw
  try dsimp only
  repeat' with_reducible first
    | exact Same.refl _
    | (apply Same.step (State.reply_same ..); decide)
    | (apply Same.step (State.execute_same ..); decide)
    | refine Same.ite ?_ ?_
    | split

theorem State.drainRx_same (p : Nat) (s : State) (l : List RawReq) :
    Same 0x1EFFBFFC s (State.drainRx p l s) := by
  induction l generalizing s with
  | nil =>
    unfold State.drainRx
    try dsimp only
    repeat' with_reducible first
      | exact Same.refl _
  | cons x r ih =>
    unfold State.drainRx
    try dsimp only
    repeat' with_reducible first
      | exact Same.refl _
      | (apply Same.step (State.runRaw_same ..); decide)
      | (apply Same.step (State.onPort_same ..); decide)
      | (apply Same.step (ih ..); decide)
      | refine Same.ite ?_ ?_
      | split

theorem State.drainPort_same (s : State) (p : Nat) :
    Same 0x1EFFBFFC s (State.drainPort s p) := by
  unfold State.drainPort
  try dsimp only
  repeat' with_reducible first
    | exact Same.refl _
    | (apply Same.step (State.drainRx_same ..); decide)
    | refine Same.ite ?_ ?_

theorem State.submit_same (s : State) (op : Nat) (r : Request) :
    Same 0x1EFFBFFC s (State.submit s op r) := by
  unfold State.submit
  try dsimp only
  repeat' with_reducible first
    | exact Same.refl _
    | (apply Same.step (State.execute_same ..); decide)
    | (apply Same.step (State.drainPort_same ..); decide)
    | (apply Same.step (State.onPort_same ..); decide)
    | refine Same.ite ?_ ?_

theorem execCalWrite_same (r : Request) (s : State) :
    SameO 0x1EFFBFFC s (execCalWrite r s) := by
  unfold execCalWrite
  try dsimp only
  repeat' with_reducible first
    | exact Same.refl _
    | refine SameO.next ?_
    | (apply Same.step (State.submit_same ..); decide)

theorem execDemandReset_same (r : Request) (s : State) :
    SameO 0x1EFFBFFC s (execDemandReset r s) := by
  unfold execDemandReset
  try dsimp only
  repeat' with_reducible first
    | exact Same.refl _
    | refine SameO.next ?_
    | (apply Same.step (State.submit_same ..); decide)

theorem execAckEvents_same (r : Request) (s : State) :
    SameO 0x1EFFBFFC s (execAckEvents r s) := by
  unfold execAckEvents
  try dsimp only
  repeat' with_reducible first
    | exact Same.refl _
    | refine SameO.next ?_
    | (apply Same.step (State.submit_same ..); decide)

theorem execLoadFirBank_same (r : Request) (s : State) :
    SameO 0x1EFFBFFC s (execLoadFirBank r s) := by
  unfold execLoadFirBank
  try dsimp only
  repeat' with_reducible first
    | exact Same.refl _
    | refine SameO.next ?_
    | (apply Same.step (State.submit_same ..); decide)

theorem execCalMeasure_same (r : Request) (s : State) :
    SameO 0x1EFFBFFC s (execCalMeasure r s) := by
  unfold execCalMeasure
  try dsimp only
  repeat' with_reducible first
    | exact Same.refl _
    | refine SameO.next ?_
    | (apply Same.step (State.submit_same ..); decide)

theorem execReadCapture_same (r : Request) (s : State) :
    SameO 0x1EFFBFFC s (execReadCapture r s) := by
  unfold execReadCapture
  try dsimp only
  repeat' with_reducible first
    | exact Same.refl _
    | refine SameO.next ?_
    | (apply Same.step (State.submit_same ..); decide)

theorem execGetParamBlock_same (r : Request) (s : State) :
    SameO 0x1EFFBFFC s (execGetParamBlock r s) := by
  unfold execGetParamBlock
  try dsimp only
  repeat' with_reducible first
    | exact Same.refl _
    | refine SameO.next ?_
    | (apply Same.step (State.submit_same ..); decide)

theorem State.writeSpi_same (s : State) (p : Nat) (bytes : List Byte) :
    Same 0x1EFFBFFC s (State.writeSpi s p bytes) := by
  unfold State.writeSpi
  try dsimp only
  repeat' with_reducible first
    | exact Same.refl _
    | (apply Same.step (State.drainPort_same ..); decide)
    | (apply Same.step (State.arrive_same ..); decide)
    | refine Same.ite ?_ ?_

theorem State.mailboxCapture_same (s : State) :
    Same 0x100 s (State.mailboxCapture s) := by
  unfold State.mailboxCapture
  try dsimp only
  repeat' with_reducible first
    | exact Same.refl _
    | (apply Same.step (State.onTap_same ..); decide)
    | split

theorem State.mailboxUpdate_same (s : State) (reg : BitVec 10) :
    Same 0x1EFFBFFC s (State.mailboxUpdate s reg) := by
  unfold State.mailboxUpdate
  try dsimp only
  repeat' with_reducible first
    | exact Same.refl _
    | (apply Same.step (State.onTap_same ..); decide)
    | (apply Same.step (State.runRaw_same ..); decide)
    | refine Same.ite ?_ ?_

theorem execJorosMailbox_same (capture : Bool) (reg : BitVec 10) (s : State) :
    SameO 0x1EFFBFFC s (execJorosMailbox capture reg s) := by
  unfold execJorosMailbox
  try dsimp only
  repeat' with_reducible first
    | exact Same.refl _
    | refine SameO.next ?_
    | (apply Same.step (State.tapSelect_same ..); decide)
    | (apply Same.step (State.mailboxCapture_same ..); decide)
    | (apply Same.step (State.mailboxUpdate_same ..); decide)
    | refine Same.ite ?_ ?_

theorem execSeal_same (r : Request) (s : State) :
    SameO 0x1EFFBFFC s (execSeal r s) := by
  unfold execSeal
  try dsimp only
  repeat' with_reducible first
    | exact Same.refl _
    | refine SameO.next ?_
    | (apply Same.step (State.submit_same ..); decide)

theorem State.drain_same (s : State) :
    Same 0x1EFFBFFC s (State.drain s) := by
  unfold State.drain
  try dsimp only
  repeat' with_reducible first
    | exact Same.refl _
    | (apply Same.step (State.drainPort_same ..); decide)

theorem execRoundBoundary_same (a : RoundInput) (s : State) :
    SameO 0x3FFFFFFC s (execRoundBoundary a s) := by
  unfold execRoundBoundary
  try dsimp only
  repeat' with_reducible first
    | exact Same.refl _
    | refine SameO.next ?_
    | (apply Same.step (State.drain_same ..); decide)
    | (apply Same.step (State.nextBoundary_same ..); decide)

theorem execRestoreIsland_same (r : Request) (s : State) :
    SameO 0x1EFFBFFC s (execRestoreIsland r s) := by
  unfold execRestoreIsland
  try dsimp only
  repeat' with_reducible first
    | exact Same.refl _
    | refine SameO.next ?_
    | (apply Same.step (State.submit_same ..); decide)

theorem execLoadKeys_same (r : Request) (s : State) :
    SameO 0x1EFFBFFC s (execLoadKeys r s) := by
  unfold execLoadKeys
  try dsimp only
  repeat' with_reducible first
    | exact Same.refl _
    | refine SameO.next ?_
    | (apply Same.step (State.submit_same ..); decide)

theorem execReadCompletions_same (r : Request) (s : State) :
    SameO 0x1EFFBFFC s (execReadCompletions r s) := by
  unfold execReadCompletions
  try dsimp only
  repeat' with_reducible first
    | exact Same.refl _
    | refine SameO.next ?_
    | (apply Same.step (State.submit_same ..); decide)

theorem execHostArea_same (r : Request) (s : State) :
    SameO 0x1EFFBFFC s (execHostArea r s) := by
  unfold execHostArea
  try dsimp only
  repeat' with_reducible first
    | exact Same.refl _
    | refine SameO.next ?_
    | (apply Same.step (State.submit_same ..); decide)

theorem execSetTime_same (r : Request) (s : State) :
    SameO 0x1EFFBFFC s (execSetTime r s) := by
  unfold execSetTime
  try dsimp only
  repeat' with_reducible first
    | exact Same.refl _
    | refine SameO.next ?_
    | (apply Same.step (State.submit_same ..); decide)

theorem execResetCmd_same (r : Request) (s : State) :
    SameO 0x1EFFBFFC s (execResetCmd r s) := by
  unfold execResetCmd
  try dsimp only
  repeat' with_reducible first
    | exact Same.refl _
    | refine SameO.next ?_
    | (apply Same.step (State.submit_same ..); decide)

theorem execRelayCommand_same (r : Request) (s : State) :
    SameO 0x1EFFBFFC s (execRelayCommand r s) := by
  unfold execRelayCommand
  try dsimp only
  repeat' with_reducible first
    | exact Same.refl _
    | refine SameO.next ?_
    | (apply Same.step (State.submit_same ..); decide)

theorem execSetBalanceGroup_same (r : Request) (s : State) :
    SameO 0x1EFFBFFC s (execSetBalanceGroup r s) := by
  unfold execSetBalanceGroup
  try dsimp only
  repeat' with_reducible first
    | exact Same.refl _
    | refine SameO.next ?_
    | (apply Same.step (State.submit_same ..); decide)

theorem execReadPq_same (r : Request) (s : State) :
    SameO 0x1EFFBFFC s (execReadPq r s) := by
  unfold execReadPq
  try dsimp only
  repeat' with_reducible first
    | exact Same.refl _
    | refine SameO.next ?_
    | (apply Same.step (State.submit_same ..); decide)

theorem execCommitParams_same (r : Request) (s : State) :
    SameO 0x1EFFBFFC s (execCommitParams r s) := by
  unfold execCommitParams
  try dsimp only
  repeat' with_reducible first
    | exact Same.refl _
    | refine SameO.next ?_
    | (apply Same.step (State.submit_same ..); decide)

theorem execImageActivate_same (r : Request) (s : State) :
    SameO 0x1EFFBFFC s (execImageActivate r s) := by
  unfold execImageActivate
  try dsimp only
  repeat' with_reducible first
    | exact Same.refl _
    | refine SameO.next ?_
    | (apply Same.step (State.submit_same ..); decide)

theorem execLaneTest_same (r : Request) (s : State) :
    SameO 0x1EFFBFFC s (execLaneTest r s) := by
  unfold execLaneTest
  try dsimp only
  repeat' with_reducible first
    | exact Same.refl _
    | refine SameO.next ?_
    | (apply Same.step (State.submit_same ..); decide)

theorem execWritePacketQ_same (port : Nat) (bytes : List Byte) (s : State) :
    SameO 0x1EFFBFFC s (execWritePacketQ port bytes s) := by
  unfold execWritePacketQ
  try dsimp only
  repeat' with_reducible first
    | exact Same.refl _
    | refine SameO.next ?_
    | (apply Same.step (State.writeSpi_same ..); decide)
    | (apply Same.step (State.unknownSpi_same ..); decide)
    | refine Same.ite ?_ ?_

theorem execArmCapture_same (r : Request) (s : State) :
    SameO 0x1EFFBFFC s (execArmCapture r s) := by
  unfold execArmCapture
  try dsimp only
  repeat' with_reducible first
    | exact Same.refl _
    | refine SameO.next ?_
    | (apply Same.step (State.submit_same ..); decide)

theorem execCancelHandle_same (r : Request) (s : State) :
    SameO 0x1EFFBFFC s (execCancelHandle r s) := by
  unfold execCancelHandle
  try dsimp only
  repeat' with_reducible first
    | exact Same.refl _
    | refine SameO.next ?_
    | (apply Same.step (State.submit_same ..); decide)

theorem execZeroise_same (r : Request) (s : State) :
    SameO 0x1EFFBFFC s (execZeroise r s) := by
  unfold execZeroise
  try dsimp only
  repeat' with_reducible first
    | exact Same.refl _
    | refine SameO.next ?_
    | (apply Same.step (State.submit_same ..); decide)

theorem execStoreStatus_same (r : Request) (s : State) :
    SameO 0x1EFFBFFC s (execStoreStatus r s) := by
  unfold execStoreStatus
  try dsimp only
  repeat' with_reducible first
    | exact Same.refl _
    | refine SameO.next ?_
    | (apply Same.step (State.submit_same ..); decide)

theorem execAttest_same (r : Request) (s : State) :
    SameO 0x1EFFBFFC s (execAttest r s) := by
  unfold execAttest
  try dsimp only
  repeat' with_reducible first
    | exact Same.refl _
    | refine SameO.next ?_
    | (apply Same.step (State.submit_same ..); decide)

theorem execSubmitToken_same (r : Request) (s : State) :
    SameO 0x1EFFBFFC s (execSubmitToken r s) := by
  unfold execSubmitToken
  try dsimp only
  repeat' with_reducible first
    | exact Same.refl _
    | refine SameO.next ?_
    | (apply Same.step (State.submit_same ..); decide)

theorem execReconnectArm_same (r : Request) (s : State) :
    SameO 0x1EFFBFFC s (execReconnectArm r s) := by
  unfold execReconnectArm
  try dsimp only
  repeat' with_reducible first
    | exact Same.refl _
    | refine SameO.next ?_
    | (apply Same.step (State.submit_same ..); decide)

theorem execReadRegisters_same (r : Request) (s : State) :
    SameO 0x1EFFBFFC s (execReadRegisters r s) := by
  unfold execReadRegisters
  try dsimp only
  repeat' with_reducible first
    | exact Same.refl _
    | refine SameO.next ?_
    | (apply Same.step (State.submit_same ..); decide)

theorem execAuxBreak_same (ms : Nat) (s : State) :
    SameO 0x1EFFBFFC s (execAuxBreak ms s) := by
  unfold execAuxBreak
  extract_lets -merge x1 x2
  refine Same.cut (w := 0x1EFFBFFC) (s := s) (x := x1) (fun _ => ?_) ?_
  clear_value x1
  refine Same.cut (w := 0x1EFFBFFC) (s := s) (x := x2) (fun _ => ?_) ?_
  clear_value x2
  all_goals
    repeat' with_reducible first
      | exact Same.refl _
      | assumption
      | unfold x1
      | unfold x2
      | refine SameO.next ?_
      | (apply Same.step (State.onPort_same ..); decide)
      | (apply Same.step (State.configWrite_same ..); decide)
      | (apply Same.step (State.setPar_same ..); decide)
      | (apply Same.step (State.drainPort_same ..); decide)
      | refine Same.ite ?_ ?_

theorem execPollHandle_same (r : Request) (s : State) :
    SameO 0x1EFFBFFC s (execPollHandle r s) := by
  unfold execPollHandle
  try dsimp only
  repeat' with_reducible first
    | exact Same.refl _
    | refine SameO.next ?_
    | (apply Same.step (State.submit_same ..); decide)

theorem execSetParamBlock_same (r : Request) (s : State) :
    SameO 0x1EFFBFFC s (execSetParamBlock r s) := by
  unfold execSetParamBlock
  try dsimp only
  repeat' with_reducible first
    | exact Same.refl _
    | refine SameO.next ?_
    | (apply Same.step (State.submit_same ..); decide)

theorem execHoldupTest_same (r : Request) (s : State) :
    SameO 0x1EFFBFFC s (execHoldupTest r s) := by
  unfold execHoldupTest
  try dsimp only
  repeat' with_reducible first
    | exact Same.refl _
    | refine SameO.next ?_
    | (apply Same.step (State.submit_same ..); decide)

theorem execCheckpointNow_same (r : Request) (s : State) :
    SameO 0x1EFFBFFC s (execCheckpointNow r s) := by
  unfold execCheckpointNow
  try dsimp only
  repeat' with_reducible first
    | exact Same.refl _
    | refine SameO.next ?_
    | (apply Same.step (State.submit_same ..); decide)

theorem execScrubNow_same (r : Request) (s : State) :
    SameO 0x1EFFBFFC s (execScrubNow r s) := by
  unfold execScrubNow
  try dsimp only
  repeat' with_reducible first
    | exact Same.refl _
    | refine SameO.next ?_
    | (apply Same.step (State.submit_same ..); decide)

theorem execImageEnd_same (r : Request) (s : State) :
    SameO 0x1EFFBFFC s (execImageEnd r s) := by
  unfold execImageEnd
  try dsimp only
  repeat' with_reducible first
    | exact Same.refl _
    | refine SameO.next ?_
    | (apply Same.step (State.submit_same ..); decide)

theorem execReadSnapshot_same (r : Request) (s : State) :
    SameO 0x1EFFBFFC s (execReadSnapshot r s) := by
  unfold execReadSnapshot
  try dsimp only
  repeat' with_reducible first
    | exact Same.refl _
    | refine SameO.next ?_
    | (apply Same.step (State.submit_same ..); decide)

theorem execGetIdentity_same (r : Request) (s : State) :
    SameO 0x1EFFBFFC s (execGetIdentity r s) := by
  unfold execGetIdentity
  try dsimp only
  repeat' with_reducible first
    | exact Same.refl _
    | refine SameO.next ?_
    | (apply Same.step (State.submit_same ..); decide)

theorem execWriterEnergyRecheck_same (vhold : Nat) (s : State) :
    SameO 0x1EFFBFFC s (execWriterEnergyRecheck vhold s) := by
  unfold execWriterEnergyRecheck
  try dsimp only
  repeat' with_reducible first
    | exact Same.refl _
    | refine SameO.next ?_
    | (apply Same.step (State.drain_same ..); decide)
    | (apply Same.step (State.writerRecheck_same ..); decide)

theorem execImageData_same (r : Request) (s : State) :
    SameO 0x1EFFBFFC s (execImageData r s) := by
  unfold execImageData
  try dsimp only
  repeat' with_reducible first
    | exact Same.refl _
    | refine SameO.next ?_
    | (apply Same.step (State.submit_same ..); decide)

theorem execUnfreezeLog_same (r : Request) (s : State) :
    SameO 0x1EFFBFFC s (execUnfreezeLog r s) := by
  unfold execUnfreezeLog
  try dsimp only
  repeat' with_reducible first
    | exact Same.refl _
    | refine SameO.next ?_
    | (apply Same.step (State.submit_same ..); decide)

theorem execLoadPlan_same (r : Request) (s : State) :
    SameO 0x1EFFBFFC s (execLoadPlan r s) := by
  unfold execLoadPlan
  try dsimp only
  repeat' with_reducible first
    | exact Same.refl _
    | refine SameO.next ?_
    | (apply Same.step (State.submit_same ..); decide)

theorem execRemapChannel_same (r : Request) (s : State) :
    SameO 0x1EFFBFFC s (execRemapChannel r s) := by
  unfold execRemapChannel
  try dsimp only
  repeat' with_reducible first
    | exact Same.refl _
    | refine SameO.next ?_
    | (apply Same.step (State.submit_same ..); decide)

theorem execStoreJobConfirm_same (vhold : Nat) (s : State) :
    SameO 0x1EFFBFFC s (execStoreJobConfirm vhold s) := by
  unfold execStoreJobConfirm
  try dsimp only
  repeat' with_reducible first
    | exact Same.refl _
    | refine SameO.next ?_
    | (apply Same.step (State.drain_same ..); decide)
    | (apply Same.step (State.storeJobConfirm_same ..); decide)

theorem execGetCerts_same (r : Request) (s : State) :
    SameO 0x1EFFBFFC s (execGetCerts r s) := by
  unfold execGetCerts
  try dsimp only
  repeat' with_reducible first
    | exact Same.refl _
    | refine SameO.next ?_
    | (apply Same.step (State.submit_same ..); decide)

theorem execAdjustTime_same (r : Request) (s : State) :
    SameO 0x1EFFBFFC s (execAdjustTime r s) := by
  unfold execAdjustTime
  try dsimp only
  repeat' with_reducible first
    | exact Same.refl _
    | refine SameO.next ?_
    | (apply Same.step (State.submit_same ..); decide)

theorem execReadProfile_same (r : Request) (s : State) :
    SameO 0x1EFFBFFC s (execReadProfile r s) := by
  unfold execReadProfile
  try dsimp only
  repeat' with_reducible first
    | exact Same.refl _
    | refine SameO.next ?_
    | (apply Same.step (State.submit_same ..); decide)

theorem execReadBoundaries_same (r : Request) (s : State) :
    SameO 0x1EFFBFFC s (execReadBoundaries r s) := by
  unfold execReadBoundaries
  try dsimp only
  repeat' with_reducible first
    | exact Same.refl _
    | refine SameO.next ?_
    | (apply Same.step (State.submit_same ..); decide)

theorem execAuxFrame_same (chars : List Byte) (low : List Bool) (s : State) :
    SameO 0x1EFFBFFC s (execAuxFrame chars low s) := by
  unfold execAuxFrame
  try dsimp only
  repeat' with_reducible first
    | exact Same.refl _
    | refine SameO.next ?_
    | (apply Same.step (State.drainPort_same ..); decide)
    | (apply Same.step (State.arrive_same ..); decide)
    | refine Same.ite ?_ ?_

theorem execSignReading_same (r : Request) (s : State) :
    SameO 0x1EFFBFFC s (execSignReading r s) := by
  unfold execSignReading
  try dsimp only
  repeat' with_reducible first
    | exact Same.refl _
    | refine SameO.next ?_
    | (apply Same.step (State.submit_same ..); decide)

theorem execReadEvents_same (r : Request) (s : State) :
    SameO 0x1EFFBFFC s (execReadEvents r s) := by
  unfold execReadEvents
  try dsimp only
  repeat' with_reducible first
    | exact Same.refl _
    | refine SameO.next ?_
    | (apply Same.step (State.submit_same ..); decide)

theorem execReadNotify_same (r : Request) (s : State) :
    SameO 0x1EFFBFFC s (execReadNotify r s) := by
  unfold execReadNotify
  try dsimp only
  repeat' with_reducible first
    | exact Same.refl _
    | refine SameO.next ?_
    | (apply Same.step (State.submit_same ..); decide)

theorem execGetStatus_same (r : Request) (s : State) :
    SameO 0x1EFFBFFC s (execGetStatus r s) := by
  unfold execGetStatus
  try dsimp only
  repeat' with_reducible first
    | exact Same.refl _
    | refine SameO.next ?_
    | (apply Same.step (State.submit_same ..); decide)

theorem execSetMode_same (r : Request) (s : State) :
    SameO 0x1EFFBFFC s (execSetMode r s) := by
  unfold execSetMode
  try dsimp only
  repeat' with_reducible first
    | exact Same.refl _
    | refine SameO.next ?_
    | (apply Same.step (State.submit_same ..); decide)

theorem execSetEventMask_same (r : Request) (s : State) :
    SameO 0x1EFFBFFC s (execSetEventMask r s) := by
  unfold execSetEventMask
  try dsimp only
  repeat' with_reducible first
    | exact Same.refl _
    | refine SameO.next ?_
    | (apply Same.step (State.submit_same ..); decide)

theorem execGetParam_same (r : Request) (s : State) :
    SameO 0x1EFFBFFC s (execGetParam r s) := by
  unfold execGetParam
  try dsimp only
  repeat' with_reducible first
    | exact Same.refl _
    | refine SameO.next ?_
    | (apply Same.step (State.submit_same ..); decide)

theorem execSetParam_same (r : Request) (s : State) :
    SameO 0x1EFFBFFC s (execSetParam r s) := by
  unfold execSetParam
  try dsimp only
  repeat' with_reducible first
    | exact Same.refl _
    | refine SameO.next ?_
    | (apply Same.step (State.submit_same ..); decide)

theorem execBindMp_same (r : Request) (s : State) :
    SameO 0x1EFFBFFC s (execBindMp r s) := by
  unfold execBindMp
  try dsimp only
  repeat' with_reducible first
    | exact Same.refl _
    | refine SameO.next ?_
    | (apply Same.step (State.submit_same ..); decide)

theorem execUnbindMp_same (r : Request) (s : State) :
    SameO 0x1EFFBFFC s (execUnbindMp r s) := by
  unfold execUnbindMp
  try dsimp only
  repeat' with_reducible first
    | exact Same.refl _
    | refine SameO.next ?_
    | (apply Same.step (State.submit_same ..); decide)

theorem execReadInstant_same (r : Request) (s : State) :
    SameO 0x1EFFBFFC s (execReadInstant r s) := by
  unfold execReadInstant
  try dsimp only
  repeat' with_reducible first
    | exact Same.refl _
    | refine SameO.next ?_
    | (apply Same.step (State.submit_same ..); decide)

theorem execPulseAssign_same (r : Request) (s : State) :
    SameO 0x1EFFBFFC s (execPulseAssign r s) := by
  unfold execPulseAssign
  try dsimp only
  repeat' with_reducible first
    | exact Same.refl _
    | refine SameO.next ?_
    | (apply Same.step (State.submit_same ..); decide)

theorem execBillingClose_same (r : Request) (s : State) :
    SameO 0x1EFFBFFC s (execBillingClose r s) := by
  unfold execBillingClose
  try dsimp only
  repeat' with_reducible first
    | exact Same.refl _
    | refine SameO.next ?_
    | (apply Same.step (State.submit_same ..); decide)

theorem execReadCredit_same (r : Request) (s : State) :
    SameO 0x1EFFBFFC s (execReadCredit r s) := by
  unfold execReadCredit
  try dsimp only
  repeat' with_reducible first
    | exact Same.refl _
    | refine SameO.next ?_
    | (apply Same.step (State.submit_same ..); decide)

theorem execSetCreditPolicy_same (r : Request) (s : State) :
    SameO 0x1EFFBFFC s (execSetCreditPolicy r s) := by
  unfold execSetCreditPolicy
  try dsimp only
  repeat' with_reducible first
    | exact Same.refl _
    | refine SameO.next ?_
    | (apply Same.step (State.submit_same ..); decide)

theorem execFreezeLog_same (r : Request) (s : State) :
    SameO 0x1EFFBFFC s (execFreezeLog r s) := by
  unfold execFreezeLog
  try dsimp only
  repeat' with_reducible first
    | exact Same.refl _
    | refine SameO.next ?_
    | (apply Same.step (State.submit_same ..); decide)

theorem execReadHarmonics_same (r : Request) (s : State) :
    SameO 0x1EFFBFFC s (execReadHarmonics r s) := by
  unfold execReadHarmonics
  try dsimp only
  repeat' with_reducible first
    | exact Same.refl _
    | refine SameO.next ?_
    | (apply Same.step (State.submit_same ..); decide)

theorem execSpotCheck_same (r : Request) (s : State) :
    SameO 0x1EFFBFFC s (execSpotCheck r s) := by
  unfold execSpotCheck
  try dsimp only
  repeat' with_reducible first
    | exact Same.refl _
    | refine SameO.next ?_
    | (apply Same.step (State.submit_same ..); decide)

theorem execDebugAuth_same (r : Request) (s : State) :
    SameO 0x1EFFBFFC s (execDebugAuth r s) := by
  unfold execDebugAuth
  try dsimp only
  repeat' with_reducible first
    | exact Same.refl _
    | refine SameO.next ?_
    | (apply Same.step (State.submit_same ..); decide)

theorem execImageBegin_same (r : Request) (s : State) :
    SameO 0x1EFFBFFC s (execImageBegin r s) := by
  unfold execImageBegin
  try dsimp only
  repeat' with_reducible first
    | exact Same.refl _
    | refine SameO.next ?_
    | (apply Same.step (State.submit_same ..); decide)

theorem execUcodeActivate_same (r : Request) (s : State) :
    SameO 0x1EFFBFFC s (execUcodeActivate r s) := by
  unfold execUcodeActivate
  try dsimp only
  repeat' with_reducible first
    | exact Same.refl _
    | refine SameO.next ?_
    | (apply Same.step (State.submit_same ..); decide)

theorem execRetireIsland_same (r : Request) (s : State) :
    SameO 0x1EFFBFFC s (execRetireIsland r s) := by
  unfold execRetireIsland
  try dsimp only
  repeat' with_reducible first
    | exact Same.refl _
    | refine SameO.next ?_
    | (apply Same.step (State.submit_same ..); decide)

theorem execWritePacket_same (port : Nat) (bytes : List Byte) (s : State) :
    SameO 0x1EFFBFFC s (execWritePacket port bytes s) := by
  unfold execWritePacket
  try dsimp only
  repeat' with_reducible first
    | exact Same.refl _
    | refine SameO.next ?_
    | (apply Same.step (State.writeSpi_same ..); decide)
    | refine Same.ite ?_ ?_

theorem execSegmentRecord_same (upsets : List (Nat × Nat)) (s : State) :
    SameO 0x1FFFFFFC s (execSegmentRecord upsets s) := by
  unfold execSegmentRecord
  try dsimp only
  repeat' with_reducible first
    | exact Same.refl _
    | refine SameO.next ?_
    | (apply Same.step (State.drain_same ..); decide)
    | (apply Same.step (State.takeSegment_same ..); decide)

theorem execBoundaryCommit_same (s : State) :
    SameO 0x1EFFBFFC s (execBoundaryCommit s) := by
  unfold execBoundaryCommit
  try dsimp only
  repeat' with_reducible first
    | exact Same.refl _
    | refine SameO.next ?_
    | (apply Same.step (State.drain_same ..); decide)
    | (apply Same.step (State.finishCommits_same ..); decide)

end Sys2Proof.Machine
end

