-- ==== Sys2Proof/Laws/FrameDispatch.lean ====
section
/-! SUPPORT. What each function of Dispatch can change: the mask of the parts, and never what `Same` forbids. -/
namespace Sys2Proof.Machine

theorem SameO.mono {v w : Nat} {s : State} {x : Host.Outcome State Fault Refusal} (k : SameO v s x) (hv : v ||| w = w) :
    SameO w s x := fun t q => (k t q).mono hv

theorem exec_same (i : Instr) (s : State) : SameO 0x3FFFFFFC s (exec i s) := by
  cases i
  · exact SameO.mono (w := 0x3FFFFFFC) (execGetIdentity_same _ _) (by decide)
  · exact SameO.mono (w := 0x3FFFFFFC) (execGetStatus_same _ _) (by decide)
  · exact SameO.mono (w := 0x3FFFFFFC) (execSetMode_same _ _) (by decide)
  · exact SameO.mono (w := 0x3FFFFFFC) (execResetCmd_same _ _) (by decide)
  · exact SameO.mono (w := 0x3FFFFFFC) (execResetCmdStart_same _ _) (by decide)
  · exact SameO.mono (w := 0x3FFFFFFC) (execReadNotify_same _ _) (by decide)
  · exact SameO.mono (w := 0x3FFFFFFC) (execAckEvents_same _ _) (by decide)
  · exact SameO.mono (w := 0x3FFFFFFC) (execSetEventMask_same _ _) (by decide)
  · exact SameO.mono (w := 0x3FFFFFFC) (execGetParam_same _ _) (by decide)
  · exact SameO.mono (w := 0x3FFFFFFC) (execSetParam_same _ _) (by decide)
  · exact SameO.mono (w := 0x3FFFFFFC) (execGetParamBlock_same _ _) (by decide)
  · exact SameO.mono (w := 0x3FFFFFFC) (execSetParamBlock_same _ _) (by decide)
  · exact SameO.mono (w := 0x3FFFFFFC) (execCommitParams_same _ _) (by decide)
  · exact SameO.mono (w := 0x3FFFFFFC) (execCapService_same _ _) (by decide)
  · exact SameO.mono (w := 0x3FFFFFFC) (execVbatMeasure_same _ _) (by decide)
  · exact SameO.mono (w := 0x3FFFFFFC) (execLoadFirBank_same _ _) (by decide)
  · exact SameO.mono (w := 0x3FFFFFFC) (execBindMp_same _ _) (by decide)
  · exact SameO.mono (w := 0x3FFFFFFC) (execUnbindMp_same _ _) (by decide)
  · exact SameO.mono (w := 0x3FFFFFFC) (execReadRegisters_same _ _) (by decide)
  · exact SameO.mono (w := 0x3FFFFFFC) (execReadInstant_same _ _) (by decide)
  · exact SameO.mono (w := 0x3FFFFFFC) (execSetBalanceGroup_same _ _) (by decide)
  · exact SameO.mono (w := 0x3FFFFFFC) (execPulseAssign_same _ _) (by decide)
  · exact SameO.mono (w := 0x3FFFFFFC) (execSetTime_same _ _) (by decide)
  · exact SameO.mono (w := 0x3FFFFFFC) (execAdjustTime_same _ _) (by decide)
  · exact SameO.mono (w := 0x3FFFFFFC) (execSlewComplete_same _) (by decide)
  · exact SameO.mono (w := 0x3FFFFFFC) (execLoadPlan_same _ _) (by decide)
  · exact SameO.mono (w := 0x3FFFFFFC) (execReadBoundaries_same _ _) (by decide)
  · exact SameO.mono (w := 0x3FFFFFFC) (execBillingClose_same _ _) (by decide)
  · exact SameO.mono (w := 0x3FFFFFFC) (execDemandReset_same _ _) (by decide)
  · exact SameO.mono (w := 0x3FFFFFFC) (execSubmitToken_same _ _) (by decide)
  · exact SameO.mono (w := 0x3FFFFFFC) (execTokenApply_same _) (by decide)
  · exact SameO.mono (w := 0x3FFFFFFC) (execTokenLockoutEnd_same _ _) (by decide)
  · exact SameO.mono (w := 0x3FFFFFFC) (execReadCredit_same _ _) (by decide)
  · exact SameO.mono (w := 0x3FFFFFFC) (execRelayCommand_same _ _) (by decide)
  · exact SameO.mono (w := 0x3FFFFFFC) (execRelayOverrideEnd_same _ _) (by decide)
  · exact SameO.mono (w := 0x3FFFFFFC) (execRelayTestEnd_same _ _) (by decide)
  · exact SameO.mono (w := 0x3FFFFFFC) (execReconnectArm_same _ _) (by decide)
  · exact SameO.mono (w := 0x3FFFFFFC) (execSetCreditPolicy_same _ _) (by decide)
  · exact SameO.mono (w := 0x3FFFFFFC) (execPowerLimitHoldEnd_same _ _) (by decide)
  · exact SameO.mono (w := 0x3FFFFFFC) (execReadProfile_same _ _) (by decide)
  · exact SameO.mono (w := 0x3FFFFFFC) (execReadSnapshot_same _ _) (by decide)
  · exact SameO.mono (w := 0x3FFFFFFC) (execReadEvents_same _ _) (by decide)
  · exact SameO.mono (w := 0x3FFFFFFC) (execFreezeLog_same _ _) (by decide)
  · exact SameO.mono (w := 0x3FFFFFFC) (execUnfreezeLog_same _ _) (by decide)
  · exact SameO.mono (w := 0x3FFFFFFC) (execLogFreezeTimeout_same _) (by decide)
  · exact SameO.mono (w := 0x3FFFFFFC) (execStoreStatus_same _ _) (by decide)
  · exact SameO.mono (w := 0x3FFFFFFC) (execScrubNow_same _ _) (by decide)
  · exact SameO.mono (w := 0x3FFFFFFC) (execCheckpointNow_same _ _) (by decide)
  · exact SameO.mono (w := 0x3FFFFFFC) (execHostArea_same _ _) (by decide)
  · exact SameO.mono (w := 0x3FFFFFFC) (execReadPq_same _ _) (by decide)
  · exact SameO.mono (w := 0x3FFFFFFC) (execReadHarmonics_same _ _) (by decide)
  · exact SameO.mono (w := 0x3FFFFFFC) (execArmCapture_same _ _) (by decide)
  · exact SameO.mono (w := 0x3FFFFFFC) (execReadCapture_same _ _) (by decide)
  · exact SameO.mono (w := 0x3FFFFFFC) (execCaptureComplete_same _) (by decide)
  · exact SameO.mono (w := 0x3FFFFFFC) (execCalWrite_same _ _) (by decide)
  · exact SameO.mono (w := 0x3FFFFFFC) (execCalMeasure_same _ _) (by decide)
  · exact SameO.mono (w := 0x3FFFFFFC) (execSpotCheck_same _ _) (by decide)
  · exact SameO.mono (w := 0x3FFFFFFC) (execSeal_same _ _) (by decide)
  · exact SameO.mono (w := 0x3FFFFFFC) (execAttest_same _ _) (by decide)
  · exact SameO.mono (w := 0x3FFFFFFC) (execSignReading_same _ _) (by decide)
  · exact SameO.mono (w := 0x3FFFFFFC) (execLoadKeys_same _ _) (by decide)
  · exact SameO.mono (w := 0x3FFFFFFC) (execGetCerts_same _ _) (by decide)
  · exact SameO.mono (w := 0x3FFFFFFC) (execDebugAuth_same _ _) (by decide)
  · exact SameO.mono (w := 0x3FFFFFFC) (execDebugLevelExpiry_same _) (by decide)
  · exact SameO.mono (w := 0x3FFFFFFC) (execZeroise_same _ _) (by decide)
  · exact SameO.mono (w := 0x3FFFFFFC) (execImageBegin_same _ _) (by decide)
  · exact SameO.mono (w := 0x3FFFFFFC) (execImageData_same _ _) (by decide)
  · exact SameO.mono (w := 0x3FFFFFFC) (execImageEnd_same _ _) (by decide)
  · exact SameO.mono (w := 0x3FFFFFFC) (execImageSessionTimeout_same _) (by decide)
  · exact SameO.mono (w := 0x3FFFFFFC) (execImageActivate_same _ _) (by decide)
  · exact SameO.mono (w := 0x3FFFFFFC) (execControlCoreSwitch_same _ _) (by decide)
  · exact SameO.mono (w := 0x3FFFFFFC) (execControlCoreFallback_same _ _) (by decide)
  · exact SameO.mono (w := 0x3FFFFFFC) (execUcodeActivate_same _ _) (by decide)
  · exact SameO.mono (w := 0x3FFFFFFC) (execUcodeSwitch_same _) (by decide)
  · exact SameO.mono (w := 0x3FFFFFFC) (execRemapChannel_same _ _) (by decide)
  · exact SameO.mono (w := 0x3FFFFFFC) (execRemapEffect_same _) (by decide)
  · exact SameO.mono (w := 0x3FFFFFFC) (execRetireIsland_same _ _) (by decide)
  · exact SameO.mono (w := 0x3FFFFFFC) (execRestoreIsland_same _ _) (by decide)
  · exact SameO.mono (w := 0x3FFFFFFC) (execLaneTest_same _ _) (by decide)
  · exact SameO.mono (w := 0x3FFFFFFC) (execHoldupTest_same _ _) (by decide)
  · exact SameO.mono (w := 0x3FFFFFFC) (execPollHandle_same _ _) (by decide)
  · exact SameO.mono (w := 0x3FFFFFFC) (execCancelHandle_same _ _) (by decide)
  · exact SameO.mono (w := 0x3FFFFFFC) (execReadCompletions_same _ _) (by decide)
  · exact SameO.mono (w := 0x3FFFFFFC) (execReadPortStatus_same _ _) (by decide)
  · exact SameO.mono (w := 0x3FFFFFFC) (execWritePacket_same _ _ _) (by decide)
  · exact SameO.mono (w := 0x3FFFFFFC) (execWritePacketQ_same _ _ _) (by decide)
  · exact SameO.mono (w := 0x3FFFFFFC) (execReadPacket_same _ _ _) (by decide)
  · exact SameO.mono (w := 0x3FFFFFFC) (execReadPacketQ_same _ _ _) (by decide)
  · exact SameO.mono (w := 0x3FFFFFFC) (execSpiUnknownInstruction_same _ _ _) (by decide)
  · exact SameO.mono (w := 0x3FFFFFFC) (execAuxFrame_same _ _ _) (by decide)
  · exact SameO.mono (w := 0x3FFFFFFC) (execAuxBreak_same _ _) (by decide)
  · exact SameO.mono (w := 0x3FFFFFFC) (execAuxReplySent_same _) (by decide)
  · exact SameO.mono (w := 0x3FFFFFFC) (execJorosMailbox_same _ _ _) (by decide)
  · exact SameO.mono (w := 0x3FFFFFFC) (execIdcode_same _) (by decide)
  · exact SameO.mono (w := 0x3FFFFFFC) (execSamplePreload_same _ _ _) (by decide)
  · exact SameO.mono (w := 0x3FFFFFFC) (execExtest_same _ _) (by decide)
  · exact SameO.mono (w := 0x3FFFFFFC) (execClamp_same _) (by decide)
  · exact SameO.mono (w := 0x3FFFFFFC) (execHighz_same _) (by decide)
  · exact SameO.mono (w := 0x3FFFFFFC) (execDebug_same _ _) (by decide)
  · exact SameO.mono (w := 0x3FFFFFFC) (execBypass_same _ _) (by decide)
  · exact SameO.mono (w := 0x3FFFFFFC) (execTrstN_same _) (by decide)
  · exact SameO.mono (w := 0x3FFFFFFC) (execResetN_same _ _) (by decide)
  · exact SameO.mono (w := 0x3FFFFFFC) (execWatchdogExpiry_same _ _) (by decide)
  · exact SameO.mono (w := 0x3FFFFFFC) (execControlPlaneReady_same _) (by decide)
  · exact SameO.mono (w := 0x3FFFFFFC) (execCalLink_same _ _) (by decide)
  · exact SameO.mono (w := 0x3FFFFFFC) (execCalLinkOpenTimeout_same _) (by decide)
  · exact SameO.mono (w := 0x3FFFFFFC) (execCalibrateTimeout_same _) (by decide)
  · exact SameO.mono (w := 0x3FFFFFFC) (execPfail_same _ _ _) (by decide)
  · exact SameO.mono (w := 0x3FFFFFFC) (execFullMeteringReturn_same _ _) (by decide)
  · exact SameO.mono (w := 0x3FFFFFFC) (execRideThroughEnd_same _ _) (by decide)
  · exact SameO.mono (w := 0x3FFFFFFC) (execAdjournment_same _ _) (by decide)
  · exact SameO.mono (w := 0x3FFFFFFC) (execStartCondition_same _ _) (by decide)
  · exact SameO.mono (w := 0x3FFFFFFC) (execStartAbandoned_same _ _) (by decide)
  · exact SameO.mono (w := 0x3FFFFFFC) (execVaonLoss_same _) (by decide)
  · exact SameO.mono (w := 0x3FFFFFFC) (execHealthTestStart_same _ _ _) (by decide)
  · exact SameO.mono (w := 0x3FFFFFFC) (execHealthTestComplete_same _ _) (by decide)
  · exact SameO.mono (w := 0x3FFFFFFC) (execVbatMeasurement_same _ _ _) (by decide)
  · exact SameO.mono (w := 0x3FFFFFFC) (execCheckpoint_same _) (by decide)
  · exact SameO.mono (w := 0x3FFFFFFC) (execReferenceWindow_same _ _) (by decide)
  · exact SameO.mono (w := 0x3FFFFFFC) (execTemperatureReduction_same _ _) (by decide)
  · exact SameO.mono (w := 0x3FFFFFFC) (execTemperatureRecovery_same _ _) (by decide)
  · exact SameO.mono (w := 0x3FFFFFFC) (execCreditResync_same _ _) (by decide)
  · exact SameO.mono (w := 0x3FFFFFFC) (execNotice_same _ _) (by decide)
  · exact SameO.mono (w := 0x3FFFFFFC) (execRoundBoundary_same _ _) (by decide)
  · exact SameO.mono (w := 0x3FFFFFFC) (execNoCrossing_same _ _) (by decide)
  · exact SameO.mono (w := 0x3FFFFFFC) (execCycleCommit_same _ _) (by decide)
  · exact SameO.mono (w := 0x3FFFFFFC) (execCycleCommitDeadline_same _ _) (by decide)
  · exact SameO.mono (w := 0x3FFFFFFC) (execSegmentRecord_same _ _) (by decide)
  · exact SameO.mono (w := 0x3FFFFFFC) (execLaneSelfTest_same _ _ _) (by decide)
  · exact SameO.mono (w := 0x3FFFFFFC) (execIslandSupplyCheck_same _ _ _ _ _) (by decide)
  · exact SameO.mono (w := 0x3FFFFFFC) (execOverloadEpisodeEnd_same _ _) (by decide)
  · exact SameO.mono (w := 0x3FFFFFFC) (execUrgentRequest_same _ _) (by decide)
  · exact SameO.mono (w := 0x3FFFFFFC) (execSecondIntegrationEnd_same _ _ _ _ _) (by decide)
  · exact SameO.mono (w := 0x3FFFFFFC) (execSecondSelfTest_same _ _ _ _ _) (by decide)
  · exact SameO.mono (w := 0x3FFFFFFC) (execPqItem_same _ _) (by decide)
  · exact SameO.mono (w := 0x3FFFFFFC) (execFrequencyWindowEnd_same _ _) (by decide)
  · exact SameO.mono (w := 0x3FFFFFFC) (execHarmonicWindowEnd_same _ _) (by decide)
  · exact SameO.mono (w := 0x3FFFFFFC) (execCoalesceWindowClose_same _) (by decide)
  · exact SameO.mono (w := 0x3FFFFFFC) (execBoundaryFreeze_same _) (by decide)
  · exact SameO.mono (w := 0x3FFFFFFC) (execAnchor_same _) (by decide)
  · exact SameO.mono (w := 0x3FFFFFFC) (execBoundaryCommit_same _) (by decide)
  · exact SameO.mono (w := 0x3FFFFFFC) (execBoundarySigning_same _) (by decide)
  · exact SameO.mono (w := 0x3FFFFFFC) (execBoundaryTableRefill_same _) (by decide)
  · exact SameO.mono (w := 0x3FFFFFFC) (execBoundaryTableLow_same _) (by decide)
  · exact SameO.mono (w := 0x3FFFFFFC) (execZoneChange_same _) (by decide)
  · exact SameO.mono (w := 0x3FFFFFFC) (execRtcCorrection_same _ _) (by decide)
  · exact SameO.mono (w := 0x3FFFFFFC) (execRtcDriftCheck_same _) (by decide)
  · exact SameO.mono (w := 0x3FFFFFFC) (execBalanceWindow_same _ _) (by decide)
  · exact SameO.mono (w := 0x3FFFFFFC) (execPulseEdge_same _ _) (by decide)
  · exact SameO.mono (w := 0x3FFFFFFC) (execRelayRefresh_same _ _) (by decide)
  · exact SameO.mono (w := 0x3FFFFFFC) (execStoreJobConfirm_same _ _) (by decide)
  · exact SameO.mono (w := 0x3FFFFFFC) (execWriterEnergyRecheck_same _ _) (by decide)
  · exact SameO.mono (w := 0x3FFFFFFC) (execScrubWord_same _ _ _ _) (by decide)
  · exact SameO.mono (w := 0x3FFFFFFC) (execEventGroup_same _ _) (by decide)
  · exact SameO.mono (w := 0x3FFFFFFC) (execTamperSample_same _ _) (by decide)
  · exact SameO.mono (w := 0x3FFFFFFC) (execSupplyGlitch_same _) (by decide)
  · exact SameO.mono (w := 0x3FFFFFFC) (execRtcOscillatorStop_same _) (by decide)
  · exact SameO.mono (w := 0x3FFFFFFC) (execLockExpiry_same _) (by decide)
  · exact SameO.mono (w := 0x3FFFFFFC) (execSecurityJobDone_same _ _) (by decide)
  · exact SameO.mono (w := 0x3FFFFFFC) (execSessionKeyExpiry_same _ _) (by decide)
  · exact SameO.mono (w := 0x3FFFFFFC) (execEntropyFailure_same _) (by decide)
  · exact SameO.mono (w := 0x3FFFFFFC) (execResetNRelease_same _) (by decide)
  · exact SameO.mono (w := 0x3FFFFFFC) (execSupplyGlitchClear_same _) (by decide)
  · exact SameO.mono (w := 0x3FFFFFFC) (execRtcOscillatorResumed_same _) (by decide)

end Sys2Proof.Machine
end

