-- ==== Sys2Proof/Laws/Refusals.lean ====
section
/-! SUPPORT. The refusals of every command but SIGN_READING count no invalid record (R375): a refusal writes the store only for those
that SIGN_READING meets. -/
namespace Sys2Proof.Machine

/-- A refusal that counts no invalid record. -/
def Untorn {α : Type} (x : Except Deny α) : Prop := ∀ d, x = .error d → d.torn = 0

theorem Untorn.ok {α : Type} {a : α} : Untorn (.ok a) := fun _ q => nomatch q

theorem Untorn.error {α : Type} {d : Deny} (h : d.torn = 0) : Untorn (α := α) (.error d) := by
  intro e q
  cases q
  exact h

theorem Untorn.bind {α β : Type} {x : Except Deny α} {f : α → Except Deny β} (h : Untorn x) (k : ∀ a, Untorn (f a)) :
    Untorn (x >>= f) := by
  intro d q
  cases x with
  | error e => cases q; exact h _ rfl
  | ok a => exact k a d q

theorem Untorn.map {α β : Type} {x : Except Deny α} {f : α → β} (h : Untorn x) : Untorn (x.map f) := by
  intro d q
  cases x with
  | error e => cases q; exact h _ rfl
  | ok a => cases q

theorem Untorn.ite {α : Type} {x y : Except Deny α} {c : Prop} [Decidable c] (h : Untorn x) (k : Untorn y) :
    Untorn (if c then x else y) := by split <;> assumption

theorem need_untorn {b : Bool} {st : Status} : Untorn (need b st) := by
  unfold need
  exact Untorn.ite Untorn.ok (Untorn.error rfl)

theorem need67_untorn {b : Bool} {st : Status} : Untorn (need67 b st) := by
  unfold need67
  exact Untorn.ite Untorn.ok (Untorn.error rfl)

theorem len_untorn (r : Request) (n : Nat) : Untorn (len r n) := by
  unfold len
  try dsimp only
  repeat' with_reducible first
    | exact Untorn.ok
    | exact Untorn.error rfl
    | exact need_untorn
    | exact need67_untorn
    | refine Untorn.bind ?_ (fun _ => ?_)
    | refine Untorn.ite ?_ ?_
    | refine Untorn.map ?_
    | split

theorem reserved_untorn (r : Request) (a n : Nat) : Untorn (reserved r a n) := by
  unfold reserved
  try dsimp only
  repeat' with_reducible first
    | exact Untorn.ok
    | exact Untorn.error rfl
    | exact need_untorn
    | exact need67_untorn
    | refine Untorn.bind ?_ (fun _ => ?_)
    | refine Untorn.ite ?_ ?_
    | refine Untorn.map ?_
    | split

theorem flagsWithin_untorn (x n : Nat) : Untorn (flagsWithin x n) := by
  unfold flagsWithin
  try dsimp only
  repeat' with_reducible first
    | exact Untorn.ok
    | exact Untorn.error rfl
    | exact need_untorn
    | exact need67_untorn
    | refine Untorn.bind ?_ (fun _ => ?_)
    | refine Untorn.ite ?_ ?_
    | refine Untorn.map ?_
    | split

theorem modeResp_untorn (s : State) (b : Bool) : Untorn (modeResp s b) := by
  unfold modeResp
  try dsimp only
  repeat' with_reducible first
    | exact Untorn.ok
    | exact Untorn.error rfl
    | exact need_untorn
    | exact need67_untorn
    | refine Untorn.bind ?_ (fun _ => ?_)
    | refine Untorn.ite ?_ ?_
    | refine Untorn.map ?_
    | split

theorem modeAll_untorn (s : State) : Untorn (modeAll s) := by
  unfold modeAll
  try dsimp only
  repeat' with_reducible first
    | exact Untorn.ok
    | exact Untorn.error rfl
    | exact need_untorn
    | exact need67_untorn
    | exact modeResp_untorn ..
    | refine Untorn.bind ?_ (fun _ => ?_)
    | refine Untorn.ite ?_ ?_
    | refine Untorn.map ?_
    | split

theorem modeNoCal_untorn (s : State) : Untorn (modeNoCal s) := by
  unfold modeNoCal
  try dsimp only
  repeat' with_reducible first
    | exact Untorn.ok
    | exact Untorn.error rfl
    | exact need_untorn
    | exact need67_untorn
    | refine Untorn.bind ?_ (fun _ => ?_)
    | refine Untorn.ite ?_ ?_
    | refine Untorn.map ?_
    | split

theorem modeMeter_untorn (s : State) : Untorn (modeMeter s) := by
  unfold modeMeter
  try dsimp only
  repeat' with_reducible first
    | exact Untorn.ok
    | exact Untorn.error rfl
    | exact need_untorn
    | exact need67_untorn
    | refine Untorn.bind ?_ (fun _ => ?_)
    | refine Untorn.ite ?_ ?_
    | refine Untorn.map ?_
    | split

theorem notRetired_untorn (s : State) : Untorn (notRetired s) := by
  unfold notRetired
  try dsimp only
  repeat' with_reducible first
    | exact Untorn.ok
    | exact Untorn.error rfl
    | exact need_untorn
    | exact need67_untorn
    | refine Untorn.bind ?_ (fun _ => ?_)
    | refine Untorn.ite ?_ ?_
    | refine Untorn.map ?_
    | split

theorem needPoint_untorn (s : State) (m : Nat) : Untorn (needPoint s m) := by
  unfold needPoint
  try dsimp only
  repeat' with_reducible first
    | exact Untorn.ok
    | exact Untorn.error rfl
    | exact need_untorn
    | exact need67_untorn
    | refine Untorn.bind ?_ (fun _ => ?_)
    | refine Untorn.ite ?_ ?_
    | refine Untorn.map ?_
    | split

theorem needIslFitted_untorn (s : State) (m : Nat) : Untorn (needIslFitted s m) := by
  unfold needIslFitted
  try dsimp only
  repeat' with_reducible first
    | exact Untorn.ok
    | exact Untorn.error rfl
    | exact need_untorn
    | exact need67_untorn
    | refine Untorn.bind ?_ (fun _ => ?_)
    | refine Untorn.ite ?_ ?_
    | refine Untorn.map ?_
    | split

theorem needMask_untorn (s : State) (m : Nat) : Untorn (needMask s m) := by
  unfold needMask
  try dsimp only
  repeat' with_reducible first
    | exact Untorn.ok
    | exact Untorn.error rfl
    | exact need_untorn
    | exact need67_untorn
    | refine Untorn.bind ?_ (fun _ => ?_)
    | refine Untorn.ite ?_ ?_
    | refine Untorn.map ?_
    | split

theorem needBound_untorn (s : State) (l : List Nat) : Untorn (needBound s l) := by
  unfold needBound
  try dsimp only
  repeat' with_reducible first
    | exact Untorn.ok
    | exact Untorn.error rfl
    | exact need_untorn
    | exact need67_untorn
    | refine Untorn.bind ?_ (fun _ => ?_)
    | refine Untorn.ite ?_ ?_
    | refine Untorn.map ?_
    | split

theorem needEntropy_untorn (s : State) : Untorn (needEntropy s) := by
  unfold needEntropy
  try dsimp only
  repeat' with_reducible first
    | exact Untorn.ok
    | exact Untorn.error rfl
    | exact need_untorn
    | exact need67_untorn
    | refine Untorn.bind ?_ (fun _ => ?_)
    | refine Untorn.ite ?_ ?_
    | refine Untorn.map ?_
    | split

theorem needKeys_untorn (s : State) : Untorn (needKeys s) := by
  unfold needKeys
  try dsimp only
  repeat' with_reducible first
    | exact Untorn.ok
    | exact Untorn.error rfl
    | exact need_untorn
    | exact need67_untorn
    | refine Untorn.bind ?_ (fun _ => ?_)
    | refine Untorn.ite ?_ ?_
    | refine Untorn.map ?_
    | split

theorem State.write6_untorn (s : State) (p : Nat) (v : BitVec 32) : Untorn (State.write6 s p v) := by
  unfold State.write6
  try dsimp only
  repeat' with_reducible first
    | exact Untorn.ok
    | exact Untorn.error rfl
    | exact need_untorn
    | exact need67_untorn
    | refine Untorn.bind ?_ (fun _ => ?_)
    | refine Untorn.ite ?_ ?_
    | refine Untorn.map ?_
    | split

theorem State.write8_untorn (s : State) (p : Nat) (v : BitVec 32) : Untorn (State.write8 s p v) := by
  unfold State.write8
  try dsimp only
  repeat' with_reducible first
    | exact Untorn.ok
    | exact Untorn.error rfl
    | exact need_untorn
    | exact need67_untorn
    | refine Untorn.bind ?_ (fun _ => ?_)
    | refine Untorn.ite ?_ ?_
    | refine Untorn.map ?_
    | split

theorem needPriv_untorn (s : State) (r : Request) (op : Nat) (a b c : Bool) : Untorn (needPriv s r op a b c) := by
  unfold needPriv
  try dsimp only
  repeat' with_reducible first
    | exact Untorn.ok
    | exact Untorn.error rfl
    | exact need_untorn
    | exact need67_untorn
    | refine Untorn.bind ?_ (fun _ => ?_)
    | refine Untorn.ite ?_ ?_
    | refine Untorn.map ?_
    | split

theorem checkAuth_untorn (s : State) (t : Int) (a op : Nat) (x y : List Byte) (f : Bool) : Untorn (checkAuth s t a op x y f) := by
  unfold checkAuth
  try dsimp only
  repeat' with_reducible first
    | exact Untorn.ok
    | exact Untorn.error rfl
    | exact need_untorn
    | exact need67_untorn
    | refine Untorn.bind ?_ (fun _ => ?_)
    | refine Untorn.ite ?_ ?_
    | refine Untorn.map ?_
    | split

theorem order5_untorn (s : State) (t : Int) (r : Request) (op : Nat) (a : Option Nat) (n : Nat) (x : List Byte) (f c : Bool) : Untorn (order5 s t r op a n x f c) := by
  unfold order5
  try dsimp only
  repeat' with_reducible first
    | exact Untorn.ok
    | exact Untorn.error rfl
    | exact need_untorn
    | exact need67_untorn
    | exact needPriv_untorn ..
    | exact checkAuth_untorn ..
    | refine Untorn.bind ?_ (fun _ => ?_)
    | refine Untorn.ite ?_ ?_
    | refine Untorn.map ?_
    | split

theorem authField_untorn (r : Request) (n : Nat) : Untorn (authField r n) := by
  unfold authField
  try dsimp only
  repeat' with_reducible first
    | exact Untorn.ok
    | exact Untorn.error rfl
    | exact need_untorn
    | exact need67_untorn
    | refine Untorn.bind ?_ (fun _ => ?_)
    | refine Untorn.ite ?_ ?_
    | refine Untorn.map ?_
    | split

theorem needChans_untorn (s : State) (cs : List Nat) : Untorn (needChans s cs) := by
  unfold needChans
  try dsimp only
  repeat' with_reducible first
    | exact Untorn.ok
    | exact Untorn.error rfl
    | exact need_untorn
    | exact need67_untorn
    | refine Untorn.bind ?_ (fun _ => ?_)
    | refine Untorn.ite ?_ ?_
    | refine Untorn.map ?_
    | split

theorem needIsl_untorn (s : State) (n : Nat) : Untorn (needIsl s n) := by
  unfold needIsl
  try dsimp only
  repeat' with_reducible first
    | exact Untorn.ok
    | exact Untorn.error rfl
    | exact need_untorn
    | exact need67_untorn
    | refine Untorn.bind ?_ (fun _ => ?_)
    | refine Untorn.ite ?_ ?_
    | refine Untorn.map ?_
    | split

theorem needChan_untorn (s : State) (c : Nat) : Untorn (needChan s c) := by
  unfold needChan
  try dsimp only
  repeat' with_reducible first
    | exact Untorn.ok
    | exact Untorn.error rfl
    | exact need_untorn
    | exact need67_untorn
    | exact needChans_untorn ..
    | refine Untorn.bind ?_ (fun _ => ?_)
    | refine Untorn.ite ?_ ?_
    | refine Untorn.map ?_
    | split

theorem State.write4_untorn (s : State) (ws : List (Nat × BitVec 32)) : Untorn (State.write4 s ws) := by
  unfold State.write4
  try dsimp only
  repeat' with_reducible first
    | exact Untorn.ok
    | exact Untorn.error rfl
    | exact need_untorn
    | exact need67_untorn
    | refine Untorn.bind ?_ (fun _ => ?_)
    | refine Untorn.ite ?_ ?_
    | refine Untorn.map ?_
    | split

theorem needSlot_untorn (s : State) (t n : Nat) : Untorn (needSlot s t n) := by
  unfold needSlot
  try dsimp only
  repeat' with_reducible first
    | exact Untorn.ok
    | exact Untorn.error rfl
    | exact need_untorn
    | exact need67_untorn
    | refine Untorn.bind ?_ (fun _ => ?_)
    | refine Untorn.ite ?_ ?_
    | refine Untorn.map ?_
    | split

theorem islandRequest_untorn (s : State) (r : Request) (op : Nat) : Untorn (islandRequest s r op) := by
  unfold islandRequest
  try dsimp only
  repeat' with_reducible first
    | exact Untorn.ok
    | exact Untorn.error rfl
    | exact need_untorn
    | exact need67_untorn
    | exact reserved_untorn ..
    | exact modeNoCal_untorn ..
    | exact needIslFitted_untorn ..
    | exact order5_untorn ..
    | exact authField_untorn ..
    | exact needIsl_untorn ..
    | refine Untorn.bind ?_ (fun _ => ?_)
    | refine Untorn.ite ?_ ?_
    | refine Untorn.map ?_
    | split

theorem State.tryLoadBank_untorn (s : State) (n t k : Nat) (cs : List Int) (b : List Byte) : Untorn (State.tryLoadBank s n t k cs b) := by
  unfold State.tryLoadBank
  try dsimp only
  repeat' with_reducible first
    | exact Untorn.ok
    | exact Untorn.error rfl
    | exact need_untorn
    | exact need67_untorn
    | refine Untorn.bind ?_ (fun _ => ?_)
    | refine Untorn.ite ?_ ?_
    | refine Untorn.map ?_
    | split

theorem needLedger_untorn (s : State) (m : Nat) : Untorn (needLedger s m) := by
  unfold needLedger
  try dsimp only
  repeat' with_reducible first
    | exact Untorn.ok
    | exact Untorn.error rfl
    | exact need_untorn
    | exact need67_untorn
    | refine Untorn.bind ?_ (fun _ => ?_)
    | refine Untorn.ite ?_ ?_
    | refine Untorn.map ?_
    | split

theorem debugRight_untorn (s : State) (l : Nat) (c : List Byte) : Untorn (debugRight s l c) := by
  unfold debugRight debugCert
  try dsimp only
  repeat' with_reducible first
    | exact Untorn.ok
    | exact Untorn.error rfl
    | exact need_untorn
    | exact need67_untorn
    | refine Untorn.bind ?_ (fun _ => ?_)
    | refine Untorn.ite ?_ ?_
    | refine Untorn.map ?_
    | split

theorem State.write3_untorn (s : State) (p : Nat) (v : BitVec 32) : Untorn (State.write3 s p v) := by
  unfold State.write3
  try dsimp only
  repeat' with_reducible first
    | exact Untorn.ok
    | exact Untorn.error rfl
    | exact need_untorn
    | exact need67_untorn
    | refine Untorn.bind ?_ (fun _ => ?_)
    | refine Untorn.ite ?_ ?_
    | refine Untorn.map ?_
    | split

theorem checkAll_untorn {f : Nat × BitVec 32 → Except Deny Unit} (h : ∀ e, Untorn (f e)) (l : List (Nat × BitVec 32)) :
    Untorn (checkAll f l) := by
  induction l with
  | nil => exact Untorn.ok
  | cons e r ih => exact Untorn.bind (h e) (fun _ => ih)

theorem group00_untorn (s : State) (r : Request) :
    Untorn (cmdGetIdentity s r) ∧ Untorn (cmdGetStatus s r) ∧ Untorn (cmdSetMode s r) ∧ Untorn (cmdResetCmd s r) ∧
    Untorn (cmdReadNotify s r) ∧ Untorn (cmdAckEvents s r) ∧ Untorn (cmdSetEventMask s r) := by
  unfold cmdGetIdentity cmdGetStatus cmdSetMode cmdResetCmd cmdReadNotify cmdAckEvents cmdSetEventMask
  try dsimp only
  repeat' with_reducible first
    | refine And.intro ?_ ?_
    | exact Untorn.ok
    | exact Untorn.error rfl
    | exact need_untorn
    | exact need67_untorn
    | exact len_untorn ..
    | exact reserved_untorn ..
    | exact flagsWithin_untorn ..
    | exact modeResp_untorn ..
    | exact modeAll_untorn ..
    | exact needPriv_untorn ..
    | exact order5_untorn ..
    | exact authField_untorn ..
    | refine Untorn.bind ?_ (fun _ => ?_)
    | refine Untorn.ite ?_ ?_
    | refine Untorn.map ?_
    | split

theorem group01_untorn (s : State) (r : Request) :
    Untorn (cmdGetParam s r) ∧ Untorn (cmdSetParam s r) ∧ Untorn (cmdGetParamBlock s r) ∧ Untorn (cmdSetParamBlock s r) ∧
    Untorn (cmdCommitParams s r) ∧ Untorn (cmdLoadFirBank s r) := by
  unfold cmdGetParam cmdSetParam cmdGetParamBlock cmdSetParamBlock cmdCommitParams cmdLoadFirBank
  try dsimp only
  repeat' with_reducible first
    | refine And.intro ?_ ?_
    | exact Untorn.ok
    | exact Untorn.error rfl
    | exact need_untorn
    | exact need67_untorn
    | exact len_untorn ..
    | exact reserved_untorn ..
    | exact flagsWithin_untorn ..
    | exact modeResp_untorn ..
    | exact modeAll_untorn ..
    | exact notRetired_untorn ..
    | exact State.write6_untorn ..
    | exact State.write8_untorn ..
    | exact needPriv_untorn ..
    | exact order5_untorn ..
    | exact authField_untorn ..
    | exact State.write4_untorn ..
    | exact State.tryLoadBank_untorn ..
    | exact State.write3_untorn ..
    | refine checkAll_untorn (fun _ => ?_) _
    | refine Untorn.bind ?_ (fun _ => ?_)
    | refine Untorn.ite ?_ ?_
    | refine Untorn.map ?_
    | split

theorem group02_untorn (s : State) (r : Request) :
    Untorn (cmdBindMp s r) ∧ Untorn (cmdUnbindMp s r) ∧ Untorn (cmdReadRegisters s r) ∧ Untorn (cmdReadInstant s r) ∧
    Untorn (cmdSetBalanceGroup s r) ∧ Untorn (cmdPulseAssign s r) := by
  unfold cmdBindMp cmdUnbindMp cmdReadRegisters cmdReadInstant cmdSetBalanceGroup cmdPulseAssign
  try dsimp only
  repeat' with_reducible first
    | refine And.intro ?_ ?_
    | exact Untorn.ok
    | exact Untorn.error rfl
    | exact need_untorn
    | exact need67_untorn
    | exact len_untorn ..
    | exact reserved_untorn ..
    | exact modeResp_untorn ..
    | exact modeAll_untorn ..
    | exact modeNoCal_untorn ..
    | exact notRetired_untorn ..
    | exact needPoint_untorn ..
    | exact needMask_untorn ..
    | exact needPriv_untorn ..
    | exact order5_untorn ..
    | exact authField_untorn ..
    | exact needChans_untorn ..
    | refine Untorn.bind ?_ (fun _ => ?_)
    | refine Untorn.ite ?_ ?_
    | refine Untorn.map ?_
    | split

theorem group03_untorn (s : State) (r : Request) :
    Untorn (cmdSetTime s r) ∧ Untorn (cmdAdjustTime s r) ∧ Untorn (cmdLoadPlan s r) ∧ Untorn (cmdReadBoundaries s r) ∧
    Untorn (cmdBillingClose s r) ∧ Untorn (cmdDemandReset s r) := by
  unfold cmdSetTime cmdAdjustTime cmdLoadPlan cmdReadBoundaries cmdBillingClose cmdDemandReset
  try dsimp only
  repeat' with_reducible first
    | refine And.intro ?_ ?_
    | exact Untorn.ok
    | exact Untorn.error rfl
    | exact need_untorn
    | exact need67_untorn
    | exact len_untorn ..
    | exact reserved_untorn ..
    | exact flagsWithin_untorn ..
    | exact modeResp_untorn ..
    | exact modeAll_untorn ..
    | exact modeNoCal_untorn ..
    | exact needMask_untorn ..
    | exact needBound_untorn ..
    | exact needPriv_untorn ..
    | exact order5_untorn ..
    | exact authField_untorn ..
    | refine Untorn.bind ?_ (fun _ => ?_)
    | refine Untorn.ite ?_ ?_
    | refine Untorn.map ?_
    | split

theorem group04_untorn (s : State) (r : Request) :
    Untorn (cmdSubmitToken s r) ∧ Untorn (cmdReadCredit s r) ∧ Untorn (cmdRelayCommand s r) ∧ Untorn (cmdReconnectArm s r) ∧
    Untorn (cmdSetCreditPolicy s r) := by
  unfold cmdSubmitToken cmdReadCredit cmdRelayCommand cmdReconnectArm cmdSetCreditPolicy
  try dsimp only
  repeat' with_reducible first
    | refine And.intro ?_ ?_
    | exact Untorn.ok
    | exact Untorn.error rfl
    | exact need_untorn
    | exact need67_untorn
    | exact len_untorn ..
    | exact reserved_untorn ..
    | exact flagsWithin_untorn ..
    | exact modeResp_untorn ..
    | exact modeAll_untorn ..
    | exact modeNoCal_untorn ..
    | exact modeMeter_untorn ..
    | exact notRetired_untorn ..
    | exact needPoint_untorn ..
    | exact needMask_untorn ..
    | exact needPriv_untorn ..
    | exact order5_untorn ..
    | exact authField_untorn ..
    | exact needLedger_untorn ..
    | refine Untorn.bind ?_ (fun _ => ?_)
    | refine Untorn.ite ?_ ?_
    | refine Untorn.map ?_
    | split

theorem group05_untorn (s : State) (r : Request) :
    Untorn (cmdReadProfile s r) ∧ Untorn (cmdReadSnapshot s r) ∧ Untorn (cmdReadEvents s r) ∧ Untorn (cmdFreezeLog s r) ∧
    Untorn (cmdUnfreezeLog s r) ∧ Untorn (cmdStoreStatus s r) ∧ Untorn (cmdScrubNow s r) ∧ Untorn (cmdCheckpointNow s r) ∧
    Untorn (cmdHostArea s r) := by
  unfold cmdReadProfile cmdReadSnapshot cmdReadEvents cmdFreezeLog cmdUnfreezeLog cmdStoreStatus cmdScrubNow
    cmdCheckpointNow cmdHostArea
  try dsimp only
  repeat' with_reducible first
    | refine And.intro ?_ ?_
    | exact Untorn.ok
    | exact Untorn.error rfl
    | exact need_untorn
    | exact need67_untorn
    | exact len_untorn ..
    | exact reserved_untorn ..
    | exact flagsWithin_untorn ..
    | exact modeResp_untorn ..
    | exact modeAll_untorn ..
    | exact needPoint_untorn ..
    | exact needPriv_untorn ..
    | refine Untorn.bind ?_ (fun _ => ?_)
    | refine Untorn.ite ?_ ?_
    | refine Untorn.map ?_
    | split

theorem group06_untorn (s : State) (r : Request) :
    Untorn (cmdReadPq s r) ∧ Untorn (cmdReadHarmonics s r) ∧ Untorn (cmdArmCapture s r) ∧ Untorn (cmdReadCapture s r) := by
  unfold cmdReadPq cmdReadHarmonics cmdArmCapture cmdReadCapture
  try dsimp only
  repeat' with_reducible first
    | refine And.intro ?_ ?_
    | exact Untorn.ok
    | exact Untorn.error rfl
    | exact need_untorn
    | exact need67_untorn
    | exact len_untorn ..
    | exact reserved_untorn ..
    | exact flagsWithin_untorn ..
    | exact modeResp_untorn ..
    | exact modeAll_untorn ..
    | exact needPriv_untorn ..
    | exact needChans_untorn ..
    | refine Untorn.bind ?_ (fun _ => ?_)
    | refine Untorn.ite ?_ ?_
    | refine Untorn.map ?_
    | split

theorem group07_untorn (s : State) (r : Request) :
    Untorn (cmdCalWrite s r) ∧ Untorn (cmdCalMeasure s r) ∧ Untorn (cmdSpotCheck s r) ∧ Untorn (cmdSeal s r) := by
  unfold cmdCalWrite cmdCalMeasure cmdSpotCheck cmdSeal
  try dsimp only
  repeat' with_reducible first
    | refine And.intro ?_ ?_
    | exact Untorn.ok
    | exact Untorn.error rfl
    | exact need_untorn
    | exact need67_untorn
    | exact len_untorn ..
    | exact reserved_untorn ..
    | exact flagsWithin_untorn ..
    | exact modeAll_untorn ..
    | exact notRetired_untorn ..
    | exact needEntropy_untorn ..
    | exact needPriv_untorn ..
    | exact order5_untorn ..
    | exact authField_untorn ..
    | exact needChans_untorn ..
    | exact needChan_untorn ..
    | refine Untorn.bind ?_ (fun _ => ?_)
    | refine Untorn.ite ?_ ?_
    | refine Untorn.map ?_
    | split

theorem group08_untorn (s : State) (r : Request) :
    Untorn (cmdAttest s r) ∧ Untorn (cmdLoadKeys s r) ∧ Untorn (cmdGetCerts s r) ∧ Untorn (cmdDebugAuth s r) ∧
    Untorn (cmdZeroise s r) := by
  unfold cmdAttest cmdLoadKeys cmdGetCerts cmdDebugAuth cmdZeroise
  try dsimp only
  repeat' with_reducible first
    | refine And.intro ?_ ?_
    | exact Untorn.ok
    | exact Untorn.error rfl
    | exact need_untorn
    | exact need67_untorn
    | exact len_untorn ..
    | exact reserved_untorn ..
    | exact flagsWithin_untorn ..
    | exact modeResp_untorn ..
    | exact modeAll_untorn ..
    | exact notRetired_untorn ..
    | exact needEntropy_untorn ..
    | exact needKeys_untorn ..
    | exact needPriv_untorn ..
    | exact order5_untorn ..
    | exact authField_untorn ..
    | exact debugRight_untorn ..
    | refine Untorn.bind ?_ (fun _ => ?_)
    | refine Untorn.ite ?_ ?_
    | refine Untorn.map ?_
    | split

theorem group09_untorn (s : State) (r : Request) :
    Untorn (cmdImageBegin s r) ∧ Untorn (cmdImageData s r) ∧ Untorn (cmdImageEnd s r) ∧ Untorn (cmdImageActivate s r) ∧
    Untorn (cmdUcodeActivate s r) := by
  unfold cmdImageBegin cmdImageData cmdImageEnd cmdImageActivate cmdUcodeActivate
  try dsimp only
  repeat' with_reducible first
    | refine And.intro ?_ ?_
    | exact Untorn.ok
    | exact Untorn.error rfl
    | exact need_untorn
    | exact need67_untorn
    | exact len_untorn ..
    | exact reserved_untorn ..
    | exact flagsWithin_untorn ..
    | exact modeResp_untorn ..
    | exact needPriv_untorn ..
    | exact needSlot_untorn ..
    | refine Untorn.bind ?_ (fun _ => ?_)
    | refine Untorn.ite ?_ ?_
    | refine Untorn.map ?_
    | split

theorem group0A_untorn (s : State) (r : Request) :
    Untorn (cmdRemapChannel s r) ∧ Untorn (cmdRetireIsland s r) ∧ Untorn (cmdRestoreIsland s r) ∧ Untorn (cmdLaneTest s r) ∧
    Untorn (cmdHoldupTest s r) := by
  unfold cmdRemapChannel cmdRetireIsland cmdRestoreIsland cmdLaneTest cmdHoldupTest
  try dsimp only
  repeat' with_reducible first
    | refine And.intro ?_ ?_
    | exact Untorn.ok
    | exact Untorn.error rfl
    | exact need_untorn
    | exact need67_untorn
    | exact len_untorn ..
    | exact reserved_untorn ..
    | exact flagsWithin_untorn ..
    | exact modeAll_untorn ..
    | exact modeNoCal_untorn ..
    | exact notRetired_untorn ..
    | exact needPriv_untorn ..
    | exact order5_untorn ..
    | exact authField_untorn ..
    | exact needChans_untorn ..
    | exact islandRequest_untorn ..
    | refine Untorn.bind ?_ (fun _ => ?_)
    | refine Untorn.ite ?_ ?_
    | refine Untorn.map ?_
    | split

theorem group0B_untorn (s : State) (r : Request) :
    Untorn (cmdPollHandle s r) ∧ Untorn (cmdCancelHandle s r) ∧ Untorn (cmdReadCompletions s r) := by
  unfold cmdPollHandle cmdCancelHandle cmdReadCompletions
  try dsimp only
  repeat' with_reducible first
    | refine And.intro ?_ ?_
    | exact Untorn.ok
    | exact Untorn.error rfl
    | exact need_untorn
    | exact need67_untorn
    | exact len_untorn ..
    | exact flagsWithin_untorn ..
    | exact modeResp_untorn ..
    | exact needPriv_untorn ..
    | refine Untorn.bind ?_ (fun _ => ?_)
    | refine Untorn.ite ?_ ?_
    | refine Untorn.map ?_
    | split

theorem untorn_of_command {op : Nat} {f : State → Request → Except Deny State} (h : commandOf op = some f) (hop : op ≠ 0x0802)
    (s : State) (r : Request) : Untorn (f s r) := by
  unfold commandOf at h
  split at h
  · cases h; exact (group00_untorn s r).1
  · cases h; exact (group00_untorn s r).2.1
  · cases h; exact (group00_untorn s r).2.2.1
  · cases h; exact (group00_untorn s r).2.2.2.1
  · cases h; exact (group00_untorn s r).2.2.2.2.1
  · cases h; exact (group00_untorn s r).2.2.2.2.2.1
  · cases h; exact (group00_untorn s r).2.2.2.2.2.2
  · cases h; exact (group01_untorn s r).1
  · cases h; exact (group01_untorn s r).2.1
  · cases h; exact (group01_untorn s r).2.2.1
  · cases h; exact (group01_untorn s r).2.2.2.1
  · cases h; exact (group01_untorn s r).2.2.2.2.1
  · cases h; exact (group01_untorn s r).2.2.2.2.2
  · cases h; exact (group02_untorn s r).1
  · cases h; exact (group02_untorn s r).2.1
  · cases h; exact (group02_untorn s r).2.2.1
  · cases h; exact (group02_untorn s r).2.2.2.1
  · cases h; exact (group02_untorn s r).2.2.2.2.1
  · cases h; exact (group02_untorn s r).2.2.2.2.2
  · cases h; exact (group03_untorn s r).1
  · cases h; exact (group03_untorn s r).2.1
  · cases h; exact (group03_untorn s r).2.2.1
  · cases h; exact (group03_untorn s r).2.2.2.1
  · cases h; exact (group03_untorn s r).2.2.2.2.1
  · cases h; exact (group03_untorn s r).2.2.2.2.2
  · cases h; exact (group04_untorn s r).1
  · cases h; exact (group04_untorn s r).2.1
  · cases h; exact (group04_untorn s r).2.2.1
  · cases h; exact (group04_untorn s r).2.2.2.1
  · cases h; exact (group04_untorn s r).2.2.2.2
  · cases h; exact (group05_untorn s r).1
  · cases h; exact (group05_untorn s r).2.1
  · cases h; exact (group05_untorn s r).2.2.1
  · cases h; exact (group05_untorn s r).2.2.2.1
  · cases h; exact (group05_untorn s r).2.2.2.2.1
  · cases h; exact (group05_untorn s r).2.2.2.2.2.1
  · cases h; exact (group05_untorn s r).2.2.2.2.2.2.1
  · cases h; exact (group05_untorn s r).2.2.2.2.2.2.2.1
  · cases h; exact (group05_untorn s r).2.2.2.2.2.2.2.2
  · cases h; exact (group06_untorn s r).1
  · cases h; exact (group06_untorn s r).2.1
  · cases h; exact (group06_untorn s r).2.2.1
  · cases h; exact (group06_untorn s r).2.2.2
  · cases h; exact (group07_untorn s r).1
  · cases h; exact (group07_untorn s r).2.1
  · cases h; exact (group07_untorn s r).2.2.1
  · cases h; exact (group07_untorn s r).2.2.2
  · cases h; exact (group08_untorn s r).1
  · exact absurd rfl hop
  · cases h; exact (group08_untorn s r).2.1
  · cases h; exact (group08_untorn s r).2.2.1
  · cases h; exact (group08_untorn s r).2.2.2.1
  · cases h; exact (group08_untorn s r).2.2.2.2
  · cases h; exact (group09_untorn s r).1
  · cases h; exact (group09_untorn s r).2.1
  · cases h; exact (group09_untorn s r).2.2.1
  · cases h; exact (group09_untorn s r).2.2.2.1
  · cases h; exact (group09_untorn s r).2.2.2.2
  · cases h; exact (group0A_untorn s r).1
  · cases h; exact (group0A_untorn s r).2.1
  · cases h; exact (group0A_untorn s r).2.2.1
  · cases h; exact (group0A_untorn s r).2.2.2.1
  · cases h; exact (group0A_untorn s r).2.2.2.2
  · cases h; exact (group0B_untorn s r).1
  · cases h; exact (group0B_untorn s r).2.1
  · cases h; exact (group0B_untorn s r).2.2
  · cases h

/-- What a refusal that counts no invalid record can change. -/
theorem State.refuse_untorn {s : State} {r : Request} {d : Deny} (h : d.torn = 0) : Same 0x4800180 s (s.refuse r d) := by
  unfold State.refuse
  rw [h]
  extract_lets -merge x1 x2 x3
  have a : Same 0x4800180 s x1 := by
    unfold x1
    split
    · exact (State.onPort_same ..).mono (by decide)
    · exact Same.refl _
  refine Same.step (State.reply_same ..) (by decide) ?_
  unfold x3
  rw [if_pos rfl]
  unfold x2
  split
  · exact Same.step (State.authFail_same ..) (by decide) a
  · exact a

/-- What a command whose refusals count no invalid record can change. -/
theorem State.answer_untorn {w : Nat} {s : State} {r : Request} {x : Except Deny State} (hw : 0x4800180 ||| w = w)
    (u : Untorn x) (h : SameE w s x) : Same w s (s.answer r x) := by
  unfold State.answer
  split
  · exact h _ rfl
  · exact (State.refuse_untorn (u _ rfl)).mono hw

end Sys2Proof.Machine
end

