-- ==== Sys2Proof/Laws/Requests.lean ====
section
/-! SUPPORT. A request that its port takes at once: what its row does is what its command does (R112, R137). -/
namespace Sys2Proof.Machine

theorem modify_id {α : Type} (l : List α) (i : Nat) (f : α → α) (d : α) (h : f (l.getD i d) = l.getD i d) : l.modify i f = l := by
  apply List.ext_getElem? 
  intro j
  rw [List.getElem?_modify]
  by_cases q : i = j
  · subst q
    cases hl : l[i]? with
    | none => rfl
    | some v => simp_all [List.getD_eq_getElem?_getD]
  · simp [q]

/-- A request with a sound header executed: the answer to its command. -/
theorem State.execute_eq (s : State) (op : Nat) (r : Request) (f : State → Request → Except Deny State)
    (h : commandOf op = some f) :
    s.execute op true r = s.answer r ((f s r).map fun t => t.accepted op s.security.sealSt) := by
  simp [State.execute, h]

/-- A request whose command accepts it. -/
theorem State.execute_ok {s t : State} {op : Nat} {r : Request} {f : State → Request → Except Deny State}
    (h : commandOf op = some f) (k : f s r = .ok t) : s.execute op true r = t.accepted op s.security.sealSt := by
  rw [State.execute_eq _ _ _ f h, k]; rfl

theorem upd_getD {α : Type} (l : List α) (i : Nat) (f : α → α) (d : α) (h : i < l.length) :
    (upd l i f).getD i d = f (l.getD i d) := by
  simp [upd, List.getD_eq_getElem?_getD, h]

theorem upd_upd {α : Type} (l : List α) (i : Nat) (f g : α → α) : upd (upd l i f) i g = upd l i (fun x => g (f x)) := by
  apply List.ext_getElem?
  intro j
  simp only [upd, List.getElem?_modify]
  by_cases q : i = j <;> cases l[j]? <;> simp [q]

theorem State.port_onPort (s : State) (p : Nat) (f : Port → Port) (h : p < s.ports.length) :
    (s.onPort p f).port p = f (s.port p) := upd_getD _ _ _ _ h

theorem State.onPort_onPort (s : State) (p : Nat) (f g : Port → Port) :
    (s.onPort p f).onPort p g = s.onPort p fun x => g (f x) := by
  show { s with ports := upd (upd s.ports p f) p g } = { s with ports := upd s.ports p fun x => g (f x) }
  rw [upd_upd]

theorem State.onPort_id (s : State) (p : Nat) (f : Port → Port) (h : f (s.port p) = s.port p) : s.onPort p f = s := by
  show { s with ports := upd s.ports p f } = s
  rw [upd, modify_id _ _ _ {} h]

/-- A request that its port takes at once is executed, and nothing else happens. -/
theorem State.submit_takes {s : State} {op : Nat} {r : Request} (h : Takes s r) : s.submit op r = s.execute op true r := by
  obtain ⟨h1, h2, h0⟩ := h
  unfold State.submit
  by_cases hp : r.port = 3
  · rw [if_neg (by rw [h1, hp]; simp), if_pos hp]
  · obtain ⟨h3, h4, h5, h6⟩ := h2.resolve_left hp
    have hr : ¬ (s.hears r.port = false ∨ 3 < r.port) := by simp [h1]; omega
    have h7 : s.responds = true := by simp only [State.hears, Bool.and_eq_true] at h1; exact h1.1
    rw [if_neg hr, if_neg hp]
    generalize hx : s.onPort r.port (fun x => { x with rx := x.rx ++ [{ opcode := op, tag := r.tag, params := r.params }] }) = x
    have hxp : x.port r.port = { s.port r.port with rx := [{ opcode := op, tag := r.tag, params := r.params }] } := by
      rw [← hx, State.port_onPort _ _ _ h4, h5]; rfl
    have hxr : (x.responds && !x.cp.halted) = true := by rw [← hx]; exact Bool.and_eq_true_iff.2 ⟨h7, by rw [show (State.onPort ..).cp = s.cp from rfl, h0]; rfl⟩
    unfold State.drainPort
    rw [if_pos hxr, hxp]
    dsimp only
    unfold State.drainRx
    have hb : (x.port r.port).busy = false := by rw [hxp]; exact h6
    rw [if_neg (by simp [hb]), hxp]
    dsimp only
    have hs : x.onPort r.port (fun y => { y with rx := [] }) = s := by
      rw [← hx, State.onPort_onPort]
      apply State.onPort_id
      show { s.port r.port with rx := [] } = s.port r.port
      rw [← h5]
    rw [hs]
    unfold State.drainRx
    rfl

/-- A request that is taken at once and passes every check of its command has the command's effect. -/
theorem State.submit_ok {s t : State} {op : Nat} {r : Request} {f : State → Request → Except Deny State} (h : Takes s r)
    (hf : commandOf op = some f) (k : f s r = .ok t) : s.submit op r = t.accepted op s.security.sealSt := by
  rw [submit_takes h, execute_ok hf k]

/-- A long operation is accepted while fewer than 64 handles of its port are allocated. -/
theorem accept_some {s : State} {r : Request} {op : Nat} {c : Bool} (h : (s.port r.port).handles.length < 64) :
    ∃ t o, s.accept r op c = some (t, o) := by
  unfold State.accept
  rw [if_neg (by omega)]
  exact ⟨_, _, rfl⟩

/-- Channels that are present, none of them on a retired island. -/
theorem needChans_ok {s : State} {cs : List Nat} (h : ∀ c ∈ cs, c < s.nChan) (k : ∀ c ∈ cs, (s.isl (c / 64)).retired = false) :
    needChans s cs = .ok () := by
  have h1 : (cs.all fun c => decide (c < s.nChan)) = true := List.all_eq_true.2 fun c q => decide_eq_true (h c q)
  have h2 : (cs.any fun c => (s.isl (c / 64)).retired) = false := List.any_eq_false.2 fun c q => by simp [k c q]
  simp [needChans, need, h1, h2, bind, Except.bind]

theorem State.accepted_same' {t : State} {op : Nat} (h : op / 256 ≠ 7) : t.accepted op t.security.sealSt = t := by
  simp [State.accepted, h]

end Sys2Proof.Machine
end

