-- ==== Sys2Proof/Laws/State.lean ====
section
/-! SUPPORT. One lemma for each field of State under each named update of one part (true by rfl), and under a reply. -/
namespace Sys2Proof.Machine

variable {s : State}

@[simp] theorem State.onPower_pending (f) : (s.onPower f).pending = s.pending := rfl
@[simp] theorem State.onPower_fuses (f) : (s.onPower f).fuses = s.fuses := rfl
@[simp] theorem State.onPower_otp (f) : (s.onPower f).otp = s.otp := rfl
@[simp] theorem State.onPower_power (f) : (s.onPower f).power = f s.power := rfl
@[simp] theorem State.onPower_clock (f) : (s.onPower f).clock = s.clock := rfl
@[simp] theorem State.onPower_mode (f) : (s.onPower f).mode = s.mode := rfl
@[simp] theorem State.onPower_cp (f) : (s.onPower f).cp = s.cp := rfl
@[simp] theorem State.onPower_ports (f) : (s.onPower f).ports = s.ports := rfl
@[simp] theorem State.onPower_tap (f) : (s.onPower f).tap = s.tap := rfl
@[simp] theorem State.onPower_queues (f) : (s.onPower f).queues = s.queues := rfl
@[simp] theorem State.onPower_params (f) : (s.onPower f).params = s.params := rfl
@[simp] theorem State.onPower_channels (f) : (s.onPower f).channels = s.channels := rfl
@[simp] theorem State.onPower_islands (f) : (s.onPower f).islands = s.islands := rfl
@[simp] theorem State.onPower_engine (f) : (s.onPower f).engine = s.engine := rfl
@[simp] theorem State.onPower_q8 (f) : (s.onPower f).q8 = s.q8 := rfl
@[simp] theorem State.onPower_q28 (f) : (s.onPower f).q28 = s.q28 := rfl
@[simp] theorem State.onPower_points (f) : (s.onPower f).points = s.points := rfl
@[simp] theorem State.onPower_bindSeq (f) : (s.onPower f).bindSeq = s.bindSeq := rfl
@[simp] theorem State.onPower_pulses (f) : (s.onPower f).pulses = s.pulses := rfl
@[simp] theorem State.onPower_groups (f) : (s.onPower f).groups = s.groups := rfl
@[simp] theorem State.onPower_tariff (f) : (s.onPower f).tariff = s.tariff := rfl
@[simp] theorem State.onPower_relays (f) : (s.onPower f).relays = s.relays := rfl
@[simp] theorem State.onPower_pq (f) : (s.onPower f).pq = s.pq := rfl
@[simp] theorem State.onPower_events (f) : (s.onPower f).events = s.events := rfl
@[simp] theorem State.onPower_tamper (f) : (s.onPower f).tamper = s.tamper := rfl
@[simp] theorem State.onPower_store (f) : (s.onPower f).store = s.store := rfl
@[simp] theorem State.onPower_security (f) : (s.onPower f).security = s.security := rfl
@[simp] theorem State.onPower_images (f) : (s.onPower f).images = s.images := rfl
@[simp] theorem State.onPower_free (f) : (s.onPower f).free = s.free := rfl

@[simp] theorem State.onClock_pending (f) : (s.onClock f).pending = s.pending := rfl
@[simp] theorem State.onClock_fuses (f) : (s.onClock f).fuses = s.fuses := rfl
@[simp] theorem State.onClock_otp (f) : (s.onClock f).otp = s.otp := rfl
@[simp] theorem State.onClock_power (f) : (s.onClock f).power = s.power := rfl
@[simp] theorem State.onClock_clock (f) : (s.onClock f).clock = f s.clock := rfl
@[simp] theorem State.onClock_mode (f) : (s.onClock f).mode = s.mode := rfl
@[simp] theorem State.onClock_cp (f) : (s.onClock f).cp = s.cp := rfl
@[simp] theorem State.onClock_ports (f) : (s.onClock f).ports = s.ports := rfl
@[simp] theorem State.onClock_tap (f) : (s.onClock f).tap = s.tap := rfl
@[simp] theorem State.onClock_queues (f) : (s.onClock f).queues = s.queues := rfl
@[simp] theorem State.onClock_params (f) : (s.onClock f).params = s.params := rfl
@[simp] theorem State.onClock_channels (f) : (s.onClock f).channels = s.channels := rfl
@[simp] theorem State.onClock_islands (f) : (s.onClock f).islands = s.islands := rfl
@[simp] theorem State.onClock_engine (f) : (s.onClock f).engine = s.engine := rfl
@[simp] theorem State.onClock_q8 (f) : (s.onClock f).q8 = s.q8 := rfl
@[simp] theorem State.onClock_q28 (f) : (s.onClock f).q28 = s.q28 := rfl
@[simp] theorem State.onClock_points (f) : (s.onClock f).points = s.points := rfl
@[simp] theorem State.onClock_bindSeq (f) : (s.onClock f).bindSeq = s.bindSeq := rfl
@[simp] theorem State.onClock_pulses (f) : (s.onClock f).pulses = s.pulses := rfl
@[simp] theorem State.onClock_groups (f) : (s.onClock f).groups = s.groups := rfl
@[simp] theorem State.onClock_tariff (f) : (s.onClock f).tariff = s.tariff := rfl
@[simp] theorem State.onClock_relays (f) : (s.onClock f).relays = s.relays := rfl
@[simp] theorem State.onClock_pq (f) : (s.onClock f).pq = s.pq := rfl
@[simp] theorem State.onClock_events (f) : (s.onClock f).events = s.events := rfl
@[simp] theorem State.onClock_tamper (f) : (s.onClock f).tamper = s.tamper := rfl
@[simp] theorem State.onClock_store (f) : (s.onClock f).store = s.store := rfl
@[simp] theorem State.onClock_security (f) : (s.onClock f).security = s.security := rfl
@[simp] theorem State.onClock_images (f) : (s.onClock f).images = s.images := rfl
@[simp] theorem State.onClock_free (f) : (s.onClock f).free = s.free := rfl

@[simp] theorem State.onMode_pending (f) : (s.onMode f).pending = s.pending := rfl
@[simp] theorem State.onMode_fuses (f) : (s.onMode f).fuses = s.fuses := rfl
@[simp] theorem State.onMode_otp (f) : (s.onMode f).otp = s.otp := rfl
@[simp] theorem State.onMode_power (f) : (s.onMode f).power = s.power := rfl
@[simp] theorem State.onMode_clock (f) : (s.onMode f).clock = s.clock := rfl
@[simp] theorem State.onMode_mode (f) : (s.onMode f).mode = f s.mode := rfl
@[simp] theorem State.onMode_cp (f) : (s.onMode f).cp = s.cp := rfl
@[simp] theorem State.onMode_ports (f) : (s.onMode f).ports = s.ports := rfl
@[simp] theorem State.onMode_tap (f) : (s.onMode f).tap = s.tap := rfl
@[simp] theorem State.onMode_queues (f) : (s.onMode f).queues = s.queues := rfl
@[simp] theorem State.onMode_params (f) : (s.onMode f).params = s.params := rfl
@[simp] theorem State.onMode_channels (f) : (s.onMode f).channels = s.channels := rfl
@[simp] theorem State.onMode_islands (f) : (s.onMode f).islands = s.islands := rfl
@[simp] theorem State.onMode_engine (f) : (s.onMode f).engine = s.engine := rfl
@[simp] theorem State.onMode_q8 (f) : (s.onMode f).q8 = s.q8 := rfl
@[simp] theorem State.onMode_q28 (f) : (s.onMode f).q28 = s.q28 := rfl
@[simp] theorem State.onMode_points (f) : (s.onMode f).points = s.points := rfl
@[simp] theorem State.onMode_bindSeq (f) : (s.onMode f).bindSeq = s.bindSeq := rfl
@[simp] theorem State.onMode_pulses (f) : (s.onMode f).pulses = s.pulses := rfl
@[simp] theorem State.onMode_groups (f) : (s.onMode f).groups = s.groups := rfl
@[simp] theorem State.onMode_tariff (f) : (s.onMode f).tariff = s.tariff := rfl
@[simp] theorem State.onMode_relays (f) : (s.onMode f).relays = s.relays := rfl
@[simp] theorem State.onMode_pq (f) : (s.onMode f).pq = s.pq := rfl
@[simp] theorem State.onMode_events (f) : (s.onMode f).events = s.events := rfl
@[simp] theorem State.onMode_tamper (f) : (s.onMode f).tamper = s.tamper := rfl
@[simp] theorem State.onMode_store (f) : (s.onMode f).store = s.store := rfl
@[simp] theorem State.onMode_security (f) : (s.onMode f).security = s.security := rfl
@[simp] theorem State.onMode_images (f) : (s.onMode f).images = s.images := rfl
@[simp] theorem State.onMode_free (f) : (s.onMode f).free = s.free := rfl

@[simp] theorem State.onCp_pending (f) : (s.onCp f).pending = s.pending := rfl
@[simp] theorem State.onCp_fuses (f) : (s.onCp f).fuses = s.fuses := rfl
@[simp] theorem State.onCp_otp (f) : (s.onCp f).otp = s.otp := rfl
@[simp] theorem State.onCp_power (f) : (s.onCp f).power = s.power := rfl
@[simp] theorem State.onCp_clock (f) : (s.onCp f).clock = s.clock := rfl
@[simp] theorem State.onCp_mode (f) : (s.onCp f).mode = s.mode := rfl
@[simp] theorem State.onCp_cp (f) : (s.onCp f).cp = f s.cp := rfl
@[simp] theorem State.onCp_ports (f) : (s.onCp f).ports = s.ports := rfl
@[simp] theorem State.onCp_tap (f) : (s.onCp f).tap = s.tap := rfl
@[simp] theorem State.onCp_queues (f) : (s.onCp f).queues = s.queues := rfl
@[simp] theorem State.onCp_params (f) : (s.onCp f).params = s.params := rfl
@[simp] theorem State.onCp_channels (f) : (s.onCp f).channels = s.channels := rfl
@[simp] theorem State.onCp_islands (f) : (s.onCp f).islands = s.islands := rfl
@[simp] theorem State.onCp_engine (f) : (s.onCp f).engine = s.engine := rfl
@[simp] theorem State.onCp_q8 (f) : (s.onCp f).q8 = s.q8 := rfl
@[simp] theorem State.onCp_q28 (f) : (s.onCp f).q28 = s.q28 := rfl
@[simp] theorem State.onCp_points (f) : (s.onCp f).points = s.points := rfl
@[simp] theorem State.onCp_bindSeq (f) : (s.onCp f).bindSeq = s.bindSeq := rfl
@[simp] theorem State.onCp_pulses (f) : (s.onCp f).pulses = s.pulses := rfl
@[simp] theorem State.onCp_groups (f) : (s.onCp f).groups = s.groups := rfl
@[simp] theorem State.onCp_tariff (f) : (s.onCp f).tariff = s.tariff := rfl
@[simp] theorem State.onCp_relays (f) : (s.onCp f).relays = s.relays := rfl
@[simp] theorem State.onCp_pq (f) : (s.onCp f).pq = s.pq := rfl
@[simp] theorem State.onCp_events (f) : (s.onCp f).events = s.events := rfl
@[simp] theorem State.onCp_tamper (f) : (s.onCp f).tamper = s.tamper := rfl
@[simp] theorem State.onCp_store (f) : (s.onCp f).store = s.store := rfl
@[simp] theorem State.onCp_security (f) : (s.onCp f).security = s.security := rfl
@[simp] theorem State.onCp_images (f) : (s.onCp f).images = s.images := rfl
@[simp] theorem State.onCp_free (f) : (s.onCp f).free = s.free := rfl

@[simp] theorem State.onTap_pending (f) : (s.onTap f).pending = s.pending := rfl
@[simp] theorem State.onTap_fuses (f) : (s.onTap f).fuses = s.fuses := rfl
@[simp] theorem State.onTap_otp (f) : (s.onTap f).otp = s.otp := rfl
@[simp] theorem State.onTap_power (f) : (s.onTap f).power = s.power := rfl
@[simp] theorem State.onTap_clock (f) : (s.onTap f).clock = s.clock := rfl
@[simp] theorem State.onTap_mode (f) : (s.onTap f).mode = s.mode := rfl
@[simp] theorem State.onTap_cp (f) : (s.onTap f).cp = s.cp := rfl
@[simp] theorem State.onTap_ports (f) : (s.onTap f).ports = s.ports := rfl
@[simp] theorem State.onTap_tap (f) : (s.onTap f).tap = f s.tap := rfl
@[simp] theorem State.onTap_queues (f) : (s.onTap f).queues = s.queues := rfl
@[simp] theorem State.onTap_params (f) : (s.onTap f).params = s.params := rfl
@[simp] theorem State.onTap_channels (f) : (s.onTap f).channels = s.channels := rfl
@[simp] theorem State.onTap_islands (f) : (s.onTap f).islands = s.islands := rfl
@[simp] theorem State.onTap_engine (f) : (s.onTap f).engine = s.engine := rfl
@[simp] theorem State.onTap_q8 (f) : (s.onTap f).q8 = s.q8 := rfl
@[simp] theorem State.onTap_q28 (f) : (s.onTap f).q28 = s.q28 := rfl
@[simp] theorem State.onTap_points (f) : (s.onTap f).points = s.points := rfl
@[simp] theorem State.onTap_bindSeq (f) : (s.onTap f).bindSeq = s.bindSeq := rfl
@[simp] theorem State.onTap_pulses (f) : (s.onTap f).pulses = s.pulses := rfl
@[simp] theorem State.onTap_groups (f) : (s.onTap f).groups = s.groups := rfl
@[simp] theorem State.onTap_tariff (f) : (s.onTap f).tariff = s.tariff := rfl
@[simp] theorem State.onTap_relays (f) : (s.onTap f).relays = s.relays := rfl
@[simp] theorem State.onTap_pq (f) : (s.onTap f).pq = s.pq := rfl
@[simp] theorem State.onTap_events (f) : (s.onTap f).events = s.events := rfl
@[simp] theorem State.onTap_tamper (f) : (s.onTap f).tamper = s.tamper := rfl
@[simp] theorem State.onTap_store (f) : (s.onTap f).store = s.store := rfl
@[simp] theorem State.onTap_security (f) : (s.onTap f).security = s.security := rfl
@[simp] theorem State.onTap_images (f) : (s.onTap f).images = s.images := rfl
@[simp] theorem State.onTap_free (f) : (s.onTap f).free = s.free := rfl

@[simp] theorem State.onOtp_pending (f) : (s.onOtp f).pending = s.pending := rfl
@[simp] theorem State.onOtp_fuses (f) : (s.onOtp f).fuses = s.fuses := rfl
@[simp] theorem State.onOtp_otp (f) : (s.onOtp f).otp = f s.otp := rfl
@[simp] theorem State.onOtp_power (f) : (s.onOtp f).power = s.power := rfl
@[simp] theorem State.onOtp_clock (f) : (s.onOtp f).clock = s.clock := rfl
@[simp] theorem State.onOtp_mode (f) : (s.onOtp f).mode = s.mode := rfl
@[simp] theorem State.onOtp_cp (f) : (s.onOtp f).cp = s.cp := rfl
@[simp] theorem State.onOtp_ports (f) : (s.onOtp f).ports = s.ports := rfl
@[simp] theorem State.onOtp_tap (f) : (s.onOtp f).tap = s.tap := rfl
@[simp] theorem State.onOtp_queues (f) : (s.onOtp f).queues = s.queues := rfl
@[simp] theorem State.onOtp_params (f) : (s.onOtp f).params = s.params := rfl
@[simp] theorem State.onOtp_channels (f) : (s.onOtp f).channels = s.channels := rfl
@[simp] theorem State.onOtp_islands (f) : (s.onOtp f).islands = s.islands := rfl
@[simp] theorem State.onOtp_engine (f) : (s.onOtp f).engine = s.engine := rfl
@[simp] theorem State.onOtp_q8 (f) : (s.onOtp f).q8 = s.q8 := rfl
@[simp] theorem State.onOtp_q28 (f) : (s.onOtp f).q28 = s.q28 := rfl
@[simp] theorem State.onOtp_points (f) : (s.onOtp f).points = s.points := rfl
@[simp] theorem State.onOtp_bindSeq (f) : (s.onOtp f).bindSeq = s.bindSeq := rfl
@[simp] theorem State.onOtp_pulses (f) : (s.onOtp f).pulses = s.pulses := rfl
@[simp] theorem State.onOtp_groups (f) : (s.onOtp f).groups = s.groups := rfl
@[simp] theorem State.onOtp_tariff (f) : (s.onOtp f).tariff = s.tariff := rfl
@[simp] theorem State.onOtp_relays (f) : (s.onOtp f).relays = s.relays := rfl
@[simp] theorem State.onOtp_pq (f) : (s.onOtp f).pq = s.pq := rfl
@[simp] theorem State.onOtp_events (f) : (s.onOtp f).events = s.events := rfl
@[simp] theorem State.onOtp_tamper (f) : (s.onOtp f).tamper = s.tamper := rfl
@[simp] theorem State.onOtp_store (f) : (s.onOtp f).store = s.store := rfl
@[simp] theorem State.onOtp_security (f) : (s.onOtp f).security = s.security := rfl
@[simp] theorem State.onOtp_images (f) : (s.onOtp f).images = s.images := rfl
@[simp] theorem State.onOtp_free (f) : (s.onOtp f).free = s.free := rfl

@[simp] theorem State.onEngine_pending (f) : (s.onEngine f).pending = s.pending := rfl
@[simp] theorem State.onEngine_fuses (f) : (s.onEngine f).fuses = s.fuses := rfl
@[simp] theorem State.onEngine_otp (f) : (s.onEngine f).otp = s.otp := rfl
@[simp] theorem State.onEngine_power (f) : (s.onEngine f).power = s.power := rfl
@[simp] theorem State.onEngine_clock (f) : (s.onEngine f).clock = s.clock := rfl
@[simp] theorem State.onEngine_mode (f) : (s.onEngine f).mode = s.mode := rfl
@[simp] theorem State.onEngine_cp (f) : (s.onEngine f).cp = s.cp := rfl
@[simp] theorem State.onEngine_ports (f) : (s.onEngine f).ports = s.ports := rfl
@[simp] theorem State.onEngine_tap (f) : (s.onEngine f).tap = s.tap := rfl
@[simp] theorem State.onEngine_queues (f) : (s.onEngine f).queues = s.queues := rfl
@[simp] theorem State.onEngine_params (f) : (s.onEngine f).params = s.params := rfl
@[simp] theorem State.onEngine_channels (f) : (s.onEngine f).channels = s.channels := rfl
@[simp] theorem State.onEngine_islands (f) : (s.onEngine f).islands = s.islands := rfl
@[simp] theorem State.onEngine_engine (f) : (s.onEngine f).engine = f s.engine := rfl
@[simp] theorem State.onEngine_q8 (f) : (s.onEngine f).q8 = s.q8 := rfl
@[simp] theorem State.onEngine_q28 (f) : (s.onEngine f).q28 = s.q28 := rfl
@[simp] theorem State.onEngine_points (f) : (s.onEngine f).points = s.points := rfl
@[simp] theorem State.onEngine_bindSeq (f) : (s.onEngine f).bindSeq = s.bindSeq := rfl
@[simp] theorem State.onEngine_pulses (f) : (s.onEngine f).pulses = s.pulses := rfl
@[simp] theorem State.onEngine_groups (f) : (s.onEngine f).groups = s.groups := rfl
@[simp] theorem State.onEngine_tariff (f) : (s.onEngine f).tariff = s.tariff := rfl
@[simp] theorem State.onEngine_relays (f) : (s.onEngine f).relays = s.relays := rfl
@[simp] theorem State.onEngine_pq (f) : (s.onEngine f).pq = s.pq := rfl
@[simp] theorem State.onEngine_events (f) : (s.onEngine f).events = s.events := rfl
@[simp] theorem State.onEngine_tamper (f) : (s.onEngine f).tamper = s.tamper := rfl
@[simp] theorem State.onEngine_store (f) : (s.onEngine f).store = s.store := rfl
@[simp] theorem State.onEngine_security (f) : (s.onEngine f).security = s.security := rfl
@[simp] theorem State.onEngine_images (f) : (s.onEngine f).images = s.images := rfl
@[simp] theorem State.onEngine_free (f) : (s.onEngine f).free = s.free := rfl

@[simp] theorem State.onTariff_pending (f) : (s.onTariff f).pending = s.pending := rfl
@[simp] theorem State.onTariff_fuses (f) : (s.onTariff f).fuses = s.fuses := rfl
@[simp] theorem State.onTariff_otp (f) : (s.onTariff f).otp = s.otp := rfl
@[simp] theorem State.onTariff_power (f) : (s.onTariff f).power = s.power := rfl
@[simp] theorem State.onTariff_clock (f) : (s.onTariff f).clock = s.clock := rfl
@[simp] theorem State.onTariff_mode (f) : (s.onTariff f).mode = s.mode := rfl
@[simp] theorem State.onTariff_cp (f) : (s.onTariff f).cp = s.cp := rfl
@[simp] theorem State.onTariff_ports (f) : (s.onTariff f).ports = s.ports := rfl
@[simp] theorem State.onTariff_tap (f) : (s.onTariff f).tap = s.tap := rfl
@[simp] theorem State.onTariff_queues (f) : (s.onTariff f).queues = s.queues := rfl
@[simp] theorem State.onTariff_params (f) : (s.onTariff f).params = s.params := rfl
@[simp] theorem State.onTariff_channels (f) : (s.onTariff f).channels = s.channels := rfl
@[simp] theorem State.onTariff_islands (f) : (s.onTariff f).islands = s.islands := rfl
@[simp] theorem State.onTariff_engine (f) : (s.onTariff f).engine = s.engine := rfl
@[simp] theorem State.onTariff_q8 (f) : (s.onTariff f).q8 = s.q8 := rfl
@[simp] theorem State.onTariff_q28 (f) : (s.onTariff f).q28 = s.q28 := rfl
@[simp] theorem State.onTariff_points (f) : (s.onTariff f).points = s.points := rfl
@[simp] theorem State.onTariff_bindSeq (f) : (s.onTariff f).bindSeq = s.bindSeq := rfl
@[simp] theorem State.onTariff_pulses (f) : (s.onTariff f).pulses = s.pulses := rfl
@[simp] theorem State.onTariff_groups (f) : (s.onTariff f).groups = s.groups := rfl
@[simp] theorem State.onTariff_tariff (f) : (s.onTariff f).tariff = f s.tariff := rfl
@[simp] theorem State.onTariff_relays (f) : (s.onTariff f).relays = s.relays := rfl
@[simp] theorem State.onTariff_pq (f) : (s.onTariff f).pq = s.pq := rfl
@[simp] theorem State.onTariff_events (f) : (s.onTariff f).events = s.events := rfl
@[simp] theorem State.onTariff_tamper (f) : (s.onTariff f).tamper = s.tamper := rfl
@[simp] theorem State.onTariff_store (f) : (s.onTariff f).store = s.store := rfl
@[simp] theorem State.onTariff_security (f) : (s.onTariff f).security = s.security := rfl
@[simp] theorem State.onTariff_images (f) : (s.onTariff f).images = s.images := rfl
@[simp] theorem State.onTariff_free (f) : (s.onTariff f).free = s.free := rfl

@[simp] theorem State.onRelays_pending (f) : (s.onRelays f).pending = s.pending := rfl
@[simp] theorem State.onRelays_fuses (f) : (s.onRelays f).fuses = s.fuses := rfl
@[simp] theorem State.onRelays_otp (f) : (s.onRelays f).otp = s.otp := rfl
@[simp] theorem State.onRelays_power (f) : (s.onRelays f).power = s.power := rfl
@[simp] theorem State.onRelays_clock (f) : (s.onRelays f).clock = s.clock := rfl
@[simp] theorem State.onRelays_mode (f) : (s.onRelays f).mode = s.mode := rfl
@[simp] theorem State.onRelays_cp (f) : (s.onRelays f).cp = s.cp := rfl
@[simp] theorem State.onRelays_ports (f) : (s.onRelays f).ports = s.ports := rfl
@[simp] theorem State.onRelays_tap (f) : (s.onRelays f).tap = s.tap := rfl
@[simp] theorem State.onRelays_queues (f) : (s.onRelays f).queues = s.queues := rfl
@[simp] theorem State.onRelays_params (f) : (s.onRelays f).params = s.params := rfl
@[simp] theorem State.onRelays_channels (f) : (s.onRelays f).channels = s.channels := rfl
@[simp] theorem State.onRelays_islands (f) : (s.onRelays f).islands = s.islands := rfl
@[simp] theorem State.onRelays_engine (f) : (s.onRelays f).engine = s.engine := rfl
@[simp] theorem State.onRelays_q8 (f) : (s.onRelays f).q8 = s.q8 := rfl
@[simp] theorem State.onRelays_q28 (f) : (s.onRelays f).q28 = s.q28 := rfl
@[simp] theorem State.onRelays_points (f) : (s.onRelays f).points = s.points := rfl
@[simp] theorem State.onRelays_bindSeq (f) : (s.onRelays f).bindSeq = s.bindSeq := rfl
@[simp] theorem State.onRelays_pulses (f) : (s.onRelays f).pulses = s.pulses := rfl
@[simp] theorem State.onRelays_groups (f) : (s.onRelays f).groups = s.groups := rfl
@[simp] theorem State.onRelays_tariff (f) : (s.onRelays f).tariff = s.tariff := rfl
@[simp] theorem State.onRelays_relays (f) : (s.onRelays f).relays = f s.relays := rfl
@[simp] theorem State.onRelays_pq (f) : (s.onRelays f).pq = s.pq := rfl
@[simp] theorem State.onRelays_events (f) : (s.onRelays f).events = s.events := rfl
@[simp] theorem State.onRelays_tamper (f) : (s.onRelays f).tamper = s.tamper := rfl
@[simp] theorem State.onRelays_store (f) : (s.onRelays f).store = s.store := rfl
@[simp] theorem State.onRelays_security (f) : (s.onRelays f).security = s.security := rfl
@[simp] theorem State.onRelays_images (f) : (s.onRelays f).images = s.images := rfl
@[simp] theorem State.onRelays_free (f) : (s.onRelays f).free = s.free := rfl

@[simp] theorem State.onPq_pending (f) : (s.onPq f).pending = s.pending := rfl
@[simp] theorem State.onPq_fuses (f) : (s.onPq f).fuses = s.fuses := rfl
@[simp] theorem State.onPq_otp (f) : (s.onPq f).otp = s.otp := rfl
@[simp] theorem State.onPq_power (f) : (s.onPq f).power = s.power := rfl
@[simp] theorem State.onPq_clock (f) : (s.onPq f).clock = s.clock := rfl
@[simp] theorem State.onPq_mode (f) : (s.onPq f).mode = s.mode := rfl
@[simp] theorem State.onPq_cp (f) : (s.onPq f).cp = s.cp := rfl
@[simp] theorem State.onPq_ports (f) : (s.onPq f).ports = s.ports := rfl
@[simp] theorem State.onPq_tap (f) : (s.onPq f).tap = s.tap := rfl
@[simp] theorem State.onPq_queues (f) : (s.onPq f).queues = s.queues := rfl
@[simp] theorem State.onPq_params (f) : (s.onPq f).params = s.params := rfl
@[simp] theorem State.onPq_channels (f) : (s.onPq f).channels = s.channels := rfl
@[simp] theorem State.onPq_islands (f) : (s.onPq f).islands = s.islands := rfl
@[simp] theorem State.onPq_engine (f) : (s.onPq f).engine = s.engine := rfl
@[simp] theorem State.onPq_q8 (f) : (s.onPq f).q8 = s.q8 := rfl
@[simp] theorem State.onPq_q28 (f) : (s.onPq f).q28 = s.q28 := rfl
@[simp] theorem State.onPq_points (f) : (s.onPq f).points = s.points := rfl
@[simp] theorem State.onPq_bindSeq (f) : (s.onPq f).bindSeq = s.bindSeq := rfl
@[simp] theorem State.onPq_pulses (f) : (s.onPq f).pulses = s.pulses := rfl
@[simp] theorem State.onPq_groups (f) : (s.onPq f).groups = s.groups := rfl
@[simp] theorem State.onPq_tariff (f) : (s.onPq f).tariff = s.tariff := rfl
@[simp] theorem State.onPq_relays (f) : (s.onPq f).relays = s.relays := rfl
@[simp] theorem State.onPq_pq (f) : (s.onPq f).pq = f s.pq := rfl
@[simp] theorem State.onPq_events (f) : (s.onPq f).events = s.events := rfl
@[simp] theorem State.onPq_tamper (f) : (s.onPq f).tamper = s.tamper := rfl
@[simp] theorem State.onPq_store (f) : (s.onPq f).store = s.store := rfl
@[simp] theorem State.onPq_security (f) : (s.onPq f).security = s.security := rfl
@[simp] theorem State.onPq_images (f) : (s.onPq f).images = s.images := rfl
@[simp] theorem State.onPq_free (f) : (s.onPq f).free = s.free := rfl

@[simp] theorem State.onEvents_pending (f) : (s.onEvents f).pending = s.pending := rfl
@[simp] theorem State.onEvents_fuses (f) : (s.onEvents f).fuses = s.fuses := rfl
@[simp] theorem State.onEvents_otp (f) : (s.onEvents f).otp = s.otp := rfl
@[simp] theorem State.onEvents_power (f) : (s.onEvents f).power = s.power := rfl
@[simp] theorem State.onEvents_clock (f) : (s.onEvents f).clock = s.clock := rfl
@[simp] theorem State.onEvents_mode (f) : (s.onEvents f).mode = s.mode := rfl
@[simp] theorem State.onEvents_cp (f) : (s.onEvents f).cp = s.cp := rfl
@[simp] theorem State.onEvents_ports (f) : (s.onEvents f).ports = s.ports := rfl
@[simp] theorem State.onEvents_tap (f) : (s.onEvents f).tap = s.tap := rfl
@[simp] theorem State.onEvents_queues (f) : (s.onEvents f).queues = s.queues := rfl
@[simp] theorem State.onEvents_params (f) : (s.onEvents f).params = s.params := rfl
@[simp] theorem State.onEvents_channels (f) : (s.onEvents f).channels = s.channels := rfl
@[simp] theorem State.onEvents_islands (f) : (s.onEvents f).islands = s.islands := rfl
@[simp] theorem State.onEvents_engine (f) : (s.onEvents f).engine = s.engine := rfl
@[simp] theorem State.onEvents_q8 (f) : (s.onEvents f).q8 = s.q8 := rfl
@[simp] theorem State.onEvents_q28 (f) : (s.onEvents f).q28 = s.q28 := rfl
@[simp] theorem State.onEvents_points (f) : (s.onEvents f).points = s.points := rfl
@[simp] theorem State.onEvents_bindSeq (f) : (s.onEvents f).bindSeq = s.bindSeq := rfl
@[simp] theorem State.onEvents_pulses (f) : (s.onEvents f).pulses = s.pulses := rfl
@[simp] theorem State.onEvents_groups (f) : (s.onEvents f).groups = s.groups := rfl
@[simp] theorem State.onEvents_tariff (f) : (s.onEvents f).tariff = s.tariff := rfl
@[simp] theorem State.onEvents_relays (f) : (s.onEvents f).relays = s.relays := rfl
@[simp] theorem State.onEvents_pq (f) : (s.onEvents f).pq = s.pq := rfl
@[simp] theorem State.onEvents_events (f) : (s.onEvents f).events = f s.events := rfl
@[simp] theorem State.onEvents_tamper (f) : (s.onEvents f).tamper = s.tamper := rfl
@[simp] theorem State.onEvents_store (f) : (s.onEvents f).store = s.store := rfl
@[simp] theorem State.onEvents_security (f) : (s.onEvents f).security = s.security := rfl
@[simp] theorem State.onEvents_images (f) : (s.onEvents f).images = s.images := rfl
@[simp] theorem State.onEvents_free (f) : (s.onEvents f).free = s.free := rfl

@[simp] theorem State.onTamper_pending (f) : (s.onTamper f).pending = s.pending := rfl
@[simp] theorem State.onTamper_fuses (f) : (s.onTamper f).fuses = s.fuses := rfl
@[simp] theorem State.onTamper_otp (f) : (s.onTamper f).otp = s.otp := rfl
@[simp] theorem State.onTamper_power (f) : (s.onTamper f).power = s.power := rfl
@[simp] theorem State.onTamper_clock (f) : (s.onTamper f).clock = s.clock := rfl
@[simp] theorem State.onTamper_mode (f) : (s.onTamper f).mode = s.mode := rfl
@[simp] theorem State.onTamper_cp (f) : (s.onTamper f).cp = s.cp := rfl
@[simp] theorem State.onTamper_ports (f) : (s.onTamper f).ports = s.ports := rfl
@[simp] theorem State.onTamper_tap (f) : (s.onTamper f).tap = s.tap := rfl
@[simp] theorem State.onTamper_queues (f) : (s.onTamper f).queues = s.queues := rfl
@[simp] theorem State.onTamper_params (f) : (s.onTamper f).params = s.params := rfl
@[simp] theorem State.onTamper_channels (f) : (s.onTamper f).channels = s.channels := rfl
@[simp] theorem State.onTamper_islands (f) : (s.onTamper f).islands = s.islands := rfl
@[simp] theorem State.onTamper_engine (f) : (s.onTamper f).engine = s.engine := rfl
@[simp] theorem State.onTamper_q8 (f) : (s.onTamper f).q8 = s.q8 := rfl
@[simp] theorem State.onTamper_q28 (f) : (s.onTamper f).q28 = s.q28 := rfl
@[simp] theorem State.onTamper_points (f) : (s.onTamper f).points = s.points := rfl
@[simp] theorem State.onTamper_bindSeq (f) : (s.onTamper f).bindSeq = s.bindSeq := rfl
@[simp] theorem State.onTamper_pulses (f) : (s.onTamper f).pulses = s.pulses := rfl
@[simp] theorem State.onTamper_groups (f) : (s.onTamper f).groups = s.groups := rfl
@[simp] theorem State.onTamper_tariff (f) : (s.onTamper f).tariff = s.tariff := rfl
@[simp] theorem State.onTamper_relays (f) : (s.onTamper f).relays = s.relays := rfl
@[simp] theorem State.onTamper_pq (f) : (s.onTamper f).pq = s.pq := rfl
@[simp] theorem State.onTamper_events (f) : (s.onTamper f).events = s.events := rfl
@[simp] theorem State.onTamper_tamper (f) : (s.onTamper f).tamper = f s.tamper := rfl
@[simp] theorem State.onTamper_store (f) : (s.onTamper f).store = s.store := rfl
@[simp] theorem State.onTamper_security (f) : (s.onTamper f).security = s.security := rfl
@[simp] theorem State.onTamper_images (f) : (s.onTamper f).images = s.images := rfl
@[simp] theorem State.onTamper_free (f) : (s.onTamper f).free = s.free := rfl

@[simp] theorem State.onStore_pending (f) : (s.onStore f).pending = s.pending := rfl
@[simp] theorem State.onStore_fuses (f) : (s.onStore f).fuses = s.fuses := rfl
@[simp] theorem State.onStore_otp (f) : (s.onStore f).otp = s.otp := rfl
@[simp] theorem State.onStore_power (f) : (s.onStore f).power = s.power := rfl
@[simp] theorem State.onStore_clock (f) : (s.onStore f).clock = s.clock := rfl
@[simp] theorem State.onStore_mode (f) : (s.onStore f).mode = s.mode := rfl
@[simp] theorem State.onStore_cp (f) : (s.onStore f).cp = s.cp := rfl
@[simp] theorem State.onStore_ports (f) : (s.onStore f).ports = s.ports := rfl
@[simp] theorem State.onStore_tap (f) : (s.onStore f).tap = s.tap := rfl
@[simp] theorem State.onStore_queues (f) : (s.onStore f).queues = s.queues := rfl
@[simp] theorem State.onStore_params (f) : (s.onStore f).params = s.params := rfl
@[simp] theorem State.onStore_channels (f) : (s.onStore f).channels = s.channels := rfl
@[simp] theorem State.onStore_islands (f) : (s.onStore f).islands = s.islands := rfl
@[simp] theorem State.onStore_engine (f) : (s.onStore f).engine = s.engine := rfl
@[simp] theorem State.onStore_q8 (f) : (s.onStore f).q8 = s.q8 := rfl
@[simp] theorem State.onStore_q28 (f) : (s.onStore f).q28 = s.q28 := rfl
@[simp] theorem State.onStore_points (f) : (s.onStore f).points = s.points := rfl
@[simp] theorem State.onStore_bindSeq (f) : (s.onStore f).bindSeq = s.bindSeq := rfl
@[simp] theorem State.onStore_pulses (f) : (s.onStore f).pulses = s.pulses := rfl
@[simp] theorem State.onStore_groups (f) : (s.onStore f).groups = s.groups := rfl
@[simp] theorem State.onStore_tariff (f) : (s.onStore f).tariff = s.tariff := rfl
@[simp] theorem State.onStore_relays (f) : (s.onStore f).relays = s.relays := rfl
@[simp] theorem State.onStore_pq (f) : (s.onStore f).pq = s.pq := rfl
@[simp] theorem State.onStore_events (f) : (s.onStore f).events = s.events := rfl
@[simp] theorem State.onStore_tamper (f) : (s.onStore f).tamper = s.tamper := rfl
@[simp] theorem State.onStore_store (f) : (s.onStore f).store = f s.store := rfl
@[simp] theorem State.onStore_security (f) : (s.onStore f).security = s.security := rfl
@[simp] theorem State.onStore_images (f) : (s.onStore f).images = s.images := rfl
@[simp] theorem State.onStore_free (f) : (s.onStore f).free = s.free := rfl

@[simp] theorem State.onSec_pending (f) : (s.onSec f).pending = s.pending := rfl
@[simp] theorem State.onSec_fuses (f) : (s.onSec f).fuses = s.fuses := rfl
@[simp] theorem State.onSec_otp (f) : (s.onSec f).otp = s.otp := rfl
@[simp] theorem State.onSec_power (f) : (s.onSec f).power = s.power := rfl
@[simp] theorem State.onSec_clock (f) : (s.onSec f).clock = s.clock := rfl
@[simp] theorem State.onSec_mode (f) : (s.onSec f).mode = s.mode := rfl
@[simp] theorem State.onSec_cp (f) : (s.onSec f).cp = s.cp := rfl
@[simp] theorem State.onSec_ports (f) : (s.onSec f).ports = s.ports := rfl
@[simp] theorem State.onSec_tap (f) : (s.onSec f).tap = s.tap := rfl
@[simp] theorem State.onSec_queues (f) : (s.onSec f).queues = s.queues := rfl
@[simp] theorem State.onSec_params (f) : (s.onSec f).params = s.params := rfl
@[simp] theorem State.onSec_channels (f) : (s.onSec f).channels = s.channels := rfl
@[simp] theorem State.onSec_islands (f) : (s.onSec f).islands = s.islands := rfl
@[simp] theorem State.onSec_engine (f) : (s.onSec f).engine = s.engine := rfl
@[simp] theorem State.onSec_q8 (f) : (s.onSec f).q8 = s.q8 := rfl
@[simp] theorem State.onSec_q28 (f) : (s.onSec f).q28 = s.q28 := rfl
@[simp] theorem State.onSec_points (f) : (s.onSec f).points = s.points := rfl
@[simp] theorem State.onSec_bindSeq (f) : (s.onSec f).bindSeq = s.bindSeq := rfl
@[simp] theorem State.onSec_pulses (f) : (s.onSec f).pulses = s.pulses := rfl
@[simp] theorem State.onSec_groups (f) : (s.onSec f).groups = s.groups := rfl
@[simp] theorem State.onSec_tariff (f) : (s.onSec f).tariff = s.tariff := rfl
@[simp] theorem State.onSec_relays (f) : (s.onSec f).relays = s.relays := rfl
@[simp] theorem State.onSec_pq (f) : (s.onSec f).pq = s.pq := rfl
@[simp] theorem State.onSec_events (f) : (s.onSec f).events = s.events := rfl
@[simp] theorem State.onSec_tamper (f) : (s.onSec f).tamper = s.tamper := rfl
@[simp] theorem State.onSec_store (f) : (s.onSec f).store = s.store := rfl
@[simp] theorem State.onSec_security (f) : (s.onSec f).security = f s.security := rfl
@[simp] theorem State.onSec_images (f) : (s.onSec f).images = s.images := rfl
@[simp] theorem State.onSec_free (f) : (s.onSec f).free = s.free := rfl

@[simp] theorem State.onImages_pending (f) : (s.onImages f).pending = s.pending := rfl
@[simp] theorem State.onImages_fuses (f) : (s.onImages f).fuses = s.fuses := rfl
@[simp] theorem State.onImages_otp (f) : (s.onImages f).otp = s.otp := rfl
@[simp] theorem State.onImages_power (f) : (s.onImages f).power = s.power := rfl
@[simp] theorem State.onImages_clock (f) : (s.onImages f).clock = s.clock := rfl
@[simp] theorem State.onImages_mode (f) : (s.onImages f).mode = s.mode := rfl
@[simp] theorem State.onImages_cp (f) : (s.onImages f).cp = s.cp := rfl
@[simp] theorem State.onImages_ports (f) : (s.onImages f).ports = s.ports := rfl
@[simp] theorem State.onImages_tap (f) : (s.onImages f).tap = s.tap := rfl
@[simp] theorem State.onImages_queues (f) : (s.onImages f).queues = s.queues := rfl
@[simp] theorem State.onImages_params (f) : (s.onImages f).params = s.params := rfl
@[simp] theorem State.onImages_channels (f) : (s.onImages f).channels = s.channels := rfl
@[simp] theorem State.onImages_islands (f) : (s.onImages f).islands = s.islands := rfl
@[simp] theorem State.onImages_engine (f) : (s.onImages f).engine = s.engine := rfl
@[simp] theorem State.onImages_q8 (f) : (s.onImages f).q8 = s.q8 := rfl
@[simp] theorem State.onImages_q28 (f) : (s.onImages f).q28 = s.q28 := rfl
@[simp] theorem State.onImages_points (f) : (s.onImages f).points = s.points := rfl
@[simp] theorem State.onImages_bindSeq (f) : (s.onImages f).bindSeq = s.bindSeq := rfl
@[simp] theorem State.onImages_pulses (f) : (s.onImages f).pulses = s.pulses := rfl
@[simp] theorem State.onImages_groups (f) : (s.onImages f).groups = s.groups := rfl
@[simp] theorem State.onImages_tariff (f) : (s.onImages f).tariff = s.tariff := rfl
@[simp] theorem State.onImages_relays (f) : (s.onImages f).relays = s.relays := rfl
@[simp] theorem State.onImages_pq (f) : (s.onImages f).pq = s.pq := rfl
@[simp] theorem State.onImages_events (f) : (s.onImages f).events = s.events := rfl
@[simp] theorem State.onImages_tamper (f) : (s.onImages f).tamper = s.tamper := rfl
@[simp] theorem State.onImages_store (f) : (s.onImages f).store = s.store := rfl
@[simp] theorem State.onImages_security (f) : (s.onImages f).security = s.security := rfl
@[simp] theorem State.onImages_images (f) : (s.onImages f).images = f s.images := rfl
@[simp] theorem State.onImages_free (f) : (s.onImages f).free = s.free := rfl

@[simp] theorem State.onQ8_pending (f) : (s.onQ8 f).pending = s.pending := rfl
@[simp] theorem State.onQ8_fuses (f) : (s.onQ8 f).fuses = s.fuses := rfl
@[simp] theorem State.onQ8_otp (f) : (s.onQ8 f).otp = s.otp := rfl
@[simp] theorem State.onQ8_power (f) : (s.onQ8 f).power = s.power := rfl
@[simp] theorem State.onQ8_clock (f) : (s.onQ8 f).clock = s.clock := rfl
@[simp] theorem State.onQ8_mode (f) : (s.onQ8 f).mode = s.mode := rfl
@[simp] theorem State.onQ8_cp (f) : (s.onQ8 f).cp = s.cp := rfl
@[simp] theorem State.onQ8_ports (f) : (s.onQ8 f).ports = s.ports := rfl
@[simp] theorem State.onQ8_tap (f) : (s.onQ8 f).tap = s.tap := rfl
@[simp] theorem State.onQ8_queues (f) : (s.onQ8 f).queues = s.queues := rfl
@[simp] theorem State.onQ8_params (f) : (s.onQ8 f).params = s.params := rfl
@[simp] theorem State.onQ8_channels (f) : (s.onQ8 f).channels = s.channels := rfl
@[simp] theorem State.onQ8_islands (f) : (s.onQ8 f).islands = s.islands := rfl
@[simp] theorem State.onQ8_engine (f) : (s.onQ8 f).engine = s.engine := rfl
@[simp] theorem State.onQ8_q8 (f) : (s.onQ8 f).q8 = f s.q8 := rfl
@[simp] theorem State.onQ8_q28 (f) : (s.onQ8 f).q28 = s.q28 := rfl
@[simp] theorem State.onQ8_points (f) : (s.onQ8 f).points = s.points := rfl
@[simp] theorem State.onQ8_bindSeq (f) : (s.onQ8 f).bindSeq = s.bindSeq := rfl
@[simp] theorem State.onQ8_pulses (f) : (s.onQ8 f).pulses = s.pulses := rfl
@[simp] theorem State.onQ8_groups (f) : (s.onQ8 f).groups = s.groups := rfl
@[simp] theorem State.onQ8_tariff (f) : (s.onQ8 f).tariff = s.tariff := rfl
@[simp] theorem State.onQ8_relays (f) : (s.onQ8 f).relays = s.relays := rfl
@[simp] theorem State.onQ8_pq (f) : (s.onQ8 f).pq = s.pq := rfl
@[simp] theorem State.onQ8_events (f) : (s.onQ8 f).events = s.events := rfl
@[simp] theorem State.onQ8_tamper (f) : (s.onQ8 f).tamper = s.tamper := rfl
@[simp] theorem State.onQ8_store (f) : (s.onQ8 f).store = s.store := rfl
@[simp] theorem State.onQ8_security (f) : (s.onQ8 f).security = s.security := rfl
@[simp] theorem State.onQ8_images (f) : (s.onQ8 f).images = s.images := rfl
@[simp] theorem State.onQ8_free (f) : (s.onQ8 f).free = s.free := rfl

@[simp] theorem State.onQ28_pending (f) : (s.onQ28 f).pending = s.pending := rfl
@[simp] theorem State.onQ28_fuses (f) : (s.onQ28 f).fuses = s.fuses := rfl
@[simp] theorem State.onQ28_otp (f) : (s.onQ28 f).otp = s.otp := rfl
@[simp] theorem State.onQ28_power (f) : (s.onQ28 f).power = s.power := rfl
@[simp] theorem State.onQ28_clock (f) : (s.onQ28 f).clock = s.clock := rfl
@[simp] theorem State.onQ28_mode (f) : (s.onQ28 f).mode = s.mode := rfl
@[simp] theorem State.onQ28_cp (f) : (s.onQ28 f).cp = s.cp := rfl
@[simp] theorem State.onQ28_ports (f) : (s.onQ28 f).ports = s.ports := rfl
@[simp] theorem State.onQ28_tap (f) : (s.onQ28 f).tap = s.tap := rfl
@[simp] theorem State.onQ28_queues (f) : (s.onQ28 f).queues = s.queues := rfl
@[simp] theorem State.onQ28_params (f) : (s.onQ28 f).params = s.params := rfl
@[simp] theorem State.onQ28_channels (f) : (s.onQ28 f).channels = s.channels := rfl
@[simp] theorem State.onQ28_islands (f) : (s.onQ28 f).islands = s.islands := rfl
@[simp] theorem State.onQ28_engine (f) : (s.onQ28 f).engine = s.engine := rfl
@[simp] theorem State.onQ28_q8 (f) : (s.onQ28 f).q8 = s.q8 := rfl
@[simp] theorem State.onQ28_q28 (f) : (s.onQ28 f).q28 = f s.q28 := rfl
@[simp] theorem State.onQ28_points (f) : (s.onQ28 f).points = s.points := rfl
@[simp] theorem State.onQ28_bindSeq (f) : (s.onQ28 f).bindSeq = s.bindSeq := rfl
@[simp] theorem State.onQ28_pulses (f) : (s.onQ28 f).pulses = s.pulses := rfl
@[simp] theorem State.onQ28_groups (f) : (s.onQ28 f).groups = s.groups := rfl
@[simp] theorem State.onQ28_tariff (f) : (s.onQ28 f).tariff = s.tariff := rfl
@[simp] theorem State.onQ28_relays (f) : (s.onQ28 f).relays = s.relays := rfl
@[simp] theorem State.onQ28_pq (f) : (s.onQ28 f).pq = s.pq := rfl
@[simp] theorem State.onQ28_events (f) : (s.onQ28 f).events = s.events := rfl
@[simp] theorem State.onQ28_tamper (f) : (s.onQ28 f).tamper = s.tamper := rfl
@[simp] theorem State.onQ28_store (f) : (s.onQ28 f).store = s.store := rfl
@[simp] theorem State.onQ28_security (f) : (s.onQ28 f).security = s.security := rfl
@[simp] theorem State.onQ28_images (f) : (s.onQ28 f).images = s.images := rfl
@[simp] theorem State.onQ28_free (f) : (s.onQ28 f).free = s.free := rfl

@[simp] theorem State.onPort_pending (i) (f) : (s.onPort i f).pending = s.pending := rfl
@[simp] theorem State.onPort_fuses (i) (f) : (s.onPort i f).fuses = s.fuses := rfl
@[simp] theorem State.onPort_otp (i) (f) : (s.onPort i f).otp = s.otp := rfl
@[simp] theorem State.onPort_power (i) (f) : (s.onPort i f).power = s.power := rfl
@[simp] theorem State.onPort_clock (i) (f) : (s.onPort i f).clock = s.clock := rfl
@[simp] theorem State.onPort_mode (i) (f) : (s.onPort i f).mode = s.mode := rfl
@[simp] theorem State.onPort_cp (i) (f) : (s.onPort i f).cp = s.cp := rfl
@[simp] theorem State.onPort_ports (i) (f) : (s.onPort i f).ports = upd s.ports i f := rfl
@[simp] theorem State.onPort_tap (i) (f) : (s.onPort i f).tap = s.tap := rfl
@[simp] theorem State.onPort_queues (i) (f) : (s.onPort i f).queues = s.queues := rfl
@[simp] theorem State.onPort_params (i) (f) : (s.onPort i f).params = s.params := rfl
@[simp] theorem State.onPort_channels (i) (f) : (s.onPort i f).channels = s.channels := rfl
@[simp] theorem State.onPort_islands (i) (f) : (s.onPort i f).islands = s.islands := rfl
@[simp] theorem State.onPort_engine (i) (f) : (s.onPort i f).engine = s.engine := rfl
@[simp] theorem State.onPort_q8 (i) (f) : (s.onPort i f).q8 = s.q8 := rfl
@[simp] theorem State.onPort_q28 (i) (f) : (s.onPort i f).q28 = s.q28 := rfl
@[simp] theorem State.onPort_points (i) (f) : (s.onPort i f).points = s.points := rfl
@[simp] theorem State.onPort_bindSeq (i) (f) : (s.onPort i f).bindSeq = s.bindSeq := rfl
@[simp] theorem State.onPort_pulses (i) (f) : (s.onPort i f).pulses = s.pulses := rfl
@[simp] theorem State.onPort_groups (i) (f) : (s.onPort i f).groups = s.groups := rfl
@[simp] theorem State.onPort_tariff (i) (f) : (s.onPort i f).tariff = s.tariff := rfl
@[simp] theorem State.onPort_relays (i) (f) : (s.onPort i f).relays = s.relays := rfl
@[simp] theorem State.onPort_pq (i) (f) : (s.onPort i f).pq = s.pq := rfl
@[simp] theorem State.onPort_events (i) (f) : (s.onPort i f).events = s.events := rfl
@[simp] theorem State.onPort_tamper (i) (f) : (s.onPort i f).tamper = s.tamper := rfl
@[simp] theorem State.onPort_store (i) (f) : (s.onPort i f).store = s.store := rfl
@[simp] theorem State.onPort_security (i) (f) : (s.onPort i f).security = s.security := rfl
@[simp] theorem State.onPort_images (i) (f) : (s.onPort i f).images = s.images := rfl
@[simp] theorem State.onPort_free (i) (f) : (s.onPort i f).free = s.free := rfl

@[simp] theorem State.onQueue_pending (i) (f) : (s.onQueue i f).pending = s.pending := rfl
@[simp] theorem State.onQueue_fuses (i) (f) : (s.onQueue i f).fuses = s.fuses := rfl
@[simp] theorem State.onQueue_otp (i) (f) : (s.onQueue i f).otp = s.otp := rfl
@[simp] theorem State.onQueue_power (i) (f) : (s.onQueue i f).power = s.power := rfl
@[simp] theorem State.onQueue_clock (i) (f) : (s.onQueue i f).clock = s.clock := rfl
@[simp] theorem State.onQueue_mode (i) (f) : (s.onQueue i f).mode = s.mode := rfl
@[simp] theorem State.onQueue_cp (i) (f) : (s.onQueue i f).cp = s.cp := rfl
@[simp] theorem State.onQueue_ports (i) (f) : (s.onQueue i f).ports = s.ports := rfl
@[simp] theorem State.onQueue_tap (i) (f) : (s.onQueue i f).tap = s.tap := rfl
@[simp] theorem State.onQueue_queues (i) (f) : (s.onQueue i f).queues = upd s.queues i f := rfl
@[simp] theorem State.onQueue_params (i) (f) : (s.onQueue i f).params = s.params := rfl
@[simp] theorem State.onQueue_channels (i) (f) : (s.onQueue i f).channels = s.channels := rfl
@[simp] theorem State.onQueue_islands (i) (f) : (s.onQueue i f).islands = s.islands := rfl
@[simp] theorem State.onQueue_engine (i) (f) : (s.onQueue i f).engine = s.engine := rfl
@[simp] theorem State.onQueue_q8 (i) (f) : (s.onQueue i f).q8 = s.q8 := rfl
@[simp] theorem State.onQueue_q28 (i) (f) : (s.onQueue i f).q28 = s.q28 := rfl
@[simp] theorem State.onQueue_points (i) (f) : (s.onQueue i f).points = s.points := rfl
@[simp] theorem State.onQueue_bindSeq (i) (f) : (s.onQueue i f).bindSeq = s.bindSeq := rfl
@[simp] theorem State.onQueue_pulses (i) (f) : (s.onQueue i f).pulses = s.pulses := rfl
@[simp] theorem State.onQueue_groups (i) (f) : (s.onQueue i f).groups = s.groups := rfl
@[simp] theorem State.onQueue_tariff (i) (f) : (s.onQueue i f).tariff = s.tariff := rfl
@[simp] theorem State.onQueue_relays (i) (f) : (s.onQueue i f).relays = s.relays := rfl
@[simp] theorem State.onQueue_pq (i) (f) : (s.onQueue i f).pq = s.pq := rfl
@[simp] theorem State.onQueue_events (i) (f) : (s.onQueue i f).events = s.events := rfl
@[simp] theorem State.onQueue_tamper (i) (f) : (s.onQueue i f).tamper = s.tamper := rfl
@[simp] theorem State.onQueue_store (i) (f) : (s.onQueue i f).store = s.store := rfl
@[simp] theorem State.onQueue_security (i) (f) : (s.onQueue i f).security = s.security := rfl
@[simp] theorem State.onQueue_images (i) (f) : (s.onQueue i f).images = s.images := rfl
@[simp] theorem State.onQueue_free (i) (f) : (s.onQueue i f).free = s.free := rfl

@[simp] theorem State.onChan_pending (i) (f) : (s.onChan i f).pending = s.pending := rfl
@[simp] theorem State.onChan_fuses (i) (f) : (s.onChan i f).fuses = s.fuses := rfl
@[simp] theorem State.onChan_otp (i) (f) : (s.onChan i f).otp = s.otp := rfl
@[simp] theorem State.onChan_power (i) (f) : (s.onChan i f).power = s.power := rfl
@[simp] theorem State.onChan_clock (i) (f) : (s.onChan i f).clock = s.clock := rfl
@[simp] theorem State.onChan_mode (i) (f) : (s.onChan i f).mode = s.mode := rfl
@[simp] theorem State.onChan_cp (i) (f) : (s.onChan i f).cp = s.cp := rfl
@[simp] theorem State.onChan_ports (i) (f) : (s.onChan i f).ports = s.ports := rfl
@[simp] theorem State.onChan_tap (i) (f) : (s.onChan i f).tap = s.tap := rfl
@[simp] theorem State.onChan_queues (i) (f) : (s.onChan i f).queues = s.queues := rfl
@[simp] theorem State.onChan_params (i) (f) : (s.onChan i f).params = s.params := rfl
@[simp] theorem State.onChan_channels (i) (f) : (s.onChan i f).channels = upd s.channels i f := rfl
@[simp] theorem State.onChan_islands (i) (f) : (s.onChan i f).islands = s.islands := rfl
@[simp] theorem State.onChan_engine (i) (f) : (s.onChan i f).engine = s.engine := rfl
@[simp] theorem State.onChan_q8 (i) (f) : (s.onChan i f).q8 = s.q8 := rfl
@[simp] theorem State.onChan_q28 (i) (f) : (s.onChan i f).q28 = s.q28 := rfl
@[simp] theorem State.onChan_points (i) (f) : (s.onChan i f).points = s.points := rfl
@[simp] theorem State.onChan_bindSeq (i) (f) : (s.onChan i f).bindSeq = s.bindSeq := rfl
@[simp] theorem State.onChan_pulses (i) (f) : (s.onChan i f).pulses = s.pulses := rfl
@[simp] theorem State.onChan_groups (i) (f) : (s.onChan i f).groups = s.groups := rfl
@[simp] theorem State.onChan_tariff (i) (f) : (s.onChan i f).tariff = s.tariff := rfl
@[simp] theorem State.onChan_relays (i) (f) : (s.onChan i f).relays = s.relays := rfl
@[simp] theorem State.onChan_pq (i) (f) : (s.onChan i f).pq = s.pq := rfl
@[simp] theorem State.onChan_events (i) (f) : (s.onChan i f).events = s.events := rfl
@[simp] theorem State.onChan_tamper (i) (f) : (s.onChan i f).tamper = s.tamper := rfl
@[simp] theorem State.onChan_store (i) (f) : (s.onChan i f).store = s.store := rfl
@[simp] theorem State.onChan_security (i) (f) : (s.onChan i f).security = s.security := rfl
@[simp] theorem State.onChan_images (i) (f) : (s.onChan i f).images = s.images := rfl
@[simp] theorem State.onChan_free (i) (f) : (s.onChan i f).free = s.free := rfl

@[simp] theorem State.onIsland_pending (i) (f) : (s.onIsland i f).pending = s.pending := rfl
@[simp] theorem State.onIsland_fuses (i) (f) : (s.onIsland i f).fuses = s.fuses := rfl
@[simp] theorem State.onIsland_otp (i) (f) : (s.onIsland i f).otp = s.otp := rfl
@[simp] theorem State.onIsland_power (i) (f) : (s.onIsland i f).power = s.power := rfl
@[simp] theorem State.onIsland_clock (i) (f) : (s.onIsland i f).clock = s.clock := rfl
@[simp] theorem State.onIsland_mode (i) (f) : (s.onIsland i f).mode = s.mode := rfl
@[simp] theorem State.onIsland_cp (i) (f) : (s.onIsland i f).cp = s.cp := rfl
@[simp] theorem State.onIsland_ports (i) (f) : (s.onIsland i f).ports = s.ports := rfl
@[simp] theorem State.onIsland_tap (i) (f) : (s.onIsland i f).tap = s.tap := rfl
@[simp] theorem State.onIsland_queues (i) (f) : (s.onIsland i f).queues = s.queues := rfl
@[simp] theorem State.onIsland_params (i) (f) : (s.onIsland i f).params = s.params := rfl
@[simp] theorem State.onIsland_channels (i) (f) : (s.onIsland i f).channels = s.channels := rfl
@[simp] theorem State.onIsland_islands (i) (f) : (s.onIsland i f).islands = upd s.islands i f := rfl
@[simp] theorem State.onIsland_engine (i) (f) : (s.onIsland i f).engine = s.engine := rfl
@[simp] theorem State.onIsland_q8 (i) (f) : (s.onIsland i f).q8 = s.q8 := rfl
@[simp] theorem State.onIsland_q28 (i) (f) : (s.onIsland i f).q28 = s.q28 := rfl
@[simp] theorem State.onIsland_points (i) (f) : (s.onIsland i f).points = s.points := rfl
@[simp] theorem State.onIsland_bindSeq (i) (f) : (s.onIsland i f).bindSeq = s.bindSeq := rfl
@[simp] theorem State.onIsland_pulses (i) (f) : (s.onIsland i f).pulses = s.pulses := rfl
@[simp] theorem State.onIsland_groups (i) (f) : (s.onIsland i f).groups = s.groups := rfl
@[simp] theorem State.onIsland_tariff (i) (f) : (s.onIsland i f).tariff = s.tariff := rfl
@[simp] theorem State.onIsland_relays (i) (f) : (s.onIsland i f).relays = s.relays := rfl
@[simp] theorem State.onIsland_pq (i) (f) : (s.onIsland i f).pq = s.pq := rfl
@[simp] theorem State.onIsland_events (i) (f) : (s.onIsland i f).events = s.events := rfl
@[simp] theorem State.onIsland_tamper (i) (f) : (s.onIsland i f).tamper = s.tamper := rfl
@[simp] theorem State.onIsland_store (i) (f) : (s.onIsland i f).store = s.store := rfl
@[simp] theorem State.onIsland_security (i) (f) : (s.onIsland i f).security = s.security := rfl
@[simp] theorem State.onIsland_images (i) (f) : (s.onIsland i f).images = s.images := rfl
@[simp] theorem State.onIsland_free (i) (f) : (s.onIsland i f).free = s.free := rfl

@[simp] theorem State.onPoint_pending (i) (f) : (s.onPoint i f).pending = s.pending := rfl
@[simp] theorem State.onPoint_fuses (i) (f) : (s.onPoint i f).fuses = s.fuses := rfl
@[simp] theorem State.onPoint_otp (i) (f) : (s.onPoint i f).otp = s.otp := rfl
@[simp] theorem State.onPoint_power (i) (f) : (s.onPoint i f).power = s.power := rfl
@[simp] theorem State.onPoint_clock (i) (f) : (s.onPoint i f).clock = s.clock := rfl
@[simp] theorem State.onPoint_mode (i) (f) : (s.onPoint i f).mode = s.mode := rfl
@[simp] theorem State.onPoint_cp (i) (f) : (s.onPoint i f).cp = s.cp := rfl
@[simp] theorem State.onPoint_ports (i) (f) : (s.onPoint i f).ports = s.ports := rfl
@[simp] theorem State.onPoint_tap (i) (f) : (s.onPoint i f).tap = s.tap := rfl
@[simp] theorem State.onPoint_queues (i) (f) : (s.onPoint i f).queues = s.queues := rfl
@[simp] theorem State.onPoint_params (i) (f) : (s.onPoint i f).params = s.params := rfl
@[simp] theorem State.onPoint_channels (i) (f) : (s.onPoint i f).channels = s.channels := rfl
@[simp] theorem State.onPoint_islands (i) (f) : (s.onPoint i f).islands = s.islands := rfl
@[simp] theorem State.onPoint_engine (i) (f) : (s.onPoint i f).engine = s.engine := rfl
@[simp] theorem State.onPoint_q8 (i) (f) : (s.onPoint i f).q8 = s.q8 := rfl
@[simp] theorem State.onPoint_q28 (i) (f) : (s.onPoint i f).q28 = s.q28 := rfl
@[simp] theorem State.onPoint_points (i) (f) : (s.onPoint i f).points = upd s.points i f := rfl
@[simp] theorem State.onPoint_bindSeq (i) (f) : (s.onPoint i f).bindSeq = s.bindSeq := rfl
@[simp] theorem State.onPoint_pulses (i) (f) : (s.onPoint i f).pulses = s.pulses := rfl
@[simp] theorem State.onPoint_groups (i) (f) : (s.onPoint i f).groups = s.groups := rfl
@[simp] theorem State.onPoint_tariff (i) (f) : (s.onPoint i f).tariff = s.tariff := rfl
@[simp] theorem State.onPoint_relays (i) (f) : (s.onPoint i f).relays = s.relays := rfl
@[simp] theorem State.onPoint_pq (i) (f) : (s.onPoint i f).pq = s.pq := rfl
@[simp] theorem State.onPoint_events (i) (f) : (s.onPoint i f).events = s.events := rfl
@[simp] theorem State.onPoint_tamper (i) (f) : (s.onPoint i f).tamper = s.tamper := rfl
@[simp] theorem State.onPoint_store (i) (f) : (s.onPoint i f).store = s.store := rfl
@[simp] theorem State.onPoint_security (i) (f) : (s.onPoint i f).security = s.security := rfl
@[simp] theorem State.onPoint_images (i) (f) : (s.onPoint i f).images = s.images := rfl
@[simp] theorem State.onPoint_free (i) (f) : (s.onPoint i f).free = s.free := rfl

@[simp] theorem State.onPulse_pending (i) (f) : (s.onPulse i f).pending = s.pending := rfl
@[simp] theorem State.onPulse_fuses (i) (f) : (s.onPulse i f).fuses = s.fuses := rfl
@[simp] theorem State.onPulse_otp (i) (f) : (s.onPulse i f).otp = s.otp := rfl
@[simp] theorem State.onPulse_power (i) (f) : (s.onPulse i f).power = s.power := rfl
@[simp] theorem State.onPulse_clock (i) (f) : (s.onPulse i f).clock = s.clock := rfl
@[simp] theorem State.onPulse_mode (i) (f) : (s.onPulse i f).mode = s.mode := rfl
@[simp] theorem State.onPulse_cp (i) (f) : (s.onPulse i f).cp = s.cp := rfl
@[simp] theorem State.onPulse_ports (i) (f) : (s.onPulse i f).ports = s.ports := rfl
@[simp] theorem State.onPulse_tap (i) (f) : (s.onPulse i f).tap = s.tap := rfl
@[simp] theorem State.onPulse_queues (i) (f) : (s.onPulse i f).queues = s.queues := rfl
@[simp] theorem State.onPulse_params (i) (f) : (s.onPulse i f).params = s.params := rfl
@[simp] theorem State.onPulse_channels (i) (f) : (s.onPulse i f).channels = s.channels := rfl
@[simp] theorem State.onPulse_islands (i) (f) : (s.onPulse i f).islands = s.islands := rfl
@[simp] theorem State.onPulse_engine (i) (f) : (s.onPulse i f).engine = s.engine := rfl
@[simp] theorem State.onPulse_q8 (i) (f) : (s.onPulse i f).q8 = s.q8 := rfl
@[simp] theorem State.onPulse_q28 (i) (f) : (s.onPulse i f).q28 = s.q28 := rfl
@[simp] theorem State.onPulse_points (i) (f) : (s.onPulse i f).points = s.points := rfl
@[simp] theorem State.onPulse_bindSeq (i) (f) : (s.onPulse i f).bindSeq = s.bindSeq := rfl
@[simp] theorem State.onPulse_pulses (i) (f) : (s.onPulse i f).pulses = upd s.pulses i f := rfl
@[simp] theorem State.onPulse_groups (i) (f) : (s.onPulse i f).groups = s.groups := rfl
@[simp] theorem State.onPulse_tariff (i) (f) : (s.onPulse i f).tariff = s.tariff := rfl
@[simp] theorem State.onPulse_relays (i) (f) : (s.onPulse i f).relays = s.relays := rfl
@[simp] theorem State.onPulse_pq (i) (f) : (s.onPulse i f).pq = s.pq := rfl
@[simp] theorem State.onPulse_events (i) (f) : (s.onPulse i f).events = s.events := rfl
@[simp] theorem State.onPulse_tamper (i) (f) : (s.onPulse i f).tamper = s.tamper := rfl
@[simp] theorem State.onPulse_store (i) (f) : (s.onPulse i f).store = s.store := rfl
@[simp] theorem State.onPulse_security (i) (f) : (s.onPulse i f).security = s.security := rfl
@[simp] theorem State.onPulse_images (i) (f) : (s.onPulse i f).images = s.images := rfl
@[simp] theorem State.onPulse_free (i) (f) : (s.onPulse i f).free = s.free := rfl

@[simp] theorem State.onGroup_pending (i) (f) : (s.onGroup i f).pending = s.pending := rfl
@[simp] theorem State.onGroup_fuses (i) (f) : (s.onGroup i f).fuses = s.fuses := rfl
@[simp] theorem State.onGroup_otp (i) (f) : (s.onGroup i f).otp = s.otp := rfl
@[simp] theorem State.onGroup_power (i) (f) : (s.onGroup i f).power = s.power := rfl
@[simp] theorem State.onGroup_clock (i) (f) : (s.onGroup i f).clock = s.clock := rfl
@[simp] theorem State.onGroup_mode (i) (f) : (s.onGroup i f).mode = s.mode := rfl
@[simp] theorem State.onGroup_cp (i) (f) : (s.onGroup i f).cp = s.cp := rfl
@[simp] theorem State.onGroup_ports (i) (f) : (s.onGroup i f).ports = s.ports := rfl
@[simp] theorem State.onGroup_tap (i) (f) : (s.onGroup i f).tap = s.tap := rfl
@[simp] theorem State.onGroup_queues (i) (f) : (s.onGroup i f).queues = s.queues := rfl
@[simp] theorem State.onGroup_params (i) (f) : (s.onGroup i f).params = s.params := rfl
@[simp] theorem State.onGroup_channels (i) (f) : (s.onGroup i f).channels = s.channels := rfl
@[simp] theorem State.onGroup_islands (i) (f) : (s.onGroup i f).islands = s.islands := rfl
@[simp] theorem State.onGroup_engine (i) (f) : (s.onGroup i f).engine = s.engine := rfl
@[simp] theorem State.onGroup_q8 (i) (f) : (s.onGroup i f).q8 = s.q8 := rfl
@[simp] theorem State.onGroup_q28 (i) (f) : (s.onGroup i f).q28 = s.q28 := rfl
@[simp] theorem State.onGroup_points (i) (f) : (s.onGroup i f).points = s.points := rfl
@[simp] theorem State.onGroup_bindSeq (i) (f) : (s.onGroup i f).bindSeq = s.bindSeq := rfl
@[simp] theorem State.onGroup_pulses (i) (f) : (s.onGroup i f).pulses = s.pulses := rfl
@[simp] theorem State.onGroup_groups (i) (f) : (s.onGroup i f).groups = upd s.groups i f := rfl
@[simp] theorem State.onGroup_tariff (i) (f) : (s.onGroup i f).tariff = s.tariff := rfl
@[simp] theorem State.onGroup_relays (i) (f) : (s.onGroup i f).relays = s.relays := rfl
@[simp] theorem State.onGroup_pq (i) (f) : (s.onGroup i f).pq = s.pq := rfl
@[simp] theorem State.onGroup_events (i) (f) : (s.onGroup i f).events = s.events := rfl
@[simp] theorem State.onGroup_tamper (i) (f) : (s.onGroup i f).tamper = s.tamper := rfl
@[simp] theorem State.onGroup_store (i) (f) : (s.onGroup i f).store = s.store := rfl
@[simp] theorem State.onGroup_security (i) (f) : (s.onGroup i f).security = s.security := rfl
@[simp] theorem State.onGroup_images (i) (f) : (s.onGroup i f).images = s.images := rfl
@[simp] theorem State.onGroup_free (i) (f) : (s.onGroup i f).free = s.free := rfl

@[simp] theorem State.onLedger_pending (i) (f) : (s.onLedger i f).pending = s.pending := rfl
@[simp] theorem State.onLedger_fuses (i) (f) : (s.onLedger i f).fuses = s.fuses := rfl
@[simp] theorem State.onLedger_otp (i) (f) : (s.onLedger i f).otp = s.otp := rfl
@[simp] theorem State.onLedger_power (i) (f) : (s.onLedger i f).power = s.power := rfl
@[simp] theorem State.onLedger_clock (i) (f) : (s.onLedger i f).clock = s.clock := rfl
@[simp] theorem State.onLedger_mode (i) (f) : (s.onLedger i f).mode = s.mode := rfl
@[simp] theorem State.onLedger_cp (i) (f) : (s.onLedger i f).cp = s.cp := rfl
@[simp] theorem State.onLedger_ports (i) (f) : (s.onLedger i f).ports = s.ports := rfl
@[simp] theorem State.onLedger_tap (i) (f) : (s.onLedger i f).tap = s.tap := rfl
@[simp] theorem State.onLedger_queues (i) (f) : (s.onLedger i f).queues = s.queues := rfl
@[simp] theorem State.onLedger_params (i) (f) : (s.onLedger i f).params = s.params := rfl
@[simp] theorem State.onLedger_channels (i) (f) : (s.onLedger i f).channels = s.channels := rfl
@[simp] theorem State.onLedger_islands (i) (f) : (s.onLedger i f).islands = s.islands := rfl
@[simp] theorem State.onLedger_engine (i) (f) : (s.onLedger i f).engine = s.engine := rfl
@[simp] theorem State.onLedger_q8 (i) (f) : (s.onLedger i f).q8 = s.q8 := rfl
@[simp] theorem State.onLedger_q28 (i) (f) : (s.onLedger i f).q28 = s.q28 := rfl
@[simp] theorem State.onLedger_bindSeq (i) (f) : (s.onLedger i f).bindSeq = s.bindSeq := rfl
@[simp] theorem State.onLedger_pulses (i) (f) : (s.onLedger i f).pulses = s.pulses := rfl
@[simp] theorem State.onLedger_groups (i) (f) : (s.onLedger i f).groups = s.groups := rfl
@[simp] theorem State.onLedger_tariff (i) (f) : (s.onLedger i f).tariff = s.tariff := rfl
@[simp] theorem State.onLedger_relays (i) (f) : (s.onLedger i f).relays = s.relays := rfl
@[simp] theorem State.onLedger_pq (i) (f) : (s.onLedger i f).pq = s.pq := rfl
@[simp] theorem State.onLedger_events (i) (f) : (s.onLedger i f).events = s.events := rfl
@[simp] theorem State.onLedger_tamper (i) (f) : (s.onLedger i f).tamper = s.tamper := rfl
@[simp] theorem State.onLedger_store (i) (f) : (s.onLedger i f).store = s.store := rfl
@[simp] theorem State.onLedger_security (i) (f) : (s.onLedger i f).security = s.security := rfl
@[simp] theorem State.onLedger_images (i) (f) : (s.onLedger i f).images = s.images := rfl
@[simp] theorem State.onLedger_free (i) (f) : (s.onLedger i f).free = s.free := rfl

@[simp] theorem State.onLane_pending (i) (f) : (s.onLane i f).pending = s.pending := rfl
@[simp] theorem State.onLane_fuses (i) (f) : (s.onLane i f).fuses = s.fuses := rfl
@[simp] theorem State.onLane_otp (i) (f) : (s.onLane i f).otp = s.otp := rfl
@[simp] theorem State.onLane_power (i) (f) : (s.onLane i f).power = s.power := rfl
@[simp] theorem State.onLane_clock (i) (f) : (s.onLane i f).clock = s.clock := rfl
@[simp] theorem State.onLane_mode (i) (f) : (s.onLane i f).mode = s.mode := rfl
@[simp] theorem State.onLane_cp (i) (f) : (s.onLane i f).cp = s.cp := rfl
@[simp] theorem State.onLane_ports (i) (f) : (s.onLane i f).ports = s.ports := rfl
@[simp] theorem State.onLane_tap (i) (f) : (s.onLane i f).tap = s.tap := rfl
@[simp] theorem State.onLane_queues (i) (f) : (s.onLane i f).queues = s.queues := rfl
@[simp] theorem State.onLane_params (i) (f) : (s.onLane i f).params = s.params := rfl
@[simp] theorem State.onLane_channels (i) (f) : (s.onLane i f).channels = s.channels := rfl
@[simp] theorem State.onLane_islands (i) (f) : (s.onLane i f).islands = s.islands := rfl
@[simp] theorem State.onLane_q8 (i) (f) : (s.onLane i f).q8 = s.q8 := rfl
@[simp] theorem State.onLane_q28 (i) (f) : (s.onLane i f).q28 = s.q28 := rfl
@[simp] theorem State.onLane_points (i) (f) : (s.onLane i f).points = s.points := rfl
@[simp] theorem State.onLane_bindSeq (i) (f) : (s.onLane i f).bindSeq = s.bindSeq := rfl
@[simp] theorem State.onLane_pulses (i) (f) : (s.onLane i f).pulses = s.pulses := rfl
@[simp] theorem State.onLane_groups (i) (f) : (s.onLane i f).groups = s.groups := rfl
@[simp] theorem State.onLane_tariff (i) (f) : (s.onLane i f).tariff = s.tariff := rfl
@[simp] theorem State.onLane_relays (i) (f) : (s.onLane i f).relays = s.relays := rfl
@[simp] theorem State.onLane_pq (i) (f) : (s.onLane i f).pq = s.pq := rfl
@[simp] theorem State.onLane_events (i) (f) : (s.onLane i f).events = s.events := rfl
@[simp] theorem State.onLane_tamper (i) (f) : (s.onLane i f).tamper = s.tamper := rfl
@[simp] theorem State.onLane_store (i) (f) : (s.onLane i f).store = s.store := rfl
@[simp] theorem State.onLane_security (i) (f) : (s.onLane i f).security = s.security := rfl
@[simp] theorem State.onLane_images (i) (f) : (s.onLane i f).images = s.images := rfl
@[simp] theorem State.onLane_free (i) (f) : (s.onLane i f).free = s.free := rfl

@[simp] theorem State.eachPort_pending (f) : (s.eachPort f).pending = s.pending := rfl
@[simp] theorem State.eachPort_fuses (f) : (s.eachPort f).fuses = s.fuses := rfl
@[simp] theorem State.eachPort_otp (f) : (s.eachPort f).otp = s.otp := rfl
@[simp] theorem State.eachPort_power (f) : (s.eachPort f).power = s.power := rfl
@[simp] theorem State.eachPort_clock (f) : (s.eachPort f).clock = s.clock := rfl
@[simp] theorem State.eachPort_mode (f) : (s.eachPort f).mode = s.mode := rfl
@[simp] theorem State.eachPort_cp (f) : (s.eachPort f).cp = s.cp := rfl
@[simp] theorem State.eachPort_ports (f) : (s.eachPort f).ports = s.ports.map f := rfl
@[simp] theorem State.eachPort_tap (f) : (s.eachPort f).tap = s.tap := rfl
@[simp] theorem State.eachPort_queues (f) : (s.eachPort f).queues = s.queues := rfl
@[simp] theorem State.eachPort_params (f) : (s.eachPort f).params = s.params := rfl
@[simp] theorem State.eachPort_channels (f) : (s.eachPort f).channels = s.channels := rfl
@[simp] theorem State.eachPort_islands (f) : (s.eachPort f).islands = s.islands := rfl
@[simp] theorem State.eachPort_engine (f) : (s.eachPort f).engine = s.engine := rfl
@[simp] theorem State.eachPort_q8 (f) : (s.eachPort f).q8 = s.q8 := rfl
@[simp] theorem State.eachPort_q28 (f) : (s.eachPort f).q28 = s.q28 := rfl
@[simp] theorem State.eachPort_points (f) : (s.eachPort f).points = s.points := rfl
@[simp] theorem State.eachPort_bindSeq (f) : (s.eachPort f).bindSeq = s.bindSeq := rfl
@[simp] theorem State.eachPort_pulses (f) : (s.eachPort f).pulses = s.pulses := rfl
@[simp] theorem State.eachPort_groups (f) : (s.eachPort f).groups = s.groups := rfl
@[simp] theorem State.eachPort_tariff (f) : (s.eachPort f).tariff = s.tariff := rfl
@[simp] theorem State.eachPort_relays (f) : (s.eachPort f).relays = s.relays := rfl
@[simp] theorem State.eachPort_pq (f) : (s.eachPort f).pq = s.pq := rfl
@[simp] theorem State.eachPort_events (f) : (s.eachPort f).events = s.events := rfl
@[simp] theorem State.eachPort_tamper (f) : (s.eachPort f).tamper = s.tamper := rfl
@[simp] theorem State.eachPort_store (f) : (s.eachPort f).store = s.store := rfl
@[simp] theorem State.eachPort_security (f) : (s.eachPort f).security = s.security := rfl
@[simp] theorem State.eachPort_images (f) : (s.eachPort f).images = s.images := rfl
@[simp] theorem State.eachPort_free (f) : (s.eachPort f).free = s.free := rfl

@[simp] theorem State.eachQueue_pending (f) : (s.eachQueue f).pending = s.pending := rfl
@[simp] theorem State.eachQueue_fuses (f) : (s.eachQueue f).fuses = s.fuses := rfl
@[simp] theorem State.eachQueue_otp (f) : (s.eachQueue f).otp = s.otp := rfl
@[simp] theorem State.eachQueue_power (f) : (s.eachQueue f).power = s.power := rfl
@[simp] theorem State.eachQueue_clock (f) : (s.eachQueue f).clock = s.clock := rfl
@[simp] theorem State.eachQueue_mode (f) : (s.eachQueue f).mode = s.mode := rfl
@[simp] theorem State.eachQueue_cp (f) : (s.eachQueue f).cp = s.cp := rfl
@[simp] theorem State.eachQueue_ports (f) : (s.eachQueue f).ports = s.ports := rfl
@[simp] theorem State.eachQueue_tap (f) : (s.eachQueue f).tap = s.tap := rfl
@[simp] theorem State.eachQueue_queues (f) : (s.eachQueue f).queues = s.queues.map f := rfl
@[simp] theorem State.eachQueue_params (f) : (s.eachQueue f).params = s.params := rfl
@[simp] theorem State.eachQueue_channels (f) : (s.eachQueue f).channels = s.channels := rfl
@[simp] theorem State.eachQueue_islands (f) : (s.eachQueue f).islands = s.islands := rfl
@[simp] theorem State.eachQueue_engine (f) : (s.eachQueue f).engine = s.engine := rfl
@[simp] theorem State.eachQueue_q8 (f) : (s.eachQueue f).q8 = s.q8 := rfl
@[simp] theorem State.eachQueue_q28 (f) : (s.eachQueue f).q28 = s.q28 := rfl
@[simp] theorem State.eachQueue_points (f) : (s.eachQueue f).points = s.points := rfl
@[simp] theorem State.eachQueue_bindSeq (f) : (s.eachQueue f).bindSeq = s.bindSeq := rfl
@[simp] theorem State.eachQueue_pulses (f) : (s.eachQueue f).pulses = s.pulses := rfl
@[simp] theorem State.eachQueue_groups (f) : (s.eachQueue f).groups = s.groups := rfl
@[simp] theorem State.eachQueue_tariff (f) : (s.eachQueue f).tariff = s.tariff := rfl
@[simp] theorem State.eachQueue_relays (f) : (s.eachQueue f).relays = s.relays := rfl
@[simp] theorem State.eachQueue_pq (f) : (s.eachQueue f).pq = s.pq := rfl
@[simp] theorem State.eachQueue_events (f) : (s.eachQueue f).events = s.events := rfl
@[simp] theorem State.eachQueue_tamper (f) : (s.eachQueue f).tamper = s.tamper := rfl
@[simp] theorem State.eachQueue_store (f) : (s.eachQueue f).store = s.store := rfl
@[simp] theorem State.eachQueue_security (f) : (s.eachQueue f).security = s.security := rfl
@[simp] theorem State.eachQueue_images (f) : (s.eachQueue f).images = s.images := rfl
@[simp] theorem State.eachQueue_free (f) : (s.eachQueue f).free = s.free := rfl

@[simp] theorem State.eachChan_pending (f) : (s.eachChan f).pending = s.pending := rfl
@[simp] theorem State.eachChan_fuses (f) : (s.eachChan f).fuses = s.fuses := rfl
@[simp] theorem State.eachChan_otp (f) : (s.eachChan f).otp = s.otp := rfl
@[simp] theorem State.eachChan_power (f) : (s.eachChan f).power = s.power := rfl
@[simp] theorem State.eachChan_clock (f) : (s.eachChan f).clock = s.clock := rfl
@[simp] theorem State.eachChan_mode (f) : (s.eachChan f).mode = s.mode := rfl
@[simp] theorem State.eachChan_cp (f) : (s.eachChan f).cp = s.cp := rfl
@[simp] theorem State.eachChan_ports (f) : (s.eachChan f).ports = s.ports := rfl
@[simp] theorem State.eachChan_tap (f) : (s.eachChan f).tap = s.tap := rfl
@[simp] theorem State.eachChan_queues (f) : (s.eachChan f).queues = s.queues := rfl
@[simp] theorem State.eachChan_params (f) : (s.eachChan f).params = s.params := rfl
@[simp] theorem State.eachChan_channels (f) : (s.eachChan f).channels = s.channels.map f := rfl
@[simp] theorem State.eachChan_islands (f) : (s.eachChan f).islands = s.islands := rfl
@[simp] theorem State.eachChan_engine (f) : (s.eachChan f).engine = s.engine := rfl
@[simp] theorem State.eachChan_q8 (f) : (s.eachChan f).q8 = s.q8 := rfl
@[simp] theorem State.eachChan_q28 (f) : (s.eachChan f).q28 = s.q28 := rfl
@[simp] theorem State.eachChan_points (f) : (s.eachChan f).points = s.points := rfl
@[simp] theorem State.eachChan_bindSeq (f) : (s.eachChan f).bindSeq = s.bindSeq := rfl
@[simp] theorem State.eachChan_pulses (f) : (s.eachChan f).pulses = s.pulses := rfl
@[simp] theorem State.eachChan_groups (f) : (s.eachChan f).groups = s.groups := rfl
@[simp] theorem State.eachChan_tariff (f) : (s.eachChan f).tariff = s.tariff := rfl
@[simp] theorem State.eachChan_relays (f) : (s.eachChan f).relays = s.relays := rfl
@[simp] theorem State.eachChan_pq (f) : (s.eachChan f).pq = s.pq := rfl
@[simp] theorem State.eachChan_events (f) : (s.eachChan f).events = s.events := rfl
@[simp] theorem State.eachChan_tamper (f) : (s.eachChan f).tamper = s.tamper := rfl
@[simp] theorem State.eachChan_store (f) : (s.eachChan f).store = s.store := rfl
@[simp] theorem State.eachChan_security (f) : (s.eachChan f).security = s.security := rfl
@[simp] theorem State.eachChan_images (f) : (s.eachChan f).images = s.images := rfl
@[simp] theorem State.eachChan_free (f) : (s.eachChan f).free = s.free := rfl

@[simp] theorem State.eachIsland_pending (f) : (s.eachIsland f).pending = s.pending := rfl
@[simp] theorem State.eachIsland_fuses (f) : (s.eachIsland f).fuses = s.fuses := rfl
@[simp] theorem State.eachIsland_otp (f) : (s.eachIsland f).otp = s.otp := rfl
@[simp] theorem State.eachIsland_power (f) : (s.eachIsland f).power = s.power := rfl
@[simp] theorem State.eachIsland_clock (f) : (s.eachIsland f).clock = s.clock := rfl
@[simp] theorem State.eachIsland_mode (f) : (s.eachIsland f).mode = s.mode := rfl
@[simp] theorem State.eachIsland_cp (f) : (s.eachIsland f).cp = s.cp := rfl
@[simp] theorem State.eachIsland_ports (f) : (s.eachIsland f).ports = s.ports := rfl
@[simp] theorem State.eachIsland_tap (f) : (s.eachIsland f).tap = s.tap := rfl
@[simp] theorem State.eachIsland_queues (f) : (s.eachIsland f).queues = s.queues := rfl
@[simp] theorem State.eachIsland_params (f) : (s.eachIsland f).params = s.params := rfl
@[simp] theorem State.eachIsland_channels (f) : (s.eachIsland f).channels = s.channels := rfl
@[simp] theorem State.eachIsland_islands (f) : (s.eachIsland f).islands = s.islands.map f := rfl
@[simp] theorem State.eachIsland_engine (f) : (s.eachIsland f).engine = s.engine := rfl
@[simp] theorem State.eachIsland_q8 (f) : (s.eachIsland f).q8 = s.q8 := rfl
@[simp] theorem State.eachIsland_q28 (f) : (s.eachIsland f).q28 = s.q28 := rfl
@[simp] theorem State.eachIsland_points (f) : (s.eachIsland f).points = s.points := rfl
@[simp] theorem State.eachIsland_bindSeq (f) : (s.eachIsland f).bindSeq = s.bindSeq := rfl
@[simp] theorem State.eachIsland_pulses (f) : (s.eachIsland f).pulses = s.pulses := rfl
@[simp] theorem State.eachIsland_groups (f) : (s.eachIsland f).groups = s.groups := rfl
@[simp] theorem State.eachIsland_tariff (f) : (s.eachIsland f).tariff = s.tariff := rfl
@[simp] theorem State.eachIsland_relays (f) : (s.eachIsland f).relays = s.relays := rfl
@[simp] theorem State.eachIsland_pq (f) : (s.eachIsland f).pq = s.pq := rfl
@[simp] theorem State.eachIsland_events (f) : (s.eachIsland f).events = s.events := rfl
@[simp] theorem State.eachIsland_tamper (f) : (s.eachIsland f).tamper = s.tamper := rfl
@[simp] theorem State.eachIsland_store (f) : (s.eachIsland f).store = s.store := rfl
@[simp] theorem State.eachIsland_security (f) : (s.eachIsland f).security = s.security := rfl
@[simp] theorem State.eachIsland_images (f) : (s.eachIsland f).images = s.images := rfl
@[simp] theorem State.eachIsland_free (f) : (s.eachIsland f).free = s.free := rfl

@[simp] theorem State.eachPoint_pending (f) : (s.eachPoint f).pending = s.pending := rfl
@[simp] theorem State.eachPoint_fuses (f) : (s.eachPoint f).fuses = s.fuses := rfl
@[simp] theorem State.eachPoint_otp (f) : (s.eachPoint f).otp = s.otp := rfl
@[simp] theorem State.eachPoint_power (f) : (s.eachPoint f).power = s.power := rfl
@[simp] theorem State.eachPoint_clock (f) : (s.eachPoint f).clock = s.clock := rfl
@[simp] theorem State.eachPoint_mode (f) : (s.eachPoint f).mode = s.mode := rfl
@[simp] theorem State.eachPoint_cp (f) : (s.eachPoint f).cp = s.cp := rfl
@[simp] theorem State.eachPoint_ports (f) : (s.eachPoint f).ports = s.ports := rfl
@[simp] theorem State.eachPoint_tap (f) : (s.eachPoint f).tap = s.tap := rfl
@[simp] theorem State.eachPoint_queues (f) : (s.eachPoint f).queues = s.queues := rfl
@[simp] theorem State.eachPoint_params (f) : (s.eachPoint f).params = s.params := rfl
@[simp] theorem State.eachPoint_channels (f) : (s.eachPoint f).channels = s.channels := rfl
@[simp] theorem State.eachPoint_islands (f) : (s.eachPoint f).islands = s.islands := rfl
@[simp] theorem State.eachPoint_engine (f) : (s.eachPoint f).engine = s.engine := rfl
@[simp] theorem State.eachPoint_q8 (f) : (s.eachPoint f).q8 = s.q8 := rfl
@[simp] theorem State.eachPoint_q28 (f) : (s.eachPoint f).q28 = s.q28 := rfl
@[simp] theorem State.eachPoint_points (f) : (s.eachPoint f).points = s.points.map f := rfl
@[simp] theorem State.eachPoint_bindSeq (f) : (s.eachPoint f).bindSeq = s.bindSeq := rfl
@[simp] theorem State.eachPoint_pulses (f) : (s.eachPoint f).pulses = s.pulses := rfl
@[simp] theorem State.eachPoint_groups (f) : (s.eachPoint f).groups = s.groups := rfl
@[simp] theorem State.eachPoint_tariff (f) : (s.eachPoint f).tariff = s.tariff := rfl
@[simp] theorem State.eachPoint_relays (f) : (s.eachPoint f).relays = s.relays := rfl
@[simp] theorem State.eachPoint_pq (f) : (s.eachPoint f).pq = s.pq := rfl
@[simp] theorem State.eachPoint_events (f) : (s.eachPoint f).events = s.events := rfl
@[simp] theorem State.eachPoint_tamper (f) : (s.eachPoint f).tamper = s.tamper := rfl
@[simp] theorem State.eachPoint_store (f) : (s.eachPoint f).store = s.store := rfl
@[simp] theorem State.eachPoint_security (f) : (s.eachPoint f).security = s.security := rfl
@[simp] theorem State.eachPoint_images (f) : (s.eachPoint f).images = s.images := rfl
@[simp] theorem State.eachPoint_free (f) : (s.eachPoint f).free = s.free := rfl

@[simp] theorem State.eachPulse_pending (f) : (s.eachPulse f).pending = s.pending := rfl
@[simp] theorem State.eachPulse_fuses (f) : (s.eachPulse f).fuses = s.fuses := rfl
@[simp] theorem State.eachPulse_otp (f) : (s.eachPulse f).otp = s.otp := rfl
@[simp] theorem State.eachPulse_power (f) : (s.eachPulse f).power = s.power := rfl
@[simp] theorem State.eachPulse_clock (f) : (s.eachPulse f).clock = s.clock := rfl
@[simp] theorem State.eachPulse_mode (f) : (s.eachPulse f).mode = s.mode := rfl
@[simp] theorem State.eachPulse_cp (f) : (s.eachPulse f).cp = s.cp := rfl
@[simp] theorem State.eachPulse_ports (f) : (s.eachPulse f).ports = s.ports := rfl
@[simp] theorem State.eachPulse_tap (f) : (s.eachPulse f).tap = s.tap := rfl
@[simp] theorem State.eachPulse_queues (f) : (s.eachPulse f).queues = s.queues := rfl
@[simp] theorem State.eachPulse_params (f) : (s.eachPulse f).params = s.params := rfl
@[simp] theorem State.eachPulse_channels (f) : (s.eachPulse f).channels = s.channels := rfl
@[simp] theorem State.eachPulse_islands (f) : (s.eachPulse f).islands = s.islands := rfl
@[simp] theorem State.eachPulse_engine (f) : (s.eachPulse f).engine = s.engine := rfl
@[simp] theorem State.eachPulse_q8 (f) : (s.eachPulse f).q8 = s.q8 := rfl
@[simp] theorem State.eachPulse_q28 (f) : (s.eachPulse f).q28 = s.q28 := rfl
@[simp] theorem State.eachPulse_points (f) : (s.eachPulse f).points = s.points := rfl
@[simp] theorem State.eachPulse_bindSeq (f) : (s.eachPulse f).bindSeq = s.bindSeq := rfl
@[simp] theorem State.eachPulse_pulses (f) : (s.eachPulse f).pulses = s.pulses.map f := rfl
@[simp] theorem State.eachPulse_groups (f) : (s.eachPulse f).groups = s.groups := rfl
@[simp] theorem State.eachPulse_tariff (f) : (s.eachPulse f).tariff = s.tariff := rfl
@[simp] theorem State.eachPulse_relays (f) : (s.eachPulse f).relays = s.relays := rfl
@[simp] theorem State.eachPulse_pq (f) : (s.eachPulse f).pq = s.pq := rfl
@[simp] theorem State.eachPulse_events (f) : (s.eachPulse f).events = s.events := rfl
@[simp] theorem State.eachPulse_tamper (f) : (s.eachPulse f).tamper = s.tamper := rfl
@[simp] theorem State.eachPulse_store (f) : (s.eachPulse f).store = s.store := rfl
@[simp] theorem State.eachPulse_security (f) : (s.eachPulse f).security = s.security := rfl
@[simp] theorem State.eachPulse_images (f) : (s.eachPulse f).images = s.images := rfl
@[simp] theorem State.eachPulse_free (f) : (s.eachPulse f).free = s.free := rfl

@[simp] theorem State.eachGroup_pending (f) : (s.eachGroup f).pending = s.pending := rfl
@[simp] theorem State.eachGroup_fuses (f) : (s.eachGroup f).fuses = s.fuses := rfl
@[simp] theorem State.eachGroup_otp (f) : (s.eachGroup f).otp = s.otp := rfl
@[simp] theorem State.eachGroup_power (f) : (s.eachGroup f).power = s.power := rfl
@[simp] theorem State.eachGroup_clock (f) : (s.eachGroup f).clock = s.clock := rfl
@[simp] theorem State.eachGroup_mode (f) : (s.eachGroup f).mode = s.mode := rfl
@[simp] theorem State.eachGroup_cp (f) : (s.eachGroup f).cp = s.cp := rfl
@[simp] theorem State.eachGroup_ports (f) : (s.eachGroup f).ports = s.ports := rfl
@[simp] theorem State.eachGroup_tap (f) : (s.eachGroup f).tap = s.tap := rfl
@[simp] theorem State.eachGroup_queues (f) : (s.eachGroup f).queues = s.queues := rfl
@[simp] theorem State.eachGroup_params (f) : (s.eachGroup f).params = s.params := rfl
@[simp] theorem State.eachGroup_channels (f) : (s.eachGroup f).channels = s.channels := rfl
@[simp] theorem State.eachGroup_islands (f) : (s.eachGroup f).islands = s.islands := rfl
@[simp] theorem State.eachGroup_engine (f) : (s.eachGroup f).engine = s.engine := rfl
@[simp] theorem State.eachGroup_q8 (f) : (s.eachGroup f).q8 = s.q8 := rfl
@[simp] theorem State.eachGroup_q28 (f) : (s.eachGroup f).q28 = s.q28 := rfl
@[simp] theorem State.eachGroup_points (f) : (s.eachGroup f).points = s.points := rfl
@[simp] theorem State.eachGroup_bindSeq (f) : (s.eachGroup f).bindSeq = s.bindSeq := rfl
@[simp] theorem State.eachGroup_pulses (f) : (s.eachGroup f).pulses = s.pulses := rfl
@[simp] theorem State.eachGroup_groups (f) : (s.eachGroup f).groups = s.groups.map f := rfl
@[simp] theorem State.eachGroup_tariff (f) : (s.eachGroup f).tariff = s.tariff := rfl
@[simp] theorem State.eachGroup_relays (f) : (s.eachGroup f).relays = s.relays := rfl
@[simp] theorem State.eachGroup_pq (f) : (s.eachGroup f).pq = s.pq := rfl
@[simp] theorem State.eachGroup_events (f) : (s.eachGroup f).events = s.events := rfl
@[simp] theorem State.eachGroup_tamper (f) : (s.eachGroup f).tamper = s.tamper := rfl
@[simp] theorem State.eachGroup_store (f) : (s.eachGroup f).store = s.store := rfl
@[simp] theorem State.eachGroup_security (f) : (s.eachGroup f).security = s.security := rfl
@[simp] theorem State.eachGroup_images (f) : (s.eachGroup f).images = s.images := rfl
@[simp] theorem State.eachGroup_free (f) : (s.eachGroup f).free = s.free := rfl

@[simp] theorem State.eachChanAt_pending (f) : (s.eachChanAt f).pending = s.pending := rfl
@[simp] theorem State.eachChanAt_fuses (f) : (s.eachChanAt f).fuses = s.fuses := rfl
@[simp] theorem State.eachChanAt_otp (f) : (s.eachChanAt f).otp = s.otp := rfl
@[simp] theorem State.eachChanAt_power (f) : (s.eachChanAt f).power = s.power := rfl
@[simp] theorem State.eachChanAt_clock (f) : (s.eachChanAt f).clock = s.clock := rfl
@[simp] theorem State.eachChanAt_mode (f) : (s.eachChanAt f).mode = s.mode := rfl
@[simp] theorem State.eachChanAt_cp (f) : (s.eachChanAt f).cp = s.cp := rfl
@[simp] theorem State.eachChanAt_ports (f) : (s.eachChanAt f).ports = s.ports := rfl
@[simp] theorem State.eachChanAt_tap (f) : (s.eachChanAt f).tap = s.tap := rfl
@[simp] theorem State.eachChanAt_queues (f) : (s.eachChanAt f).queues = s.queues := rfl
@[simp] theorem State.eachChanAt_params (f) : (s.eachChanAt f).params = s.params := rfl
@[simp] theorem State.eachChanAt_islands (f) : (s.eachChanAt f).islands = s.islands := rfl
@[simp] theorem State.eachChanAt_engine (f) : (s.eachChanAt f).engine = s.engine := rfl
@[simp] theorem State.eachChanAt_q8 (f) : (s.eachChanAt f).q8 = s.q8 := rfl
@[simp] theorem State.eachChanAt_q28 (f) : (s.eachChanAt f).q28 = s.q28 := rfl
@[simp] theorem State.eachChanAt_points (f) : (s.eachChanAt f).points = s.points := rfl
@[simp] theorem State.eachChanAt_bindSeq (f) : (s.eachChanAt f).bindSeq = s.bindSeq := rfl
@[simp] theorem State.eachChanAt_pulses (f) : (s.eachChanAt f).pulses = s.pulses := rfl
@[simp] theorem State.eachChanAt_groups (f) : (s.eachChanAt f).groups = s.groups := rfl
@[simp] theorem State.eachChanAt_tariff (f) : (s.eachChanAt f).tariff = s.tariff := rfl
@[simp] theorem State.eachChanAt_relays (f) : (s.eachChanAt f).relays = s.relays := rfl
@[simp] theorem State.eachChanAt_pq (f) : (s.eachChanAt f).pq = s.pq := rfl
@[simp] theorem State.eachChanAt_events (f) : (s.eachChanAt f).events = s.events := rfl
@[simp] theorem State.eachChanAt_tamper (f) : (s.eachChanAt f).tamper = s.tamper := rfl
@[simp] theorem State.eachChanAt_store (f) : (s.eachChanAt f).store = s.store := rfl
@[simp] theorem State.eachChanAt_security (f) : (s.eachChanAt f).security = s.security := rfl
@[simp] theorem State.eachChanAt_images (f) : (s.eachChanAt f).images = s.images := rfl
@[simp] theorem State.eachChanAt_free (f) : (s.eachChanAt f).free = s.free := rfl

@[simp] theorem State.setBindSeq_pending (n) : (s.setBindSeq n).pending = s.pending := rfl
@[simp] theorem State.setBindSeq_fuses (n) : (s.setBindSeq n).fuses = s.fuses := rfl
@[simp] theorem State.setBindSeq_otp (n) : (s.setBindSeq n).otp = s.otp := rfl
@[simp] theorem State.setBindSeq_power (n) : (s.setBindSeq n).power = s.power := rfl
@[simp] theorem State.setBindSeq_clock (n) : (s.setBindSeq n).clock = s.clock := rfl
@[simp] theorem State.setBindSeq_mode (n) : (s.setBindSeq n).mode = s.mode := rfl
@[simp] theorem State.setBindSeq_cp (n) : (s.setBindSeq n).cp = s.cp := rfl
@[simp] theorem State.setBindSeq_ports (n) : (s.setBindSeq n).ports = s.ports := rfl
@[simp] theorem State.setBindSeq_tap (n) : (s.setBindSeq n).tap = s.tap := rfl
@[simp] theorem State.setBindSeq_queues (n) : (s.setBindSeq n).queues = s.queues := rfl
@[simp] theorem State.setBindSeq_params (n) : (s.setBindSeq n).params = s.params := rfl
@[simp] theorem State.setBindSeq_channels (n) : (s.setBindSeq n).channels = s.channels := rfl
@[simp] theorem State.setBindSeq_islands (n) : (s.setBindSeq n).islands = s.islands := rfl
@[simp] theorem State.setBindSeq_engine (n) : (s.setBindSeq n).engine = s.engine := rfl
@[simp] theorem State.setBindSeq_q8 (n) : (s.setBindSeq n).q8 = s.q8 := rfl
@[simp] theorem State.setBindSeq_q28 (n) : (s.setBindSeq n).q28 = s.q28 := rfl
@[simp] theorem State.setBindSeq_points (n) : (s.setBindSeq n).points = s.points := rfl
@[simp] theorem State.setBindSeq_bindSeq (n) : (s.setBindSeq n).bindSeq = n := rfl
@[simp] theorem State.setBindSeq_pulses (n) : (s.setBindSeq n).pulses = s.pulses := rfl
@[simp] theorem State.setBindSeq_groups (n) : (s.setBindSeq n).groups = s.groups := rfl
@[simp] theorem State.setBindSeq_tariff (n) : (s.setBindSeq n).tariff = s.tariff := rfl
@[simp] theorem State.setBindSeq_relays (n) : (s.setBindSeq n).relays = s.relays := rfl
@[simp] theorem State.setBindSeq_pq (n) : (s.setBindSeq n).pq = s.pq := rfl
@[simp] theorem State.setBindSeq_events (n) : (s.setBindSeq n).events = s.events := rfl
@[simp] theorem State.setBindSeq_tamper (n) : (s.setBindSeq n).tamper = s.tamper := rfl
@[simp] theorem State.setBindSeq_store (n) : (s.setBindSeq n).store = s.store := rfl
@[simp] theorem State.setBindSeq_security (n) : (s.setBindSeq n).security = s.security := rfl
@[simp] theorem State.setBindSeq_images (n) : (s.setBindSeq n).images = s.images := rfl
@[simp] theorem State.setBindSeq_free (n) : (s.setBindSeq n).free = s.free := rfl

@[simp] theorem State.setPar_pending (pid) (v) : (s.setPar pid v).pending = s.pending := rfl
@[simp] theorem State.setPar_fuses (pid) (v) : (s.setPar pid v).fuses = s.fuses := rfl
@[simp] theorem State.setPar_otp (pid) (v) : (s.setPar pid v).otp = s.otp := rfl
@[simp] theorem State.setPar_power (pid) (v) : (s.setPar pid v).power = s.power := rfl
@[simp] theorem State.setPar_clock (pid) (v) : (s.setPar pid v).clock = s.clock := rfl
@[simp] theorem State.setPar_mode (pid) (v) : (s.setPar pid v).mode = s.mode := rfl
@[simp] theorem State.setPar_cp (pid) (v) : (s.setPar pid v).cp = s.cp := rfl
@[simp] theorem State.setPar_ports (pid) (v) : (s.setPar pid v).ports = s.ports := rfl
@[simp] theorem State.setPar_tap (pid) (v) : (s.setPar pid v).tap = s.tap := rfl
@[simp] theorem State.setPar_queues (pid) (v) : (s.setPar pid v).queues = s.queues := rfl
@[simp] theorem State.setPar_channels (pid) (v) : (s.setPar pid v).channels = s.channels := rfl
@[simp] theorem State.setPar_islands (pid) (v) : (s.setPar pid v).islands = s.islands := rfl
@[simp] theorem State.setPar_engine (pid) (v) : (s.setPar pid v).engine = s.engine := rfl
@[simp] theorem State.setPar_q8 (pid) (v) : (s.setPar pid v).q8 = s.q8 := rfl
@[simp] theorem State.setPar_q28 (pid) (v) : (s.setPar pid v).q28 = s.q28 := rfl
@[simp] theorem State.setPar_points (pid) (v) : (s.setPar pid v).points = s.points := rfl
@[simp] theorem State.setPar_bindSeq (pid) (v) : (s.setPar pid v).bindSeq = s.bindSeq := rfl
@[simp] theorem State.setPar_pulses (pid) (v) : (s.setPar pid v).pulses = s.pulses := rfl
@[simp] theorem State.setPar_groups (pid) (v) : (s.setPar pid v).groups = s.groups := rfl
@[simp] theorem State.setPar_tariff (pid) (v) : (s.setPar pid v).tariff = s.tariff := rfl
@[simp] theorem State.setPar_relays (pid) (v) : (s.setPar pid v).relays = s.relays := rfl
@[simp] theorem State.setPar_pq (pid) (v) : (s.setPar pid v).pq = s.pq := rfl
@[simp] theorem State.setPar_events (pid) (v) : (s.setPar pid v).events = s.events := rfl
@[simp] theorem State.setPar_tamper (pid) (v) : (s.setPar pid v).tamper = s.tamper := rfl
@[simp] theorem State.setPar_store (pid) (v) : (s.setPar pid v).store = s.store := rfl
@[simp] theorem State.setPar_security (pid) (v) : (s.setPar pid v).security = s.security := rfl
@[simp] theorem State.setPar_images (pid) (v) : (s.setPar pid v).images = s.images := rfl
@[simp] theorem State.setPar_free (pid) (v) : (s.setPar pid v).free = s.free := rfl

@[simp] theorem State.reply_pending (p r) : (s.reply p r).pending = s.pending := by unfold State.reply; split <;> rfl
@[simp] theorem State.reply_fuses (p r) : (s.reply p r).fuses = s.fuses := by unfold State.reply; split <;> rfl
@[simp] theorem State.reply_otp (p r) : (s.reply p r).otp = s.otp := by unfold State.reply; split <;> rfl
@[simp] theorem State.reply_power (p r) : (s.reply p r).power = s.power := by unfold State.reply; split <;> rfl
@[simp] theorem State.reply_clock (p r) : (s.reply p r).clock = s.clock := by unfold State.reply; split <;> rfl
@[simp] theorem State.reply_mode (p r) : (s.reply p r).mode = s.mode := by unfold State.reply; split <;> rfl
@[simp] theorem State.reply_cp (p r) : (s.reply p r).cp = s.cp := by unfold State.reply; split <;> rfl
@[simp] theorem State.reply_queues (p r) : (s.reply p r).queues = s.queues := by unfold State.reply; split <;> rfl
@[simp] theorem State.reply_params (p r) : (s.reply p r).params = s.params := by unfold State.reply; split <;> rfl
@[simp] theorem State.reply_channels (p r) : (s.reply p r).channels = s.channels := by unfold State.reply; split <;> rfl
@[simp] theorem State.reply_islands (p r) : (s.reply p r).islands = s.islands := by unfold State.reply; split <;> rfl
@[simp] theorem State.reply_engine (p r) : (s.reply p r).engine = s.engine := by unfold State.reply; split <;> rfl
@[simp] theorem State.reply_q8 (p r) : (s.reply p r).q8 = s.q8 := by unfold State.reply; split <;> rfl
@[simp] theorem State.reply_q28 (p r) : (s.reply p r).q28 = s.q28 := by unfold State.reply; split <;> rfl
@[simp] theorem State.reply_points (p r) : (s.reply p r).points = s.points := by unfold State.reply; split <;> rfl
@[simp] theorem State.reply_bindSeq (p r) : (s.reply p r).bindSeq = s.bindSeq := by unfold State.reply; split <;> rfl
@[simp] theorem State.reply_pulses (p r) : (s.reply p r).pulses = s.pulses := by unfold State.reply; split <;> rfl
@[simp] theorem State.reply_groups (p r) : (s.reply p r).groups = s.groups := by unfold State.reply; split <;> rfl
@[simp] theorem State.reply_tariff (p r) : (s.reply p r).tariff = s.tariff := by unfold State.reply; split <;> rfl
@[simp] theorem State.reply_relays (p r) : (s.reply p r).relays = s.relays := by unfold State.reply; split <;> rfl
@[simp] theorem State.reply_pq (p r) : (s.reply p r).pq = s.pq := by unfold State.reply; split <;> rfl
@[simp] theorem State.reply_events (p r) : (s.reply p r).events = s.events := by unfold State.reply; split <;> rfl
@[simp] theorem State.reply_tamper (p r) : (s.reply p r).tamper = s.tamper := by unfold State.reply; split <;> rfl
@[simp] theorem State.reply_store (p r) : (s.reply p r).store = s.store := by unfold State.reply; split <;> rfl
@[simp] theorem State.reply_security (p r) : (s.reply p r).security = s.security := by unfold State.reply; split <;> rfl
@[simp] theorem State.reply_images (p r) : (s.reply p r).images = s.images := by unfold State.reply; split <;> rfl
@[simp] theorem State.reply_free (p r) : (s.reply p r).free = s.free := by unfold State.reply; split <;> rfl

@[simp] theorem State.replyOk_pending (r p w) : (s.replyOk r p w).pending = s.pending := State.reply_pending ..
@[simp] theorem State.replyOk_fuses (r p w) : (s.replyOk r p w).fuses = s.fuses := State.reply_fuses ..
@[simp] theorem State.replyOk_otp (r p w) : (s.replyOk r p w).otp = s.otp := State.reply_otp ..
@[simp] theorem State.replyOk_power (r p w) : (s.replyOk r p w).power = s.power := State.reply_power ..
@[simp] theorem State.replyOk_clock (r p w) : (s.replyOk r p w).clock = s.clock := State.reply_clock ..
@[simp] theorem State.replyOk_mode (r p w) : (s.replyOk r p w).mode = s.mode := State.reply_mode ..
@[simp] theorem State.replyOk_cp (r p w) : (s.replyOk r p w).cp = s.cp := State.reply_cp ..
@[simp] theorem State.replyOk_queues (r p w) : (s.replyOk r p w).queues = s.queues := State.reply_queues ..
@[simp] theorem State.replyOk_params (r p w) : (s.replyOk r p w).params = s.params := State.reply_params ..
@[simp] theorem State.replyOk_channels (r p w) : (s.replyOk r p w).channels = s.channels := State.reply_channels ..
@[simp] theorem State.replyOk_islands (r p w) : (s.replyOk r p w).islands = s.islands := State.reply_islands ..
@[simp] theorem State.replyOk_engine (r p w) : (s.replyOk r p w).engine = s.engine := State.reply_engine ..
@[simp] theorem State.replyOk_q8 (r p w) : (s.replyOk r p w).q8 = s.q8 := State.reply_q8 ..
@[simp] theorem State.replyOk_q28 (r p w) : (s.replyOk r p w).q28 = s.q28 := State.reply_q28 ..
@[simp] theorem State.replyOk_points (r p w) : (s.replyOk r p w).points = s.points := State.reply_points ..
@[simp] theorem State.replyOk_bindSeq (r p w) : (s.replyOk r p w).bindSeq = s.bindSeq := State.reply_bindSeq ..
@[simp] theorem State.replyOk_pulses (r p w) : (s.replyOk r p w).pulses = s.pulses := State.reply_pulses ..
@[simp] theorem State.replyOk_groups (r p w) : (s.replyOk r p w).groups = s.groups := State.reply_groups ..
@[simp] theorem State.replyOk_tariff (r p w) : (s.replyOk r p w).tariff = s.tariff := State.reply_tariff ..
@[simp] theorem State.replyOk_relays (r p w) : (s.replyOk r p w).relays = s.relays := State.reply_relays ..
@[simp] theorem State.replyOk_pq (r p w) : (s.replyOk r p w).pq = s.pq := State.reply_pq ..
@[simp] theorem State.replyOk_events (r p w) : (s.replyOk r p w).events = s.events := State.reply_events ..
@[simp] theorem State.replyOk_tamper (r p w) : (s.replyOk r p w).tamper = s.tamper := State.reply_tamper ..
@[simp] theorem State.replyOk_store (r p w) : (s.replyOk r p w).store = s.store := State.reply_store ..
@[simp] theorem State.replyOk_security (r p w) : (s.replyOk r p w).security = s.security := State.reply_security ..
@[simp] theorem State.replyOk_images (r p w) : (s.replyOk r p w).images = s.images := State.reply_images ..
@[simp] theorem State.replyOk_free (r p w) : (s.replyOk r p w).free = s.free := State.reply_free ..

@[simp] theorem State.draw_pending : s.draw.2.pending = s.pending := rfl
@[simp] theorem State.draw_fuses : s.draw.2.fuses = s.fuses := rfl
@[simp] theorem State.draw_otp : s.draw.2.otp = s.otp := rfl
@[simp] theorem State.draw_power : s.draw.2.power = s.power := rfl
@[simp] theorem State.draw_clock : s.draw.2.clock = s.clock := rfl
@[simp] theorem State.draw_mode : s.draw.2.mode = s.mode := rfl
@[simp] theorem State.draw_cp : s.draw.2.cp = s.cp := rfl
@[simp] theorem State.draw_ports : s.draw.2.ports = s.ports := rfl
@[simp] theorem State.draw_tap : s.draw.2.tap = s.tap := rfl
@[simp] theorem State.draw_queues : s.draw.2.queues = s.queues := rfl
@[simp] theorem State.draw_params : s.draw.2.params = s.params := rfl
@[simp] theorem State.draw_channels : s.draw.2.channels = s.channels := rfl
@[simp] theorem State.draw_islands : s.draw.2.islands = s.islands := rfl
@[simp] theorem State.draw_engine : s.draw.2.engine = s.engine := rfl
@[simp] theorem State.draw_q8 : s.draw.2.q8 = s.q8 := rfl
@[simp] theorem State.draw_q28 : s.draw.2.q28 = s.q28 := rfl
@[simp] theorem State.draw_points : s.draw.2.points = s.points := rfl
@[simp] theorem State.draw_bindSeq : s.draw.2.bindSeq = s.bindSeq := rfl
@[simp] theorem State.draw_pulses : s.draw.2.pulses = s.pulses := rfl
@[simp] theorem State.draw_groups : s.draw.2.groups = s.groups := rfl
@[simp] theorem State.draw_tariff : s.draw.2.tariff = s.tariff := rfl
@[simp] theorem State.draw_relays : s.draw.2.relays = s.relays := rfl
@[simp] theorem State.draw_pq : s.draw.2.pq = s.pq := rfl
@[simp] theorem State.draw_events : s.draw.2.events = s.events := rfl
@[simp] theorem State.draw_tamper : s.draw.2.tamper = s.tamper := rfl
@[simp] theorem State.draw_store : s.draw.2.store = s.store := rfl
@[simp] theorem State.draw_security : s.draw.2.security = s.security := rfl
@[simp] theorem State.draw_images : s.draw.2.images = s.images := rfl

@[simp] theorem State.drawBytes_pending (n) : (s.drawBytes n).2.pending = s.pending := rfl
@[simp] theorem State.drawBytes_fuses (n) : (s.drawBytes n).2.fuses = s.fuses := rfl
@[simp] theorem State.drawBytes_otp (n) : (s.drawBytes n).2.otp = s.otp := rfl
@[simp] theorem State.drawBytes_power (n) : (s.drawBytes n).2.power = s.power := rfl
@[simp] theorem State.drawBytes_clock (n) : (s.drawBytes n).2.clock = s.clock := rfl
@[simp] theorem State.drawBytes_mode (n) : (s.drawBytes n).2.mode = s.mode := rfl
@[simp] theorem State.drawBytes_cp (n) : (s.drawBytes n).2.cp = s.cp := rfl
@[simp] theorem State.drawBytes_ports (n) : (s.drawBytes n).2.ports = s.ports := rfl
@[simp] theorem State.drawBytes_tap (n) : (s.drawBytes n).2.tap = s.tap := rfl
@[simp] theorem State.drawBytes_queues (n) : (s.drawBytes n).2.queues = s.queues := rfl
@[simp] theorem State.drawBytes_params (n) : (s.drawBytes n).2.params = s.params := rfl
@[simp] theorem State.drawBytes_channels (n) : (s.drawBytes n).2.channels = s.channels := rfl
@[simp] theorem State.drawBytes_islands (n) : (s.drawBytes n).2.islands = s.islands := rfl
@[simp] theorem State.drawBytes_engine (n) : (s.drawBytes n).2.engine = s.engine := rfl
@[simp] theorem State.drawBytes_q8 (n) : (s.drawBytes n).2.q8 = s.q8 := rfl
@[simp] theorem State.drawBytes_q28 (n) : (s.drawBytes n).2.q28 = s.q28 := rfl
@[simp] theorem State.drawBytes_points (n) : (s.drawBytes n).2.points = s.points := rfl
@[simp] theorem State.drawBytes_bindSeq (n) : (s.drawBytes n).2.bindSeq = s.bindSeq := rfl
@[simp] theorem State.drawBytes_pulses (n) : (s.drawBytes n).2.pulses = s.pulses := rfl
@[simp] theorem State.drawBytes_groups (n) : (s.drawBytes n).2.groups = s.groups := rfl
@[simp] theorem State.drawBytes_tariff (n) : (s.drawBytes n).2.tariff = s.tariff := rfl
@[simp] theorem State.drawBytes_relays (n) : (s.drawBytes n).2.relays = s.relays := rfl
@[simp] theorem State.drawBytes_pq (n) : (s.drawBytes n).2.pq = s.pq := rfl
@[simp] theorem State.drawBytes_events (n) : (s.drawBytes n).2.events = s.events := rfl
@[simp] theorem State.drawBytes_tamper (n) : (s.drawBytes n).2.tamper = s.tamper := rfl
@[simp] theorem State.drawBytes_store (n) : (s.drawBytes n).2.store = s.store := rfl
@[simp] theorem State.drawBytes_security (n) : (s.drawBytes n).2.security = s.security := rfl
@[simp] theorem State.drawBytes_images (n) : (s.drawBytes n).2.images = s.images := rfl

@[simp] theorem State.configWrite_pending : s.configWrite.pending = s.pending := rfl
@[simp] theorem State.configWrite_fuses : s.configWrite.fuses = s.fuses := rfl
@[simp] theorem State.configWrite_otp : s.configWrite.otp = s.otp := rfl
@[simp] theorem State.configWrite_power : s.configWrite.power = s.power := rfl
@[simp] theorem State.configWrite_clock : s.configWrite.clock = s.clock := rfl
@[simp] theorem State.configWrite_mode : s.configWrite.mode = s.mode := rfl
@[simp] theorem State.configWrite_cp : s.configWrite.cp = s.cp := rfl
@[simp] theorem State.configWrite_ports : s.configWrite.ports = s.ports := rfl
@[simp] theorem State.configWrite_tap : s.configWrite.tap = s.tap := rfl
@[simp] theorem State.configWrite_queues : s.configWrite.queues = s.queues := rfl
@[simp] theorem State.configWrite_params : s.configWrite.params = s.params := rfl
@[simp] theorem State.configWrite_channels : s.configWrite.channels = s.channels := rfl
@[simp] theorem State.configWrite_islands : s.configWrite.islands = s.islands := rfl
@[simp] theorem State.configWrite_engine : s.configWrite.engine = s.engine := rfl
@[simp] theorem State.configWrite_q8 : s.configWrite.q8 = s.q8 := rfl
@[simp] theorem State.configWrite_q28 : s.configWrite.q28 = s.q28 := rfl
@[simp] theorem State.configWrite_points : s.configWrite.points = s.points := rfl
@[simp] theorem State.configWrite_bindSeq : s.configWrite.bindSeq = s.bindSeq := rfl
@[simp] theorem State.configWrite_pulses : s.configWrite.pulses = s.pulses := rfl
@[simp] theorem State.configWrite_groups : s.configWrite.groups = s.groups := rfl
@[simp] theorem State.configWrite_tariff : s.configWrite.tariff = s.tariff := rfl
@[simp] theorem State.configWrite_relays : s.configWrite.relays = s.relays := rfl
@[simp] theorem State.configWrite_pq : s.configWrite.pq = s.pq := rfl
@[simp] theorem State.configWrite_events : s.configWrite.events = s.events := rfl
@[simp] theorem State.configWrite_tamper : s.configWrite.tamper = s.tamper := rfl
@[simp] theorem State.configWrite_security : s.configWrite.security = s.security := rfl
@[simp] theorem State.configWrite_images : s.configWrite.images = s.images := rfl

end Sys2Proof.Machine
end

