-- ==== Sys2Proof/Tests/Slice0.lean ====
section
/-! SUPPORT. The tests of the model: for each obligation a witness that meets all its hypotheses together, one ill-formed
command for each check of WellFormed, and the worked examples of the spec. -/
namespace Sys2Proof.Tests
open Sys2Proof.Machine

set_option Elab.async false

/-! ## States and requests for the tests -/

/-- A device that meters in METER, without seal, its control plane ready. -/
def up : State := { State.reset with
  power := { State.reset.power with src := .vhold, vddioMv := 3300 }
  cp := { State.reset.cp with st := .ready }
  mode := { State.reset.mode with mode := .meter, base := .meter, ret := .meter, bootStep := 5 } }

/-- The same in another mode. -/
def upIn (m : Mode) : State := up.onMode fun x => { x with mode := m }

/-- A request of a port with its parameter bytes. -/
def ask (params : List Byte) (port : Nat := 0) : Request := { port := port, tag := 1, params := params }

/-- A binding of point 0 to the first voltage and current channels. -/
def bind0 : Binding := { ch := [0, 0xFFFF, 0xFFFF, 1, 0xFFFF, 0xFFFF, 2], seq := 1 }

/-- A channel in a role. -/
def role (r : Nat) (h : Channel) : Channel := { h with set := { h.set with role := r }, fs := 1 }

/-- The device with point 0 bound, and its three channels in their roles. -/
def metered : State :=
  (((up.onPoint 0 fun p => { p with bind := some bind0 }).onChan 0 (role 1)).onChan 1 (role 2)).onChan 2 (role 3)

/-- A session that loads control-core firmware into slot B. -/
def session0 : LoadSession := { slot := 1, total := 3374, received := 3373 }

/-- An operation of port 0. -/
def op0 : OpRef := { port := 0, handle := 1 }

/-! ## WellFormed: what each check refuses -/

theorem test_wf_ports : Instr.wellFormed (.getIdentity (ask [] 4)) = false ∧ Instr.wellFormed (.readPortStatus 1) = false
    ∧ Instr.wellFormed (.writePacketQ 1 []) = false ∧ Instr.wellFormed (.getIdentity (ask [] 3)) = true := by decide
theorem test_wf_packet_length : (ask (zeros 4081)).wellFormed = false ∧ (ask (zeros 4080)).wellFormed = true := by
  unfold ask Request.wellFormed zeros
  simp only [List.length_replicate]
  decide
theorem test_wf_bypass : Instr.wellFormed (.bypass 0x01) = false ∧ Instr.wellFormed (.bypass 0xFF) = true := by decide
theorem test_wf_units : Instr.wellFormed (.tokenLockoutEnd 256) = false ∧ Instr.wellFormed (.cycleCommit 256) = false
    ∧ Instr.wellFormed (.noCrossing 512) = false ∧ Instr.wellFormed (.islandSupplyCheck 8 0 0 0) = false
    ∧ Instr.wellFormed (.creditResync 32) = false ∧ Instr.wellFormed (.balanceWindow 16) = false
    ∧ Instr.wellFormed (.pulseEdge 8) = false ∧ Instr.wellFormed (.pulseEdge 7) = true := by decide
theorem test_wf_session : Instr.wellFormed (.sessionKeyExpiry 3) = false ∧ Instr.wellFormed (.sessionKeyExpiry 2) = true := by decide
theorem test_wf_round : RoundInput.wellFormed { mods := [(512, [])] } = false ∧ RoundInput.wellFormed { lateChans := [512] } = false
    ∧ RoundInput.wellFormed { latePoints := [256] } = false ∧ RoundInput.wellFormed { upsets := [{ queue := 12, chan := 0, word := 0, bit := 0 }] } = false
    ∧ RoundInput.wellFormed { mods := [(511, [])], latePoints := [255] } = true := by decide
theorem test_wf_adjournment :
    Instr.wellFormed (.adjournment { sStop := 0, vholdMv := 0, vbatMv := 0, last := { lateChans := [512] } }) = false := by decide
theorem test_wf_samples : Instr.wellFormed (.relayRefresh (List.replicate 513 false)) = false
    ∧ Instr.wellFormed (.relayRefresh (List.replicate 512 false)) = true := by
  unfold Instr.wellFormed
  simp only [List.length_replicate]
  decide

/-! ## The spec's worked examples and tables -/

/-- R8: round_half_even takes a tie to the even integer. -/
theorem test_round_half_even : roundDiv 5 2 = 2 ∧ roundDiv 7 2 = 4 ∧ roundDiv (-7) 2 = -4 ∧ roundDiv (-5) 2 = -2 := by decide
/-- R132 on the 512-channel variant, and the fixed bits on every variant. -/
theorem test_idcode : State.reset.idcode = 0x005123AD := by decide
/-- R167 and R219, the example of 06_converters: 102 236 counts, in sixteenths, at 320 000 are 78.00 degrees. -/
theorem test_aux_example : auxValue { gcorr := 320000, off := 0 } (16 * 102236) = 7800 := by decide
/-- R67 and R69, the example of 03_supply: the aged capacitor of cabinet T-114. -/
theorem test_capacitor_example : measuredUf { vaUv := 11950000, vbUv := 11405000, idevUa := 140000, stepUv := 8000 } = 1982
    ∧ healthOf 1982 80 545000 = .healthy := by decide +kernel
/-- R74: V_ADJ of that capacitor is 6.67 V. -/
theorem test_vadj_example : ({ State.reset.power with health := .healthy, cUf := 1982 } : Power).vAdjMv = 6668 := by decide +kernel
/-- R262, the example of 09_energy: d = 6, u = 0.01 kWh. -/
theorem test_legal_example : legalOf 6 9999000000 = (999900, 0) ∧ legalOf 6 10000350000 = (35, 1) := by decide
/-- R340, the example of 12_prepayment: 13 quanta at 180 000. -/
theorem test_deduct_example :
    let t := (up.onLedger 77 fun l => { l with deductRem := 998500000 }).deduct 77 13 180000
    (t.point 77).ledger.deductRem = 840000 ∧ (t.point 77).ledger.credit = -1 := by decide +kernel
/-- R349, the token of the example of 12_prepayment. -/
theorem test_token_example :
    digitsValue ("00020719281003715607".toList.map fun c => BitVec.ofNat 8 c.toNat) 0 = some 20719281003715607
    ∧ bits 20719281003715607 62 4 = 0 ∧ bits 20719281003715607 42 20 = 4711 ∧ tokenAmount 20719281003715607 = 5000
    ∧ bits 20719281003715607 0 24 = 0x3A5C17 := by decide +kernel
/-- R352, R353 of that token: H 4 709 becomes 4 711, a repeat is used, a serial 1 024 behind is old. -/
theorem test_token_window :
    (({ h := 4709, bitmap := 1 } : Ledger).takeSerial 4711).h = 4711
    ∧ (({ h := 4709, bitmap := 1 } : Ledger).takeSerial 4711).tokenFails 0 4711 5000 = some .tokenUsed
    ∧ (({ h := 4709, bitmap := 1 } : Ledger).takeSerial 4711).tokenFails 0 3687 5000 = some .tokenOld
    ∧ (({ h := 4709, bitmap := 1 } : Ledger).takeSerial 4711).tokenFails 0 4710 5000 = none := by decide +kernel
/-- R351: 50.00 currency on credit of -150 milli-currency. -/
theorem test_token_credit :
    (((metered.onLedger 0 fun l => { l with credit := -150 }).tokenEffect
      { port := 1, mp := 0, class_ := 0, serial := 4711, amount := 5000 } 128).point 0).ledger.credit = 49850 := by decide +kernel
/-- R268: a constant of 100 000 pulses for each unit gives ten quanta a pulse. -/
theorem test_pulse_threshold : ({ constant := 100000 } : Pulse).th = 10 * 2 ^ 32 := by decide +kernel
/-- R141: SHAKE256 of nothing (FIPS 202). -/
theorem test_shake256_empty : shake256 [] 4 = [0x46, 0xB9, 0xDD, 0x2B] := by decide +kernel
/-- R136: the check value of CRC-32C. -/
theorem test_crc : crc32c ("123456789".toList.map fun c => BitVec.ofNat 8 c.toNat) = 0xE3069283 := by decide +kernel

/-! ## A witness for the hypotheses of every statement -/

theorem witness_StepRunsFrontCommand : ({ State.reset with pending := [.notice 0] } : State).pending = Instr.notice 0 :: [] := rfl
theorem witness_EmptyQueueIdles : State.reset.pending = [] := rfl
theorem witness_EveryStepKeepsInvariant : Inv State.reset ∧ step State.reset = .next State.reset := by
  refine ⟨⟨?_, rfl, List.Pairwise.nil⟩, rfl⟩
  show (3, (List.replicate 512 _).length, (List.replicate 8 _).length, (List.replicate 256 _).length, (List.replicate 8 _).length,
    (List.replicate 16 _).length) = _
  simp only [List.length_replicate]
theorem witness_EveryStepOnlyProgramsOtp : step State.reset = .next State.reset := rfl
theorem witness_LifecycleNeverGoesBack : step State.reset = .next State.reset := rfl
theorem witness_CommandsLeaveQueueAndFuses : ∃ t, exec (.notice 0) up = .next t := ⟨_, rfl⟩
theorem witness_SampleIndexMovesOnly : ∃ t, exec (.referenceWindow 0) (up.onClock fun c => { c with refLost := true }) = .next t ∧ t.now ≠ up.now :=
  ⟨_, rfl, by decide⟩
theorem witness_SerialOrderOfEvents : (3 : Nat) < 2 ^ 32 ∧ (5 : Nat) < 2 ^ 32 := by decide
theorem witness_IdcodeHasItsFields :
    ({ State.reset with fuses := { State.reset.fuses with dieRev := 1 } } : State).fuses.variant = .v512
    ∧ ({ State.reset with fuses := { State.reset.fuses with dieRev := 1 } } : State).fuses.dieRev = 1 := ⟨rfl, rfl⟩
theorem witness_TokenFields : (∀ d ∈ [9, 0, 5], d ≤ 9) ∧ (15 : Nat) < 16 ∧ 1048575 < 2 ^ 20 ∧ 16383 < 2 ^ 14 ∧ 16777215 < 2 ^ 24 := by decide
theorem witness_WindowTakesEachSeqOnce : seqOk 5 1 6 = true ∧ seqOk 5 1 5 = false := by decide
theorem witness_HostRegionReadsBack : Memory.wf [((7 : Nat), (1 : BitVec 8))] = true ∧ (2 : Nat) < 3 := by decide

theorem witness_IdentityAndNotificationComplete :
    Asked up (ask []) 0x0001 ∧ (ask []).port ≠ 3 ∧ Asked up (ask [] 3) 0x0001 ∧ Asked up (ask []) 0x0002
    ∧ (Asked up (ask [126, 0, 0, 0]) 0x0005 ∧ isZero (ask [126, 0, 0, 0]).params 1 3 = true ∧ byteAt (ask [126, 0, 0, 0]) 0 ≤ 126
      ∧ latestSeq (up.port 0).latchSeq ((bitsSet (up.latchOf 0).toNat 64).filter fun b => !(decide (8 ≤ b) && decide (b ≤ 10))) = none
      ∧ latestSeq [7, 9] [0, 1] = some 9)
    ∧ (Asked up (ask (zeros 16)) 0x0006 ∧ (ask (zeros 16)).params.length = 16 ∧ isZero (ask (zeros 16)).params 12 4 = true)
    ∧ Asked up (ask (zeros 8)) 0x0007 ∧ (ask (zeros 8)).params.length = 8 := by and_intros <;> first | decide | rfl
theorem witness_ParameterReadsComplete :
    (Asked up (ask [0, 1, 0, 0]) 0x0101 ∧ isZero (ask [0, 1, 0, 0]).params 2 2 = true ∧ fieldAt (ask [0, 1, 0, 0]) 0 2 = 0x100
      ∧ pidInRange 0x100 = true ∧ up.pidAbsent 0x100 = false)
    ∧ Asked up (ask [0, 0x10, 2, 0, 0, 0, 0, 0]) 0x0103 ∧ isZero (ask [0, 0x10, 2, 0, 0, 0, 0, 0]).params 4 4 = true
      ∧ pidInRange 0x1000 = true ∧ 0x1000 + 2 ≤ pidRangeEnd 0x1000 + 1 ∧ ∀ i < 2, up.pidAbsent (0x1000 + i) = false := by and_intros <;> first | decide | rfl
/-- A value staged on port 0. -/
def staged : State := up.onPort 0 fun p => { p with pendingSet := [(0x10, 60)] }

theorem witness_ParameterWritesComplete :
    (Takes up (ask [16, 0, 1, 0, 60, 0, 0, 0]) ∧ authField (ask [16, 0, 1, 0, 60, 0, 0, 0]) 8 = .ok []
      ∧ fieldAt (ask [16, 0, 1, 0, 60, 0, 0, 0]) 0 2 = 0x10
      ∧ byteAt (ask [16, 0, 1, 0, 60, 0, 0, 0]) 2 < 2 ∧ isZero (ask [16, 0, 1, 0, 60, 0, 0, 0]).params 3 1 = true
      ∧ up.write3 0x10 60 = .ok () ∧ up.write4 [(0x10, 60)] = .ok ()
      ∧ order5 up up.time (ask [16, 0, 1, 0, 60, 0, 0, 0]) 0x0102 (if up.access 0x10 = some .rwA then some 1 else none) 8 [] = .ok up
      ∧ up.sealFails 0x10 60 = none ∧ up.mode.mode.responding = true ∧ up.aloneOk 0x10 60 = true
      ∧ bit (byteAt (ask [16, 0, 1, 0, 60, 0, 0, 0]) 2) 0 = true ∧ stageFull (up.port 0).pendingSet [0x10] = false)
    ∧ (authField (ask [16, 0, 0, 0, 60, 0, 0, 0]) 8 = .ok [] ∧ bit (byteAt (ask [16, 0, 0, 0, 60, 0, 0, 0]) 2) 0 = false
      ∧ up.directFails [(0x10, 60)] = none)
    ∧ (authField (ask [16, 0, 1, 0, 1, 0, 0, 0, 60, 0, 0, 0]) (8 + 4 * 1) = .ok []
      ∧ byteAt (ask [16, 0, 1, 0, 1, 0, 0, 0, 60, 0, 0, 0]) 4 < 2 ∧ isZero (ask [16, 0, 1, 0, 1, 0, 0, 0, 60, 0, 0, 0]).params 5 3 = true
      ∧ pidInRange 0x10 = true ∧ 0x10 + 1 ≤ pidRangeEnd 0x10 + 1
      ∧ checkAll (fun e => up.write3 e.1 e.2) (up.blockWrites 0x10 [60]) = .ok () ∧ up.write4 (up.blockWrites 0x10 [60]) = .ok ()
      ∧ order5 up up.time (ask [16, 0, 1, 0, 1, 0, 0, 0, 60, 0, 0, 0]) 0x0104
        (if (List.range 1).any fun i => up.access (0x10 + i) == some .rwA then some 1 else none) 12 [] = .ok up
      ∧ checkAll (fun e => up.write6 e.1 e.2) (up.blockWrites 0x10 [60]) = .ok ()
      ∧ checkAll (fun e => up.write8 e.1 e.2) (up.blockWrites 0x10 [60]) = .ok ()
      ∧ checkAll (fun e => need (up.aloneOk e.1 e.2) .badParameter) (up.blockWrites 0x10 [60]) = .ok ()
      ∧ stageFull (up.port 0).pendingSet ((up.blockWrites 0x10 [60]).map fun e => e.1) = false
      ∧ up.directFails (up.blockWrites 0x10 [60]) = none)
    ∧ (Asked staged (ask [0, 0, 0, 0]) 0x0105 ∧ (staged.port 0).pendingSet ≠ [] ∧ (staged.port 0).handles.length < 64
      ∧ Asked up (ask [1, 0, 0, 0]) 0x0105) := by
  and_intros <;> first | decide | rfl
theorem witness_commitParams : ∃ t o, (staged.onPort 0 fun p => { p with pendingSet := [] }).accept (ask [0, 0, 0, 0]) 0x0105 = some (t, o)
    ∧ t.recheckAll 0 0 [(0x10, 60)] = none ∧ t.setFails [(0x10, 60)] = none := by
  refine ⟨_, _, rfl, ?_, ?_⟩ <;> rfl
theorem witness_LongCommandsGetHandles : (ask []).port < 3 ∧ (ask []).port < up.ports.length ∧ (up.port 0).handles.length < 64
    ∧ 64 ≤ ((up.onPort 0 fun p => { p with handles := List.replicate 64 {} }).port 0).handles.length := by decide
theorem witness_HandleCommandsComplete :
    Asked up (ask [1, 0]) 0x0B01 ∧ Asked up (ask [1, 0]) 0x0B02 ∧ up.entry { port := 0, handle := fieldAt (ask [1, 0]) 0 2 } = none
    ∧ (up.onPort 0 fun p => { p with handles := [{ handle := 1 }] }).entry { port := 0, handle := 1 } = some { handle := 1 }
    ∧ Asked up (ask [0, 0, 1, 4]) 0x0B03 ∧ byteAt (ask [0, 0, 1, 4]) 2 < 2 := by and_intros <;> first | decide | rfl

theorem witness_UnitReadsComplete :
    (Asked up (ask [255, 1, 0, 0]) 0x0203 ∧ isZero (ask [255, 1, 0, 0]).params 2 2 = true ∧ 255 + 1 ≤ up.nMp)
    ∧ (Asked up (ask [0, 1, 255, 1]) 0x0204 ∧ fieldAt (ask [0, 1, 255, 1]) 2 2 = 511 ∧ 511 + 1 ≤ up.nChan
      ∧ ∀ i < 1, (up.isl ((511 + i) / 64)).retired = false)
    ∧ (Asked up (ask [1, 1, 255, 0]) 0x0204 ∧ fieldAt (ask [1, 1, 255, 0]) 2 2 = 255)
    ∧ (Asked up (ask [2, 8, 0, 0]) 0x0204 ∧ fieldAt (ask [2, 8, 0, 0]) 2 2 + 8 ≤ 8)
    ∧ (Asked up (ask [193, 63, 0, 0]) 0x0402 ∧ 193 + 63 ≤ 256)
    ∧ Asked up (ask [0, 126, 0, 0]) 0x0601 ∧ (∀ i < 126, (up.isl ((0 + i) / 64)).retired = false) ∧ Asked up (ask [1, 126, 0, 0]) 0x0601 := by and_intros <;> first | decide | rfl
/-- Harmonic analysis enabled on channels 0 to 31. -/
def harmonic : State := metered.setPar 0x210 0xFFFFFFFF
theorem witness_HarmonicReadsComplete :
    (Asked harmonic (ask [0, 0, 1, 0]) 0x0602 ∧ isZero (ask [0, 0, 1, 0]).params 1 1 = true ∧ harmonic.hasHarm = true
      ∧ fieldAt (ask [0, 0, 1, 0]) 2 2 = 1 ∧ 1 < harmonic.nChan ∧ harmonic.harmEnabled 1 = true
      ∧ (harmonic.isl (1 / 64)).retired = false)
    ∧ (Asked harmonic (ask [1, 0, 0, 0]) 0x0602 ∧ byteAt (ask [1, 0, 0, 0]) 0 = 1 ∧ (harmonic.point 0).bind = some bind0
      ∧ ∀ c ∈ bind0.chans, harmonic.harmEnabled c = true) := by and_intros <;> first | decide | rfl
/-- Point 0 with four profile entries of which one is marked. -/
def profiled : State := up.onPoint 0 fun p => { p with pseq := 4, pmark := 1 }
theorem witness_ProfileReadsComplete :
    (Asked profiled (ask [0, 0, 253, 0, 0, 0, 0, 0, 0, 0, 0, 0]) 0x0501
      ∧ fieldAt (ask [0, 0, 253, 0, 0, 0, 0, 0, 0, 0, 0, 0]) 2 2 ≤ 253)
    ∧ (Asked profiled (ask [0, 1, 4, 0, 0, 0, 0, 0, 0, 0, 0, 0]) 0x0501
      ∧ fieldAt (ask [0, 1, 4, 0, 0, 0, 0, 0, 0, 0, 0, 0]) 8 4 < (profiled.point 0).pmark
      ∧ (profiled.point 0).pmark ≤ (profiled.point 0).pseq)
    ∧ (Asked profiled (ask [0, 1, 4, 0, 0, 0, 0, 0, 3, 0, 0, 0]) 0x0501
      ∧ (profiled.point 0).pmark ≤ fieldAt (ask [0, 1, 4, 0, 0, 0, 0, 0, 3, 0, 0, 0]) 8 4
      ∧ fieldAt (ask [0, 1, 4, 0, 0, 0, 0, 0, 3, 0, 0, 0]) 8 4 < (profiled.point 0).pseq) := by and_intros <;> first | decide | rfl
theorem witness_StoreReadsComplete :
    (Asked up (ask [255, 23, 0, 0]) 0x0502 ∧ byteAt (ask [255, 23, 0, 0]) 0 < up.nMp ∧ isZero (ask [255, 23, 0, 0]).params 3 1 = true)
    ∧ (Asked up (ask [0, 0, 0, 0, 126, 0, 0, 0]) 0x0503 ∧ isZero (ask [0, 0, 0, 0, 126, 0, 0, 0]).params 5 3 = true)
    ∧ Asked up (ask []) 0x0506 := by and_intros <;> first | decide | rfl
/-- The log frozen. -/
def frozen : State := up.onEvents fun e => { e with freeze := some {} }
theorem witness_StoreCommandsComplete :
    (Takes up (ask [0, 0, 0, 0, 255, 255, 47, 0, 1, 0, 0, 0]) ∧ fieldAt (ask [0, 0, 0, 0, 255, 255, 47, 0, 1, 0, 0, 0]) 4 4 = 3145727
      ∧ needPriv up (ask [0, 0, 0, 0, 255, 255, 47, 0, 1, 0, 0, 0]) 0x0509 false true = .ok ())
    ∧ (needPriv up (ask [1, 0, 0, 0, 0, 0, 0, 0, 1, 0, 0, 0, 5]) 0x0509 false false = .ok ()
      ∧ (ask [1, 0, 0, 0, 0, 0, 0, 0, 1, 0, 0, 0, 5]).params.length = 12 + 1)
    ∧ (Asked up (ask []) 0x0507 ∧ up.store.scrub.nowOp = none ∧ (up.port 0).handles.length < 64)
    ∧ (Asked up (ask []) 0x0508 ∧ (up.port 0).handles.length < 64)
    ∧ (Asked up (ask []) 0x0504 ∧ up.events.freeze = none)
    ∧ (Asked up (ask []) 0x0505 ∧ frozen.events.freeze = some {} ∧ Asked frozen (ask []) 0x0505) := by
  and_intros <;> first | decide | rfl

/-- The device with one island, its channels in their roles and nothing bound. -/
def wired : State := { metered.onPoint 0 (fun p => { p with bind := none }) with fuses := { variant := .v064 } }
/-- BIND_MP of point 0 to channels 0 to 2. -/
def askBind : Request := ask ([0, 0, 0, 0, 0, 0, 255, 255, 255, 255, 1, 0, 255, 255, 255, 255, 2, 0, 0, 0] ++ zeros 16)
/-- The binding that it makes. -/
def made : Binding := { ch := [0, 0xFFFF, 0xFFFF, 1, 0xFFFF, 0xFFFF, 2], mpId := zeros 16, seq := 1,
                        start := wired.nextRound, time := wired.timeOf wired.nextRound }
/-- What the device has become when that binding has been written, before its reply. -/
def bindingOf (s : State) (b : Binding) : State :=
  ((((s.onPoint 0 fun p => p.rebind b (s.plan b.plan).rate (s.plan b.plan).friendly (s.standardMin b.time / 1440)).setBindSeq
    (s.bindSeq + 1)).configWrite).initialCauses 0 b)
/-- One lane at operating point 0 that already serves many channels. -/
def crowded : State := ((List.range 61).foldl (fun s i => s.onChan (3 + i) (role 1)) wired).onEngine fun e =>
  { e with clockPoint := 0, lanes := {} :: List.replicate 7 { retired := true } }
theorem witness_BindingCommandsComplete :
    (Takes wired askBind ∧ authField askBind 36 = .ok [] ∧ isZero askBind.params 18 2 = true
      ∧ (List.range 7).map (fun i => fieldAt askBind (4 + 2 * i) 2) = made.ch ∧ sub askBind.params 20 16 = made.mpId
      ∧ (∀ c ∈ made.ch, c = 0xFFFF ∨ c < 512 ∧ c < wired.nChan ∧ (wired.isl (c / 64)).retired = false)
      ∧ order5 wired wired.time askBind 0x0201 wired.opsWhenSealed 36 [] = .ok wired ∧ modeNoCal wired = .ok ()
      ∧ wired.bindSeq + 1 = made.seq ∧ (wired.point 0).bind = none
      ∧ ((made.ch.drop 3).any fun c => c != 0xFFFF && wired.bound c) = false ∧ wired.configured.bindingOk made = true
      ∧ (wired.configured.onPoint 0 fun p => { p with bind := some made }).ratesOk 0 = true
      ∧ ((wired.configured.onPoint 0 fun p => { p with bind := some made }).boundPoints.filter fun k =>
        match ((wired.configured.onPoint 0 fun p => { p with bind := some made }).point k).bind with
          | some y => y.isRef == made.isRef
          | none => false).length ≤ (if made.isRef then wired.refMax else wired.billMax)
      ∧ capacityFails wired.configured (wired.configured.onPoint 0 fun p => { p with bind := some made }) = false
      ∧ (bindingOf wired made).mustClimb (wired.configured.onPoint 0 fun p => { p with bind := some made }).load = false)
    ∧ (Takes crowded askBind ∧ crowded.configured.bindingOk made = true
      ∧ capacityFails crowded.configured (crowded.configured.onPoint 0 fun p => { p with bind := some made }) = false
      ∧ (bindingOf crowded made).mustClimb (crowded.configured.onPoint 0 fun p => { p with bind := some made }).load = true)
    ∧ (Takes metered (ask [0, 0, 0, 0]) ∧ authField (ask [0, 0, 0, 0]) 4 = .ok [] ∧ isZero (ask [0, 0, 0, 0]).params 1 3 = true
      ∧ order5 metered metered.time (ask [0, 0, 0, 0]) 0x0202 metered.opsWhenSealed 4 [] = .ok metered ∧ modeNoCal metered = .ok ()
      ∧ (metered.point 0).bind = some bind0 ∧ (metered.point 0).unbindAt = none
      ∧ metered.groups.all fun g => decide (g.set.window = 0) && g.next.isNone) := by and_intros <;> first | decide +kernel | rfl
/-- LOAD_FIR_BANK of one coefficient into bank 1. -/
def askBank : Request := ask [1, 1, 1, 0, 0, 0, 0, 0, 0, 0, 64]
/-- Point 0 as a reference point, point 1 as a billing point. -/
def balanced : State := (up.onPoint 0 fun p => { p with bind := some { bind0 with flags := 1 } }).onPoint 1 fun p =>
  { p with bind := some bind0 }
/-- SET_BALANCE_GROUP of group 15 with window 60, reference point 0 and member 1. -/
def askGroup : Request := ask ([15, 60, 0, 0, 64, 13, 3, 0] ++ zeros 4 ++ [2] ++ zeros 31)
theorem witness_EngineSettingsComplete :
    (Asked wired askBank 0x0106 ∧ askBank.params.length = 8 + 3 * 1 ∧ isZero askBank.params 4 4 = true ∧ wired.life ≠ .retired
      ∧ (wired.bank 1).pending = [] ∧ wired.life ≠ .sealed
      ∧ (∀ m ∈ (wired.withItems [.bank 1 1 1 (readCoeff (askBank.params.drop 8) 1)]).boundPoints,
        rateBreaks wired.configured (wired.withItems [.bank 1 1 1 (readCoeff (askBank.params.drop 8) 1)]) m = false)
      ∧ capacityFails wired.configured (wired.withItems [.bank 1 1 1 (readCoeff (askBank.params.drop 8) 1)]) = false)
    ∧ (Takes balanced askGroup ∧ askGroup.params.length = 44 ∧ fieldAt askGroup 4 4 = 200000 ∧ isZero askGroup.params 3 1 = true
      ∧ needMask balanced (fieldAt askGroup 12 32) = .ok () ∧ needPriv balanced askGroup 0x0205 = .ok () ∧ modeNoCal balanced = .ok ()
      ∧ (balanced.point 0).bind = some { bind0 with flags := 1 } ∧ ({ bind0 with flags := 1 } : Binding).isRef = true
      ∧ (∀ m ∈ bitsSet (fieldAt askGroup 12 32) 256, (balanced.point m).bind.isSome = true)
      ∧ (BitVec.ofNat 256 (fieldAt askGroup 12 32)).getLsbD 0 = false)
    ∧ (Asked metered (ask [7, 0, 28, 80, 64, 66, 15, 0]) 0x0206 ∧ fieldAt (ask [7, 0, 28, 80, 64, 66, 15, 0]) 4 4 = 1000000
      ∧ (metered.point 0).bind.isSome = true) := by
  and_intros <;> first | decide +kernel | rfl
theorem witness_TimeCommandsComplete :
    (Takes up (ask (zeros 8)) ∧ authField (ask (zeros 8)) 8 = .ok [] ∧ isZero (ask (zeros 8)).params 6 2 = true
      ∧ order5 up up.time (ask (zeros 8)) 0x0301 none 8 [] = .ok up ∧ (fieldAt (ask (zeros 8)) 0 6 : Int) - up.time = 0)
    ∧ (authField (ask [0, 0, 1, 0, 0, 0, 0, 0]) 8 = .ok [] ∧ (fieldAt (ask [0, 0, 1, 0, 0, 0, 0, 0]) 0 6 : Int) - up.time = 65536
      ∧ order5 up up.time (ask [0, 0, 1, 0, 0, 0, 0, 0]) 0x0301 (if 300 * 65536 < (65536 : Int).natAbs then some 1 else none) 8 [] = .ok up)
    ∧ (Asked up (ask [208, 7, 0, 0, 0, 0, 0, 0]) 0x0302 ∧ fldI (ask [208, 7, 0, 0, 0, 0, 0, 0]).params 0 4 = 2000
      ∧ ((up.clock.slewLog.filter fun e => decide (up.now < e.1 + 460800000)).map fun e => e.2).sum + 2000 ≤ 2000)
    ∧ (Takes up (ask [3, 1, 0, 0, 0, 0, 0, 0, 0, 64, 0, 0, 9]) ∧ fieldAt (ask [3, 1, 0, 0, 0, 0, 0, 0, 0, 64, 0, 0, 9]) 8 4 = 16384
      ∧ needPriv up (ask [3, 1, 0, 0, 0, 0, 0, 0, 0, 64, 0, 0, 9]) 0x0303 true = .ok ()
      ∧ joinFragment (up.security.plans.getD 3 none) true 0 16384 [9] 0 0 = some { total := 16384, data := [9] }
      ∧ ([9] : List Byte).length < 16384)
    ∧ (joinFragment (up.security.plans.getD 3 none) true 0 1 [9] 0 0 = some { total := 1, data := [9] }
      ∧ 1 ≤ ([9] : List Byte).length ∧ (up.port 0).handles.length < 64)
    ∧ (Asked up (ask [0, 0, 254, 0, 0, 0, 0, 0, 0, 0, 0, 0]) 0x0304 ∧ Asked up (ask [1, 0, 0, 0, 0, 0, 0, 0, 0, 0, 0, 0]) 0x0304
      ∧ isZero (ask [0, 0, 254, 0, 0, 0, 0, 0, 0, 0, 0, 0]).params 11 1 = true) := by
  and_intros <;> first | decide +kernel | rfl
theorem witness_BillingCommandsComplete :
    (Takes metered (ask (zeros 32)) ∧ needMask metered 0 = .ok () ∧ needPriv metered (ask (zeros 32)) 0x0305 = .ok ()
      ∧ metered.mode.mode = .meter ∧ bitsSet (fieldAt (ask (zeros 32)) 0 32) 256 = [] ∧ needBound metered [] = .ok ())
    ∧ (needMask metered (fieldAt (ask ([1] ++ zeros 31)) 0 32) = .ok () ∧ bitsSet (fieldAt (ask ([1] ++ zeros 31)) 0 32) 256 = [0]
      ∧ needBound metered [0] = .ok ())
    ∧ (needPriv metered (ask ([1] ++ zeros 31)) 0x0306 = .ok () ∧ modeNoCal metered = .ok ()) := by
  and_intros <;> first | decide +kernel | rfl
/-- Point 0 with a ledger and a vending key of its plan. -/
def vended : State := metered.onSec fun x => { x with vending := [{ key := some [1] }, {}, {}, {}] }
/-- A point whose ledger has taken token 5. -/
def usedUp : State := vended.onLedger 0 fun l => { l with h := 5, bitmap := 1 }
/-- A point that is locked out. -/
def lockedOut : State := metered.onLedger 0 fun l => { l with lockEnd := 1 }
/-- A token of class 0, serial 5 and mantissa 100, as its twenty digits (R349). -/
def digits : List Byte := [0x30, 0x30, 0x30, 0x30, 0x30, 0x30, 0x32, 0x31, 0x39, 0x39, 0x31, 0x39, 0x32, 0x30, 0x37, 0x30, 0x37, 0x34, 0x32, 0x31]
/-- SUBMIT_TOKEN of that token. -/
def askToken : Request := ask ([0, 0, 0, 0] ++ digits)
theorem witness_TokenSubmissionCompletes :
    (Takes vended askToken ∧ askToken.params.length = 24 ∧ isZero askToken.params 1 3 = true
      ∧ digitsValue (askToken.params.drop 4) 0 = some 21991920707421 ∧ 21991920707421 < 2 ^ 66 ∧ needPriv vended askToken 0x0401 = .ok ()
      ∧ modeMeter vended = .ok () ∧ needLedger vended 0 = .ok bind0)
    ∧ (needLedger lockedOut 0 = .ok bind0 ∧ lockedOut.now < (lockedOut.point 0).ledger.lockEnd)
    ∧ ((vended.point 0).ledger.lockEnd ≤ vended.now ∧ metered.vendKeys bind0.plan = [])
    ∧ ([1] ∈ vended.vendKeys bind0.plan ∧ tokenMac [1] bind0.mpId 21991920707421 = 21991920707421 % 2 ^ 24
      ∧ (vended.ledgerAhead 0).tokenFails (bits 21991920707421 62 4) (bits 21991920707421 42 20) (tokenAmount 21991920707421) = none
      ∧ [1] ∈ usedUp.vendKeys bind0.plan
      ∧ (usedUp.ledgerAhead 0).tokenFails (bits 21991920707421 62 4) (bits 21991920707421 42 20) (tokenAmount 21991920707421) = some .tokenUsed) := by
  and_intros <;> first | decide +kernel | rfl
/-- SET_CREDIT_POLICY of point 0. -/
def askPolicy : Request := ask ([1] ++ zeros 55 ++ [1] ++ zeros 7)
theorem witness_RelayCommandsComplete :
    (Takes metered (ask [0, 1, 0, 0, 0, 0, 0, 0]) ∧ authField (ask [0, 1, 0, 0, 0, 0, 0, 0]) 8 = .ok []
      ∧ isZero (ask [0, 1, 0, 0, 0, 0, 0, 0]).params 2 2 = true
      ∧ order5 metered metered.time (ask [0, 1, 0, 0, 0, 0, 0, 0]) 0x0403 metered.opsWhenSealed 8 [] = .ok metered)
    ∧ (Takes metered (ask [0, 0, 0, 0]) ∧ isZero (ask [0, 0, 0, 0]).params 1 3 = true
      ∧ needPriv metered (ask [0, 0, 0, 0]) 0x0404 = .ok () ∧ modeMeter metered = .ok () ∧ needLedger metered 0 = .ok bind0)
    ∧ (Takes metered askPolicy ∧ authField askPolicy 64 = .ok [] ∧ fieldAt askPolicy 32 4 < 16 ∧ 1 ≤ fieldAt askPolicy 56 8
      ∧ fieldAt askPolicy 56 8 ≤ 2 ^ 62 ∧ needMask metered (fieldAt askPolicy 0 32) = .ok ()
      ∧ order5 metered metered.time askPolicy 0x0405 metered.opsWhenSealed 64 [] = .ok metered ∧ modeNoCal metered = .ok ()
      ∧ bitsSet (fieldAt askPolicy 0 32) 256 = [0] ∧ metered.isBilling 0 = true ∧ fieldAt askPolicy 40 4 ≤ fieldAt askPolicy 36 4
      ∧ fieldAt askPolicy 44 4 ≤ fieldAt askPolicy 40 4 ∧ (metered.point 0).ledger.policy.getLsbD 0 = bit (fieldAt askPolicy 32 4) 0) := by
  and_intros <;> first | decide +kernel | rfl
/-- A capture in a state. -/
def captured (c : CaptureState) : State := metered.onCapture fun x => { x with state := c }
theorem witness_CaptureCommandsComplete :
    (Asked metered (ask [1, 0, 0, 0]) 0x0603 ∧ isZero (ask [1, 0, 0, 0]).params 3 1 = true ∧ metered.hasCapt = true
      ∧ metered.pq.capture.state ≠ .post ∧ metered.pq.capture.state ≠ .held)
    ∧ (Asked (captured .armed) (ask [8, 0, 0, 0]) 0x0603 ∧ (captured .armed).pq.capture.state = .armed
      ∧ bit (byteAt (ask [8, 0, 0, 0]) 0) 3 = true ∧ bit (byteAt (ask [9, 0, 0, 0]) 0) 0 = true)
    ∧ (Asked metered (ask [0, 62, 2, 0, 1, 0, 0, 0]) 0x0603 ∧ byteAt (ask [0, 62, 2, 0, 1, 0, 0, 0]) 1 % 2 = 0
      ∧ ([1, 0] : List Nat).Nodup ∧ (List.range 2).map (fun i => fieldAt (ask [0, 62, 2, 0, 1, 0, 0, 0]) (4 + 2 * i) 2) = [1, 0]
      ∧ ∀ c ∈ [1, 0], c ≤ 511 ∧ c < metered.nChan ∧ metered.islOn (c / 64) = true ∧ (metered.chan c).set.role ≠ 0)
    ∧ (Asked (captured .held) (ask [0, 0, 0, 0, 0, 1, 1, 0]) 0x0604 ∧ byteAt (ask [0, 0, 0, 0, 0, 1, 1, 0]) 6 < 2
      ∧ fieldAt (ask [0, 0, 0, 0, 0, 1, 1, 0]) 4 2 = 256 ∧ 256 ≤ (captured .held).pq.capture.length)
    ∧ (Asked up (ask [255, 0, 0, 0, 1, 0, 0, 0]) 0x0604 ∧ fieldAt (ask [255, 0, 0, 0, 1, 0, 0, 0]) 0 4 + 1 ≤ 256
      ∧ 256 ≤ up.pq.capture.length) := by and_intros <;> first | decide +kernel | rfl

/-- CAL_WRITE of one byte of a package of one byte. -/
def askCal : Request := ask [1, 0, 0, 0, 0, 0, 0, 0, 1, 0, 0, 0, 9]
/-- The device in CALIBRATE with its channels in their roles. -/
def calibrating : State := metered.onMode fun m => { m with mode := .calibrate }
/-- The same with a result of port 0. -/
def measured : State := calibrating.onPort 0 fun p => { p with calResults := [(1, zeros 4)] }
theorem witness_CalibrationCommandsComplete :
    (Asked up askCal 0x0701 ∧ isZero askCal.params 1 3 = true ∧ up.life ≠ .retired ∧ up.life ≠ .sealed
      ∧ joinFragment up.security.calPart true 0 1 [9] 0 0 = some { total := 1, data := [9] }
      ∧ (up.port 0).handles.length < 64)
    ∧ (joinFragment up.security.calPart true 0 65536 [9] 0 0 = some { total := 65536, data := [9] })
    ∧ (Takes measured (ask [1, 0, 0, 0, 0, 0, 1, 0, 1, 0, 0, 0])
      ∧ needPriv measured (ask [1, 0, 0, 0, 0, 0, 1, 0, 1, 0, 0, 0]) 0x0702 = .ok () ∧ measured.mode.mode = .calibrate
      ∧ ((measured.port 0).calResults.find? fun e => e.1 == fieldAt (ask [1, 0, 0, 0, 0, 0, 1, 0, 1, 0, 0, 0]) 8 2) = some (1, zeros 4))
    ∧ (Takes calibrating (ask [0, 0, 1, 0, 0, 0, 250, 0, 0, 0, 0, 0]) ∧ needChans calibrating [1, 0] = .ok ()
      ∧ (calibrating.chan 0).set.role = 1 ∧ meteringRole (calibrating.chan 1).set.role = true
      ∧ (calibrating.port 0).handles.length < 64)
    ∧ (Asked metered (ask [1, 0, 0, 0]) 0x0703 ∧ 1 < metered.nChan ∧ (metered.isl (1 / 64)).retired = false ∧ (metered.chan 1).set.role ≠ 0
      ∧ (metered.port 0).handles.length < 64) := by
  and_intros <;> first | decide +kernel | rfl
/-- The device with its seeds and its three first anchors, still in MANUFACTURE. -/
def seeded : State := up.onOtp fun o => { o with
  idSeed := some (zeros 32), transportSeed := some (zeros 64), opsAnchors := [zeros 32], metAnchors := [zeros 32] }
theorem witness_SealCompletes :
    (Takes up (ask [0, 0, 0, 0]) ∧ authField (ask [0, 0, 0, 0]) 4 = .ok [] ∧ isZero (ask [0, 0, 0, 0]).params 1 3 = true
      ∧ order5 up up.time (ask [0, 0, 0, 0]) 0x0704 none 4 [] true = .ok up ∧ up.life = .manufacture ∧ needEntropy up = .ok ()
      ∧ up.otp.idSeed = none ∧ up.otp.transportSeed = none ∧ up.mode.mode = .meter)
    ∧ (order5 seeded seeded.time (ask [1, 0, 0, 0]) 0x0704 none 4 [] true = .ok seeded ∧ (seeded.anchorSlot 0).isSome = true
      ∧ (seeded.anchorSlot 1).isSome = true ∧ (seeded.anchorSlot 2).isSome = true ∧ seeded.otp.idSeed.isSome = true) := by
  and_intros <;> first | decide +kernel | rfl
/-- The device in UNSEALED, with its key pairs. -/
def unsealed : State := { (seeded.onOtp fun o => { o with l1 := { a := true, b := true } }) with
  security := { State.reset.security with idKey := true, transportKey := true } }
/-- SET_MODE. -/
def askMode (target flags : Byte) : Request := ask [target, flags, 0, 0]
theorem witness_ModeAndLifecycleCommandsComplete :
    (Takes up (ask [0x5A, 0x45, 0x52, 0x4F]) ∧ authField (ask [0x5A, 0x45, 0x52, 0x4F]) 4 = .ok []
      ∧ fieldAt (ask [0x5A, 0x45, 0x52, 0x4F]) 0 4 = 0x4F52455A
      ∧ order5 up up.time (ask [0x5A, 0x45, 0x52, 0x4F]) 0x0806 (if up.life = .manufacture then none else some 1) 4 [] true = .ok up
      ∧ up.life ≠ .retired)
    ∧ (Takes up (askMode 0 1) ∧ authField (askMode 0 1) 4 = .ok [] ∧ isZero (askMode 0 1).params 2 2 = true
      ∧ order5 up up.time (askMode 0 1) 0x0003 (up.modeAnchor 0) 4 [] false false = .ok up)
    ∧ (order5 up up.time (askMode 2 0) 0x0003 (up.modeAnchor 2) 4 [] false false = .ok up ∧ up.mode.mode ≠ .commission)
    ∧ (order5 up up.time (askMode 3 0) 0x0003 (up.modeAnchor 3) 4 [] false true = .ok up ∧ up.mode.mode ≠ .degraded
      ∧ up.life ≠ .sealed)
    ∧ (order5 unsealed unsealed.time (askMode 4 0) 0x0003 (unsealed.modeAnchor 4) 4 [] false false = .ok unsealed
      ∧ unsealed.life ≠ .manufacture ∧ unsealed.life ≠ .retired ∧ unsealed.mode.mode = .meter)
    ∧ (authField (ask [1, 0, 0, 0]) 4 = .ok [] ∧ isZero (ask [1, 0, 0, 0]).params 1 3 = true
      ∧ order5 up up.time (ask [1, 0, 0, 0]) 0x0004 (if true then up.opsWhenSealed else none) 4 [] true = .ok up
      ∧ order5 up up.time (ask [0, 0, 0, 0]) 0x0004 none 4 [] true = .ok up)
    ∧ (Takes up (ask [2, 0, 0, 0]) ∧ needPriv up (ask [2, 0, 0, 0]) 0x0805 = .ok () ∧ up.levelFree 2 = true
      ∧ debugRight up 2 [] = .ok (up, 0) ∧ debugRight up 0 [] = .ok (up, 0) ∧ up.lockOn = false) := by
  and_intros <;> first | decide +kernel | rfl
/-- The fields of AUTH before the signature: FORM 0, operations anchor, SEQ 1, no end. -/
def authHead : List Byte := [0, 1, 0, 0, 1, 0, 0, 0, 255, 255, 255, 255, 255, 127, 0, 0]
/-- SEAL to SEALED with a signature. -/
def askSeal (sig : List Byte) : Request := ask ([2, 0, 0, 0] ++ authHead ++ sig)
/-- SEAL's last target asks for a signature of the operations anchor: it completes for one that verifies. -/
theorem witness_SealCompletes_sealed (sig : List Byte) (n : sig.length = 3309)
    (h : unsealed.sigOk 1 "OVP-AUTH" (authMessage unsealed 0x0704 (authHead ++ sig) [2, 0, 0, 0]) sig = true) :
    authField (askSeal sig) 4 = .ok (authHead ++ sig)
    ∧ order5 unsealed unsealed.time (askSeal sig) 0x0704 (some 1) 4 (authHead ++ sig) true = .ok (unsealed.takeSeq 1 1)
    ∧ (unsealed.takeSeq 1 1).mode.mode = .meter ∧ (unsealed.takeSeq 1 1).life = .unsealed := by
  have d : (askSeal sig).params.drop 4 = authHead ++ sig := rfl
  have l : (askSeal sig).params.length = 3329 := by show ([2, 0, 0, 0] ++ authHead ++ sig).length = 3329; simp [n, authHead]
  have p : (authHead ++ sig).length = 3325 := by simp [n, authHead]
  refine ⟨?_, ?_, rfl, by decide +kernel⟩
  · unfold authField
    rw [l, d]
    dsimp only
    rw [p]
    rfl
  · have g : checkAuth unsealed unsealed.time 1 0x0704 [2, 0, 0, 0] (authHead ++ sig) true = .ok (unsealed.takeSeq 1 1) := by
      unfold checkAuth
      have h' : unsealed.sigOk 1 "OVP-AUTH" (authMessage unsealed 0x0704 (authHead ++ sig) [2, 0, 0, 0]) ((authHead ++ sig).drop 16) = true := h
      dsimp only
      have f : fld (authHead ++ sig) 0 1 = 0 := rfl
      rw [f, if_pos rfl, h']
      rfl
    have q : needPriv unsealed (askSeal sig) 0x0704 true false false = .ok () := by
      unfold needPriv
      rw [if_neg (by show ¬ (0 = 3); decide), if_neg (by show ¬ (0x0704 = 0x0805 ∧ 0 = 1); decide)]
      have a : basePriv 0x0704 false false = 32 := by rfl
      have b : unsealed.portMask (askSeal sig).port = 127 := by rfl
      rw [a, b]
      rfl
    unfold order5
    dsimp only
    have e : ((some 1 : Option Nat) == some 1 || (if (authHead ++ sig).isEmpty = true then none else some (fld (authHead ++ sig) 1 1)) == some 1) = true := rfl
    rw [e, q]
    exact g
/-- Point 0 with one snapshot. -/
def snapped : State := { (unsealed.onPoint 0 fun p => { p with sseq := 0, snapCount := 1 }) with
  store := { unsealed.store with snaps := upd unsealed.store.snaps 0 fun _ => [(0, .valid {})] } }
/-- LOAD_KEYS of a vending package of one byte. -/
def askKeys : Request := ask [1, 1, 0, 0, 0, 0, 0, 0, 1, 0, 0, 0, 9]
theorem witness_SignatureCommandsComplete :
    (Asked unsealed (ask (zeros 32)) 0x0801 ∧ needKeys unsealed = .ok () ∧ needEntropy unsealed = .ok ())
    ∧ (Asked unsealed (ask ([1, 0, 0, 0] ++ zeros 32)) 0x0802 ∧ isZero (ask ([1, 0, 0, 0] ++ zeros 32)).params 3 1 = true)
    ∧ (Asked snapped (ask (zeros 36)) 0x0802 ∧ needKeys snapped = .ok () ∧ needEntropy snapped = .ok ()
      ∧ 0 < (snapped.point 0).snapCount ∧ ringAt (snapped.store.snaps.getD 0 []) ((snapped.point 0).sseq - 0) = some {})
    ∧ (Asked unsealed (ask [0, 0, 0, 0]) 0x0804 ∧ Asked unsealed (ask [1, 0, 0, 0]) 0x0804 ∧ Asked up (ask [2, 0, 0, 0]) 0x0804
      ∧ Asked up (ask [3, 2, 0, 0]) 0x0804 ∧ isZero (ask [3, 2, 0, 0]).params 2 2 = true)
    ∧ (Takes up askKeys ∧ isZero askKeys.params 2 2 = true ∧ fieldAt askKeys 8 4 = 1 ∧ up.security.keyPart = none
      ∧ needPriv up askKeys 0x0803 false = .ok () ∧ up.life ≠ .retired
      ∧ joinFragment none true 0 1 [9] 0 1 = some { total := 1, data := [9], func := 1 }
      ∧ joinFragment none true 0 16384 [9] 0 1 = some { total := 16384, data := [9], func := 1 }
      ∧ (up.port 0).handles.length < 64) := by
  and_intros <;> first | decide +kernel | rfl
/-- The device while that session is open. -/
def loading : State := up.onImages fun i => { i with session := some session0 }
/-- The same at its end. -/
def loadedAll : State := up.onImages fun i => { i with session := some { session0 with received := 3374 } }
/-- The device with verified packages in both slots B. -/
def spares : State := up.onImages fun i => { i with ccB := { ok := true }, ucB := { ok := true } }
theorem witness_ImageCommandsComplete :
    (Asked up (ask [0, 0, 0, 0, 0, 0, 64, 0]) 0x0901 ∧ fieldAt (ask [0, 0, 0, 0, 0, 0, 64, 0]) 4 4 = 4194304
      ∧ Asked up (ask [1, 0, 0, 0, 0, 0, 8, 0]) 0x0901 ∧ fieldAt (ask [1, 0, 0, 0, 0, 0, 8, 0]) 4 4 = 524288
      ∧ up.images.session = none)
    ∧ (Asked loading (ask [0, 0, 0, 0, 45, 13, 0, 0, 9]) 0x0902 ∧ loading.images.session = some session0
      ∧ fieldAt (ask [0, 0, 0, 0, 45, 13, 0, 0, 9]) 4 4 = session0.received ∧ session0.received + 1 ≤ session0.total)
    ∧ (Asked loadedAll (ask [0, 0, 0, 0]) 0x0903 ∧ (loadedAll.port 0).handles.length < 64)
    ∧ (Asked spares (ask [1, 0, 0, 0]) 0x0904 ∧ needSlot spares 0 1 = .ok () ∧ spares.allOutstanding = [])
    ∧ (Asked spares (ask [1, 0, 0, 0]) 0x0905 ∧ needSlot spares 1 1 = .ok () ∧ spares.images.ucReq = none
      ∧ (spares.port 0).handles.length < 64) := by
  and_intros <;> first | decide +kernel | rfl
/-- Point 0 bound, and channel 3 spare. -/
def sparing : State := { metered.onChan 3 (role 5) with fuses := { variant := .v064 } }
/-- A device of two islands, one of them retired. -/
def oneRetired : State := { up.onIsland 1 (fun i => { i with retired := true }) with fuses := { variant := .v128 } }
/-- A lane retired. -/
def laneOff : State := up.onLane 7 fun l => { l with retired := true }
theorem witness_MaintenanceCommandsComplete :
    (Takes sparing (ask [0, 0, 3, 0]) ∧ authField (ask [0, 0, 3, 0]) 4 = .ok [] ∧ needChans sparing [0, 3] = .ok ()
      ∧ order5 sparing sparing.time (ask [0, 0, 3, 0]) 0x0A01 sparing.opsWhenSealed 4 [] = .ok sparing ∧ modeNoCal sparing = .ok ()
      ∧ sparing.bound 0 = true ∧ (sparing.chan 0).set.role = 1 ∧ (sparing.chan 3).set.role = 5 ∧ (sparing.chan 3).fs ≠ 0
      ∧ sparing.chanPeriod 0 = sparing.chanPeriod 3 ∧ sparing.engine.remaps = []
      ∧ (sparing.port 0).handles.length < 64)
    ∧ (islandRequest up (ask [7, 0, 0, 0]) 0x0A02 = .ok ([], 7) ∧ ((List.range up.nIsl).filter up.islOn) ≠ [7]
      ∧ (up.port 0).handles.length < 64)
    ∧ (Takes oneRetired (ask [1, 0, 0, 0]) ∧ islandRequest oneRetired (ask [1, 0, 0, 0]) 0x0A03 = .ok ([], 1)
      ∧ (oneRetired.isl 1).retired = true
      ∧ (oneRetired.onIsland 1 fun i => { i with retired := false, dropped := false }).admitted = true
      ∧ (oneRetired.onIsland 1 fun i => { i with retired := false, dropped := false }).stagingOk = true
      ∧ (oneRetired.port 0).handles.length < 64)
    ∧ (Takes up (ask [7, 0, 0, 0]) ∧ authField (ask [7, 0, 0, 0]) 4 = .ok []
      ∧ order5 up up.time (ask [7, 0, 0, 0]) 0x0A04 none 4 [] = .ok up ∧ (up.lane 7).op = none
      ∧ (up.port 0).handles.length < 64)
    ∧ (order5 up up.time (ask [7, 1, 1, 0]) 0x0A04 up.opsWhenSealed 4 [] = .ok up ∧ (up.lane 7).retired = false ∧ 1 < up.lanesOn
      ∧ order5 laneOff laneOff.time (ask [7, 2, 0, 0]) 0x0A04 laneOff.opsWhenSealed 4 [] = .ok laneOff ∧ (laneOff.lane 7).retired = true)
    ∧ (Asked up (ask []) 0x0A05 ∧ up.power.test = .idle ∧ up.capService = false ∧ (up.port 0).handles.length < 64) := by
  and_intros <;> first | decide +kernel | rfl

/-- A reply that waits on P0. -/
def answered : State := up.onPort 0 fun p => { p with replies := [{ tag := 1 }] }
theorem witness_ReadPacketLosesNothing : answered.hears 0 = true ∧ 0 < answered.ports.length ∧ up.hears 0 = true ∧ up.hears 2 = true
    ∧ (up.port 0).head = none ∧ (answered.port 0).head = some { tag := 1 } ∧ 3 < (answered.packetOf 0 { tag := 1 }).length := by
  and_intros <;> first | decide +kernel | rfl
/-- A port that owes a RESYNC reply. -/
def owing : State := up.onPort 0 fun p => { p with resyncOwed := true }
theorem witness_SpiTransactionsComplete : up.hears 0 = true ∧ up.hears 2 = true ∧ spiOf 2 (0x6B : BitVec 8).toNat = none
    ∧ spiOf 0 (0x03 : BitVec 8).toNat = none ∧ (up.port 0).resyncOwed = false ∧ owing.hears 0 = true ∧ answered.hears 0 = true
    ∧ (owing.port 0).resyncOwed = true ∧ (answered.port 0).head = some { tag := 1 }
    ∧ (answered.packetOf 0 { tag := 1 }).length ≤ 4096 := by and_intros <;> first | decide +kernel | rfl
/-- Every port without credit. -/
def spent : State := up.eachPort fun p => { p with credits := 0 }
theorem witness_PacketWithoutCreditIsDropped : spent.hears 0 = true ∧ spent.hears 1 = true ∧ spent.hears 2 = true
    ∧ auxChars [0, 5] [] ≠ [] ∧ (spent.port 0).credits = 0 ∧ (spent.port 0).rx = []
    ∧ (spent.port 0).resyncOwed = false ∧ (spent.port 1).credits = 0 ∧ (spent.port 1).rx = [] ∧ (spent.port 1).sending = false
    ∧ (spent.port 2).credits = 0 ∧ (spent.port 2).resyncOwed = false := by and_intros <;> first | decide +kernel | rfl
/-- A reply that waits on P1. -/
def sending : State := up.onPort 1 fun p => { p with replies := [{ tag := 1 }] }
/-- The debug level D1, in SEALED. -/
def atD1 : State := { up.onMode (fun m => { m with debug := .d1 }) with
  otp := { State.reset.otp with l1 := { a := true, b := true }, l2 := { a := true, b := true } } }
theorem witness_AuxiliaryAndTestPortsComplete : up.responds = true ∧ (up.port 1).sending = false
    ∧ (sending.port 1).head = some { tag := 1 } ∧ up.tapOn = true ∧ up.scanFree = true ∧ up.mode.debug = .d0
    ∧ auxChars [5, 0] [] ≠ [] ∧ atD1.mode.debug = .d1 ∧ (up.onMode fun m => { m with debug := .d2 }).mode.debug = .d2
    ∧ atD1.tapOn = true ∧ atD1.scanFree = false ∧ atD1.mode.debug ≠ .d0
    ∧ (0xFF : BitVec 8) ∉ [(0x01 : BitVec 8), 0x02, 0x03, 0x04, 0x05, 0x20, 0x21]
    ∧ (0x100 : BitVec 10).getLsbD 8 = true ∧ (0x100 : BitVec 10).getLsbD 9 = false ∧ (0x300 : BitVec 10).getLsbD 9 = true
    ∧ 1 ≤ up.tap.credit := by and_intros <;> first | decide +kernel | rfl
theorem witness_MailboxRunsThreeCommands : commandOf 0x0101 = some cmdGetParam ∧ (ask [] 3).port = 3 := ⟨rfl, rfl⟩
/-- The control plane in a state. -/
def cpIn (c : CpState) : State := up.onCp fun x => { x with st := c }
/-- RESET_N held low. -/
def held : State := up.onCp fun c => { c with st := .held, resetNLow := true }
/-- A reset asked for. -/
def resetAsked (full : Bool) : State := up.onCp fun c => { c with resetReq := some full }
/-- An activation of slot B asked for: its package is the delivered one, or none. -/
def switching (good : Bool) : State :=
  up.onImages fun i => { i with ccReq := some { slot := 1, port := 0 }, ccB := { ok := good, factory := good } }
/-- The same, forced. -/
def forcing : State := up.onImages fun i => { i with ccReq := some { slot := 1, force := true, port := 0 } }
/-- The trial of a control core that has not become ready in 50 ms. -/
def trial : State := ((cpIn .starting).onImages fun i => { i with trial := true }).onClock fun c => { c with slot := 6400 }
theorem witness_ControlPlaneEventsComplete : (up.cpRuns = true ∧ up.cp.resetNLow = false) ∧ held.cp.resetNLow = true
    ∧ (up.cp.st = .ready ∧ (cpIn .starting).cp.st = .starting ∧ (cpIn .starting).cpRuns = true
      ∧ (cpIn .starting).mode.mode ≠ .boot)
    ∧ ((resetAsked true).cp.resetReq = some true ∧ (resetAsked true).mode.mode.responding = true ∧ (resetAsked true).resetDue = true)
    ∧ ((resetAsked false).cp.resetReq = some false ∧ (resetAsked false).cpRuns = true ∧ (resetAsked false).resetDue = true)
    ∧ (up.metering = true ∧ 0 < up.creditsMax 30 ∧ (cpIn .starting).metering = true
      ∧ (up.onQueue 30 fun x => { x with lost := queueDepth 30 }).creditsMax 30 = 0)
    ∧ (up.queuePresent 31 = true ∧ (up.onQueue 31 fun x => { x with lost := 1 }).wordsFor 31 = 0
      ∧ (up.onQueue 31 fun x => { x with lost := 1 }).credits 31 ≠ queueDepth 31)
    ∧ ((switching true).cp.st = .ready ∧ (switching true).switchDue { slot := 1, port := 0 } = true ∧ ((switching true).onImages fun i => { i with ccReq := none }).slotCheck 0 1 = .ok ())
    ∧ ((switching false).images.ccReq = some { slot := 1, port := 0 }
      ∧ ((switching false).onImages fun i => { i with ccReq := none }).slotCheck 0 1 = .error ⟨.signatureInvalid, 3⟩)
    ∧ (forcing.images.ccReq = some { slot := 1, force := true, port := 0 } ∧ forcing.cp.st = .ready
      ∧ forcing.switchDue { slot := 1, force := true, port := 0 } = true)
    ∧ (trial.images.trial = true ∧ trial.cpRuns = true ∧ trial.cp.st ≠ .ready ∧ trial.images.switchSlot + 6400 ≤ trial.now) := by
  and_intros <;> first | decide +kernel | rfl
/-- The device at a slot. -/
def at_ (n : Nat) : State := metered.onClock fun c => { c with slot := n }
/-- CALIBRATE in SEALED with the link open. -/
def openLink : State := { (at_ 12800).onMode (fun m => { m with mode := .calibrate }) with otp := atD1.otp }
/-- CALIBRATE with CAL_TIMEOUT at 60 min. -/
def longCal : State := (at_ 460800000).onMode fun m => { m with mode := .calibrate }
/-- A debug level that ends at slot 1. -/
def levelEnds : State := (at_ 1).onMode fun m => { m with debug := .d1, debugEnd := 1 }
/-- A freeze that began at slot 0. -/
def longFreeze : State := (at_ 76800000).onEvents fun e => { e with freeze := some {} }
/-- A load session from slot 0. -/
def idleLoad : State := (at_ 76800000).onImages fun i => { i with session := some session0 }
/-- Both session keys at their end. -/
def oldKeys : State := up.onSec fun x => { x with opsSession := some {}, metSession := some {} }
/-- A ledger of point 0 at slot 1. -/
def ledger0 (f : Ledger → Ledger) : State := (at_ 1).onLedger 0 f
theorem witness_TimeoutEventsComplete :
    (up.tamper.calLink = false ∧ up.tamper.calLinkRun < 2 ∧ (up.onTamper fun t => { t with calLinkRun := 2 }).tamper.calLink = false
      ∧ 2 ≤ (up.onTamper fun t => { t with calLink := true, calLinkRun := 2 }).tamper.calLinkRun) ∧
    (openLink.mode.mode = .calibrate ∧ openLink.life = .sealed ∧ openLink.tamper.calLink = false
      ∧ openLink.tamper.calOpenAt + 12800 ≤ openLink.now)
    ∧ (longCal.mode.mode = .calibrate ∧ longCal.parN 0x10 = 60 ∧ longCal.mode.calSince + 60 * 60 * slotsPerS ≤ longCal.nextRound)
    ∧ (levelEnds.mode.debugEnd ≠ 0 ∧ levelEnds.mode.debugEnd ≤ levelEnds.now)
    ∧ (longFreeze.events.freeze = some {} ∧ 0 + 76800000 ≤ longFreeze.now)
    ∧ (idleLoad.images.session = some session0 ∧ session0.last + 600 * slotsPerS ≤ idleLoad.now)
    ∧ (oldKeys.session 1 = some {} ∧ oldKeys.session 2 = some {} ∧ ({} : Session).end_ ≤ oldKeys.now)
    ∧ (((ledger0 fun l => { l with lockEnd := 1 }).point 0).ledger.lockEnd = 1 ∧ (ledger0 fun l => { l with lockEnd := 1 }).now = 1)
    ∧ (((ledger0 fun l => { l with override := .forceOpen, overrideEnd := 1 }).point 0).ledger.override ≠ .none
      ∧ ((ledger0 fun l => { l with override := .forceOpen, overrideEnd := 1 }).point 0).ledger.overrideEnd = 1)
    ∧ ((ledger0 fun l => { l with testEnd := 1 }).point 0).ledger.testEnd = 1
    ∧ ((ledger0 fun l => { l with limEnd := 1 }).point 0).ledger.limEnd = 1
    ∧ up.security.entropyFailed = false := by
  and_intros <;> first | decide +kernel | rfl

/-- VMAIN below 10.5 V. -/
def failing : State := metered.onPower fun p => { p with pfail := true, lean := true }
/-- The supply's registers at two voltages. -/
def volts (s : State) (vmain vhold : Nat) : State := s.onPower fun p => { p with vmainMv := vmain, vholdMv := vhold }
/-- A health test that waits, of a HOLDUP_TEST or not. -/
def testWaits (o : Option OpRef) : State := (at_ 7680000).onPower fun p => { p with test := .waiting, testOp := o }
/-- A health test that runs. -/
def testRuns (o : Option OpRef) : State := metered.onPower fun p => { p with test := .running, testOp := o }
/-- The reduction of R62 in force. -/
def hot : State := metered.onPower fun p => { p with leanTemp := true }
/-- A device asleep on VHOLD. -/
def asleepOn : State := { State.reset with power := { State.reset.power with src := .vhold } }
theorem witness_SupplyEventsComplete :
    (up.storeOn = true ∧ up.power.pfail = false ∧ 9999 < 10000) ∧ (failing.storeOn = true ∧ failing.power.pfail = true ∧ 10500 < 10501)
    ∧ (failing.onPower fun p => { p with vholdMv := 0 }).rideEnds 0 = some 0
    ∧ (failing.onPower fun p => { p with vholdMv := 14000 }).rideEnds 14000 = none
    ∧ ((volts (testWaits none) 11000 11000).mode.mode.responding = true ∧ (volts (testWaits none) 11000 11000).testDue = true
      ∧ (volts (testWaits none) 11000 11000).capService = false ∧ (volts (testWaits none) 11000 11000).testAllowed = true)
    ∧ ((volts (testWaits (some op0)) 11000 11000).testDue = true ∧ (volts (testWaits (some op0)) 11000 11000).testAllowed = true)
    ∧ ((volts (testWaits (some op0)) 10999 11000).testAllowed = false
      ∧ (testWaits (some op0)).power.testSince + 60 * slotsPerS ≤ (testWaits (some op0)).now)
    ∧ ((testRuns none).power.test = .running ∧ (testRuns (some op0)).power.testOp = some op0)
    ∧ (up.mode.mode.responding = true ∧ asleepOn.asleep = true ∧ asleepOn.power.src ≠ .none)
    ∧ ((up.onPower fun p => { p with vbatReq := true }).asleep = false ∧ (up.onPower fun p => { p with vbatReq := true }).storeOn = true)
    ∧ (up.power.leanTemp = false ∧ (122 * 16 : Int) ≤ 1952 ∧ hot.storeOn = true ∧ hot.power.leanTemp = true)
    ∧ (up.power.lean = false ∧ (∀ j ∈ up.store.jobs, j.ckpt = false) ∧ (up.onPower fun p => { p with ckptNow := true }).power.ckptNow = true
      ∧ up.power.ckptStart + up.ckptInterval * slotsPerS ≤ (at_ 1280000).now) := by
  and_intros <;> first | decide +kernel | rfl
/-- Supply for a start that stops after its first step. -/
def power0 : StartInput := { vmainMv := 10500, vholdMv := 10000, upTo := 1 }
theorem witness_StartAndStopEventsComplete :
    (up.onMode fun m => { m with mode := .adjourn }).mode.mode = .adjourn
    ∧ (asleepOn.startDue power0 = true ∧ power0.upTo ≤ 1 ∧ 2 < asleepOn.ports.length)
    ∧ ((up.onMode fun m => { m with mode := .boot, bootStep := 4 }).mode.mode = .boot
      ∧ (up.onMode fun m => { m with mode := .boot, bootStep := 4 }).mode.bootStep < 5
      ∧ 1 ≤ (up.onMode fun m => { m with mode := .boot, bootStep := 4 }).mode.bootStep)
    ∧ (asleepOn.asleep = true ∧ asleepOn.power.src ≠ .none) := by and_intros <;> first | decide +kernel | rfl
/-- The reference of the RTC lost. -/
def lost : State := metered.onClock fun c => { c with refLost := true }
/-- A drift measurement complete. -/
def drifting : State := (at_ 256).onClock fun c => { c with driftFrom := some (0, 0), periods := 33554432 }
/-- A slew of 64 parts, whose last part is due. -/
def slewing : State := up.onClock fun c => { c with slew := 64 }
/-- A change of zone. -/
def zoned : State := { metered.onTariff (fun t => { t with zoneAt := some 0 }) with fuses := { variant := .v064 } }
/-- WATCH on the cell. -/
def watching : State := asleepOn.onMode fun m => { m with mode := .watch }
/-- The same with the RTC's oscillator stopped. -/
def oscStopped : State := watching.onClock fun c => { c with oscStopped := true }
theorem witness_TimeBaseEventsComplete :
    (up.power.src ≠ .none ∧ up.clock.slew = 0 ∧ up.clock.windows + 1 ≠ 32768
      ∧ (up.onClock fun c => { c with windows := 32767 }).clock.windows + 1 = 32768 ∧ up.clock.rtcMilli < 1000 ∧ asleepOn.metering = false
      ∧ up.metering = true ∧ up.clock.refLost = false ∧ lost.metering = true ∧ lost.clock.refLost = true)
    ∧ (up.metering = true ∧ up.now % 1048576 = 0)
    ∧ (up.asleep = false ∧ asleepOn.asleep = true)
    ∧ (drifting.metering = true ∧ drifting.clock.refLost = false ∧ drifting.clock.driftFrom = some (0, 0)
      ∧ 33554432 ≤ drifting.clock.periods - 0)
    ∧ (slewing.clock.slew ≠ 0 ∧ slewing.clock.slew.natAbs ≤ 64)
    ∧ (zoned.tariff.zoneAt = some 0 ∧ zoned.storeOn = true)
    ∧ (watching.cellAlone = true ∧ watching.clock.oscStopped = false) ∧ oscStopped.clock.oscStopped = true := by
  and_intros <;> first | decide +kernel | rfl
/-- Loop 0 enabled. -/
def loop0 : State := up.setPar 0x600 1
/-- Levels of the tamper inputs: every loop high, or as the generators drive them. -/
def levels (b : Bool) : TamperLevels := { loops := [b, b, b, b], switches := [false, false, false, false], light := false }
/-- A glitch one second ago. -/
def glitched : State := (at_ 128000).onTamper fun t => { t with glitchAt := some 0 }
theorem witness_TamperEventsComplete : up.power.src ≠ .none ∧ loop0.inputOn 0 = true ∧ loop0.agrees (levels false) 0 = true
    ∧ loop0.agrees (levels true) 0 = false ∧ glitched.tamper.glitchAt = some 0 ∧ 0 + slotsPerS ≤ glitched.slotNow := by
  and_intros <;> first | decide +kernel | rfl

/-- A segment of the first 2560 slots of point 0. -/
def seg0 : SegRec := { mp := 0, idx := 0, last := true, flags := 0, cycle := 1, sFirst := 0, sEnd := 2560, gates := 1
                       act := 1, rea := 0, app := 1, fund := 1, sqa := 0 }
/-- The device with that segment in Q8. -/
def segmented : State := (at_ 5120).onQ8 fun _ => seg0.words
/-- A word of it that arrives damaged. -/
def spoilt (w : QWord) : QWord := { w with poison := true }
/-- A pending slot that closed at slot 2560 and waits for no contribution. -/
def slot0 : PendSlot := { cycle := 1, close := some 2560, held := 1 }
/-- Point 0 with that slot. -/
def pending0 (lean : Bool) (n : Nat) : State :=
  ((at_ n).onPoint 0 fun p => { p with slots := [slot0] }).onPower fun p => { p with lean := lean }
/-- Balance group 0 with a window that has ended for its points, and with one that is cut. -/
def windowed (w : Nat) (m : Nat) : State := (at_ 12800).onGroup 0 fun g =>
  { g with set := { g.set with window := w, ref := m }, next := some {}, cut := some 0 }
/-- A pulse output whose edge leaves in the running round. -/
def edging : State := up.onPulse 0 fun x => { x with edges := [{ at_ := 255, rising := true }] }
theorem witness_MeteringEventsComplete :
    (up.metering = true ∧ up.clock.refLost = false
      ∧ ((at_ 512).onClock fun c => { c with refLost := true }).metering = true
      ∧ ((at_ 512).onClock fun c => { c with refLost := true }).engine.runAhead
        < ((at_ 512).onClock fun c => { c with refLost := true }).now / 256 * 256)
    ∧ (8 ≤ segmented.q8.length ∧ crossing 64 [] (segmented.q8.take 8) = seg0.words ∧ (seg0.words.filter fun w => w.poison) = []
      ∧ (segmented.onQ8 fun q => q.drop 8).salvage seg0.words = some (seg0, false)
      ∧ ((segmented.onQ8 fun q => q.drop 8).point 0).bind = some bind0
      ∧ ((segmented.onQ8 fun q => q.drop 8).point 0).covers seg0 = false
      ∧ (segmented.onQ8 fun q => q.drop 8).salvage (seg0.words.map spoilt) = none)
    ∧ (((at_ 3200).chan 0).set.role = 1 ∧ ((at_ 3200).chan 0).noCross = false ∧ (at_ 3200).metering = true
      ∧ ((at_ 3200).chan 0).provisional = none ∧ ((at_ 3200).chan 0).quietFrom + 3200 ≤ (at_ 3200).now ∧ 0 < (at_ 3200).channels.length)
    ∧ (((pending0 true 2560).point 0).bind = some bind0 ∧ ((pending0 true 2560).point 0).slots.head? = some slot0
      ∧ slot0.close = some 2560 ∧ (pending0 true 2560).storeOn = true ∧ 32 ≤ (pending0 true 2560).q8Room
      ∧ (pending0 true 2560).power.lean = true ∧ ((pending0 true 5632).onChan 0 fun h => { h with outAt := 5632 }).storeOn = true
      ∧ slot0.complete 2560 = true ∧ slot0.provis = false)
    ∧ (2560 ≤ (((((pending0 true 5632).onChan 0 fun h => { h with outAt := 5632 }).onChan 1 fun h => { h with outAt := 5632 }).onChan 2
        fun h => { h with outAt := 5632 })).pointReady bind0)
    ∧ (((pending0 false 5632).power.lean = false) ∧ slot0.horizon 2560 ≤ (pending0 false 5632).now
      ∧ (pending0 false 5632).redoPending 0 1 = false ∧ 2560 + 3072 ≤ (pending0 false 5632).now
      ∧ slot0.horizon 2560 ≤ (((((pending0 false 5632).onChan 0 fun h => { h with outAt := 5632 }).onChan 1
        fun h => { h with outAt := 5632 }).onChan 2 fun h => { h with outAt := 5632 })).pointReady bind0)
    ∧ (0 < edging.pulses.length ∧ (edging.pulses.getD 0 {}).edges = [{ at_ := 255, rising := true }] ∧ 255 < edging.nextRound)
    ∧ ((windowed 1 0).storeOn = true ∧ ((windowed 1 0).groups.getD 0 {}).set.window ≠ 0 ∧ ((windowed 0 0).groups.getD 0 {}).next.isSome = true
      ∧ ((windowed 1 0).groups.getD 0 {}).cut = some 0 ∧ 0 + 12800 ≤ (windowed 1 0).now) := by
  and_intros <;> first | decide +kernel | rfl
/-- A snapshot of point 0 whose signature waits, on a device with or without its pair, with or without the snapshot. -/
def signing (key : Bool) (held : Bool) : State := ({ (up.onTariff fun t => { t with signQueue := [(0, 0)] }) with
  security := { State.reset.security with idKey := key } } : State).onStore fun t => { t with
    snaps := if held then upd t.snaps 0 fun _ => [(0, .valid {})] else t.snaps }
theorem witness_BoundaryEventsComplete :
    ((signing true true).tariff.signQueue = [(0, 0)] ∧ (signing true true).cp.st = .ready
      ∧ (signing true true).mode.mode.responding = true ∧ (signing true true).security.entropyFailed = false
      ∧ ((signing true true).onTariff fun x => { x with signQueue := [] }).findSnapshot 0 0 = some {}
      ∧ (signing true true).security.idKey = true)
    ∧ ((signing true false).onTariff fun x => { x with signQueue := [] }).findSnapshot 0 0 = none
    ∧ (signing false true).security.idKey = false
    ∧ (up.cp.st = .ready ∧ up.metering = true) ∧ (up.storeOn = true ∧ up.horizonS < up.parN 0x303 * 3600 ∧ up.tariff.lowAt = none) := by
  and_intros <;> first | decide +kernel | rfl

/-- An item of Q9: two words of channel 0 with a kind. -/
def item (kind : Nat) : List QWord := [wordOf 32 kind, wordOf 32 5]
/-- The device with items in Q9. -/
def itemized (q : List QWord) : State := metered.onPq fun p => { p with q9 := q }
/-- A capture whose last output has been written on its only track. -/
def postFull : State := (((at_ 128000).onCapture fun c => { c with state := .post, tracks := [{ ch := 0 }] }).onChan 0
  fun h => { h with detAt := 128000 })
/-- An overload that has ended. -/
def overloaded : State := metered.onChan 0 fun h => { h with overEnds := [{ start := 0, fin := 2560, max := 1 }] }
/-- A frequency window of 50 Hz that has ended, by a cut. -/
def tenSeconds (n : Nat) : State := (at_ 1281024).onChan 0 fun h => { h with f10Cut := some 1280000, f10Count := n, f10Sum := n * 655360 }
/-- A window of the harmonic unit ready on channel 0. -/
def harmReady : State := metered.onChan 0 fun h => { h with harmReady := [{ outs := [] }] }
/-- An event window that ended 512 slots ago. -/
def closable : State := (at_ 512).onPq fun p => { p with windows := [{ class_ := 20, close := 0 }] }
theorem witness_PowerQualityEventsComplete :
    (∀ k ∈ [0, 1, 3], (itemized (item k)).pq.q9 = item k ∧ crossing 32 [] (item k) = item k
      ∧ (item k).any (fun w => w.poison || w.gap) = false ∧ bits ((item k).getD 0 {}).data 0 2 = k
      ∧ bits ((item k).getD 0 {}).data 2 9 = 0 ∧ ((itemized []).chan 0).set.role = 1)
    ∧ ((crossing 32 [(1, 0)] (item 1)).map (fun w => w.poison) = [false, true]
      ∧ (((itemized []).poisonedN 9 1).chan 0).set.role = 1)
    ∧ (crossing 32 [(0, 32)] (item 1)).map (fun w => w.poison) = [true, false]
    ∧ ((itemized [{ gap := true }]).pq.q9 = [{ gap := true }])
    ∧ (((tenSeconds 1).chan 0).set.role = 1 ∧ (tenSeconds 1).metering = true ∧ (tenSeconds 1).f10Fin 0 + 1024 ≤ (tenSeconds 1).now
      ∧ 0 < (tenSeconds 1).channels.length)
    ∧ ((harmReady.chan 0).harmReady = [{ outs := [] }] ∧ harmReady.hasHarm = true)
    ∧ (closable.pq.windows.filter fun w => decide (w.close + 512 ≤ closable.now)).length = 1
    ∧ (postFull.pq.capture.state = .post ∧ ∀ x ∈ postFull.pq.capture.tracks, postFull.pq.capture.trig + 128000 ≤ (postFull.chan x.ch).detAt)
    ∧ ((overloaded.chan 0).overEnds = [{ start := 0, fin := 2560, max := 1 }] ∧ 0 < overloaded.channels.length) := by
  and_intros <;> first | decide +kernel | rfl
/-- An urgent request for channel 1. -/
def urgent1 : Urgent := { ch := 1, verify := true }
/-- The device with that request in Q28. -/
def urged (f : Island → Island) : State := ((at_ 12800).onIsland 0 f).onQ28 fun _ => [urgent1]
/-- The same with the request taken. -/
def taken (f : Island → Island) : State := (urged f).onQ28 fun _ => []
/-- Second A of island 0 at the end of a rotation over channel 1 of 2560 slots. -/
def rotated : State := ((at_ 5120).onIsland 0 fun i => { i with a := { runs := [{ ch := 1, start := 2560, endGate := 5120 }] } }).onChan 1
  fun h => { h with takenAt := 5120 }
/-- Second A of island 0 at the end of its self-test. -/
def selfTested : State := (at_ 5120).onIsland 0 fun i => { i with a := { testAt := some 0 } }
/-- A remap of channel 0 whose crossing has come. -/
def remapping : Remap := { old := 0, new := 3, op := op0, limit := 100 }
/-- The device at that crossing. -/
def remapped : State := ((at_ 5120).onEngine fun e => { e with remaps := [remapping] }).onChan 0 fun h =>
  { h with marks := [{ at_ := 100, full := true }] }
theorem witness_IslandEventsComplete :
    (0 < up.islands.length ∧ 0 < up.nIsl ∧ 3 ≤ up.mode.bootStep ∧ up.metering = true ∧ (up.isl 0).retired = false
      ∧ (10000 : Int).natAbs ≤ 10000 ∧ (-50000 : Int).natAbs ≤ 50000 ∧ up.islFault 0 = false ∧ 10000 < (-10001 : Int).natAbs)
    ∧ ((at_ 19200000).metering = true ∧ (at_ 19200000).pairDue 1 = some 1 ∧ ((at_ 19200000).lane 2).retired = false
      ∧ ((at_ 19200000).lane 3).retired = false ∧ (at_ 19200000).idleFor 2 = true ∧ (at_ 19200000).idleFor 3 = true)
    ∧ (takeable (fun _ => 1) ((urged id).creditsMax 28) (urged id).q28 = some urgent1
      ∧ (taken fun i => { i with retired := true }).islOn (urgent1.ch / 64) = false)
    ∧ (((taken id).onChan 1 (role 0)).islOn 0 = true ∧ (((taken id).onChan 1 (role 0)).chan 1).set.role = 0)
    ∧ (((taken id).chan urgent1.ch).set.role ≠ 0 ∧ ((taken id).isl 0).blind = false
      ∧ (∀ v ∈ ((taken id).isl 0).waiting, v.ch ≠ urgent1.ch) ∧ ((taken id).isl 0).waiting.length < 8)
    ∧ ((∀ v ∈ ((taken fun i => { i with urgents := List.replicate 8 { ch := 2 } }).isl 0).waiting, v.ch ≠ urgent1.ch)
      ∧ 8 ≤ ((taken fun i => { i with urgents := List.replicate 8 { ch := 2 } }).isl 0).waiting.length)
    ∧ (((rotated.isl 0).second false).runs = [{ ch := 1, start := 2560, endGate := 5120 }]
      ∧ 5120 + (rotated.chan 1).set.int ≤ rotated.now ∧ 5120 + (rotated.chan 1).set.int ≤ (rotated.chan 1).takenAt
      ∧ rotated.islFault 0 = false ∧ 1600 ≤ 5120 - 2560 ∧ 5120 - 2560 ≤ 3200)
    ∧ (((selfTested.isl 0).second false).testAt = some 0 ∧ 0 + 5120 ≤ selfTested.now
      ∧ 1000 * (((82083 : Nat) : Int) - 81920).natAbs ≤ 163840 ∧ 1000 * 163 ≤ 163840 ∧ 163840 < 1000 * 164
      ∧ (((selfTested.onSecond 0 false fun x => { x with testAt := none, failed := true }).islandFault 0 2 0).isl 0).blind = false)
    ∧ (remapped.metering = true ∧ remapped.engine.remaps = [remapping] ∧ remapping.done = false
      ∧ remapped.remapInstant remapping = some 100) := by
  and_intros <;> first | decide +kernel | rfl
/-- A job of the writer. -/
def job0 (wait : Bool) : StoreJob := { recs := [.host 0 [1]], wait := wait }
/-- The device with that job first. -/
def writing (wait : Bool) : State := up.onStore fun t => { t with jobs := [job0 wait] }
/-- The scrubber at work. -/
def scrubbing : State := up.onStore fun t => { t with scrub := { t.scrub with paused := false, pos := 16777214 } }
/-- An event in Q13. -/
def queued (p : Bool) : State := up.onEvents fun e => { e with q13 := [{ code := 30, poison := p }] }
/-- One relay board, whose directives wait. -/
def relayed : State := ((at_ 12800).setPar 0x400 1).onRelays fun r => { r with q15 := [(0, true)] }
/-- A job of the security engine. -/
def secJob : State := up.onSec fun x => { x with jobs := [{}] }
/-- A switch of the microcode: after a start, or asked for. -/
def ucSwitch (boot : Bool) (n : Nat) : State := (up.onClock fun c => { c with slot := n }).onImages fun i =>
  if boot then { i with ucBoot := some 0 } else { i with ucReq := some { slot := 1, op := op0, from_ := 0 } }
theorem witness_StoreAndSecurityEventsComplete :
    ((writing false).store.jobs = [job0 false] ∧ (writing true).store.jobs = [job0 true] ∧ (writing true).storeOn = true
      ∧ ((writing true).onPower fun p => { p with vholdMv := 14000 }).mayWrite 14000 = true
      ∧ ((writing true).onPower fun p => { p with vholdMv := 0 }).mayWrite 0 = false
      ∧ ((writing true).onPower fun p => { p with vholdMv := 0 }).mayWord 0 = false)
    ∧ (scrubbing.storeOn = true ∧ scrubbing.store.scrub.paused = false ∧ scrubbing.store.scrub.pos + 1 < storeWords)
    ∧ (takeable EvGroup.words ((queued false).creditsMax 13) (queued false).events.q13 = some { code := 30 }
      ∧ (queued false).events.freeze = none
      ∧ takeable EvGroup.words ((queued true).creditsMax 13) (queued true).events.q13 = some { code := 30, poison := true })
    ∧ (relayed.parN 0x400 % 64 = 1 ∧ relayed.now % 12800 = 0 ∧ relayed.storeOn = true)
    ∧ (secJob.security.jobs = [{}] ∧ secJob.cp.st = .ready)
    ∧ ((ucSwitch true 256).switchPermitted = true ∧ (ucSwitch true 256).images.ucBoot = some 0 ∧ (ucSwitch true 256).cp.st = .ready
      ∧ (ucSwitch false 256).images.ucBoot = none ∧ (ucSwitch false 256).images.ucReq = some { slot := 1, op := op0, from_ := 0 }
      ∧ (ucSwitch false 256).switchPermitted = true)
    ∧ ((ucSwitch false 256001).switchPermitted = false ∧ 0 + 256000 ≤ (ucSwitch false 256001).now) := by
  and_intros <;> first | decide +kernel | rfl
theorem witness_EventFrames : ∃ t, exec (.notice 0) up = .next t := ⟨_, rfl⟩
theorem witness_CommandFrames : Takes up (ask []) ∧ ∃ t, exec (.getStatus (ask [])) up = .next t := ⟨by decide, _, rfl⟩
theorem witness_RefusedRequestsChangeNothing : requestOf (.setMode (ask [9, 0, 0, 0])) = some (0x0003, ask [9, 0, 0, 0])
    ∧ Takes up (ask [9, 0, 0, 0]) ∧ commandOf 0x0003 = some cmdSetMode ∧ (cmdSetMode up (ask [9, 0, 0, 0])).isOk = false := by
  and_intros <;> first | decide +kernel | rfl

end Sys2Proof.Tests
end

/-! SUPPORT. What one step can change, and the invariant that every step keeps (spec/00_scope.md). -/
namespace Sys2Proof.Machine

/-! ## What one step can change -/

/-- A step idles on an empty queue, or runs the front command on the state with the queue's rest. -/
theorem step_cases {s t : State} (h : step s = .next t) :
    (s.pending = [] ∧ t = s)
      ∨ ∃ c rest, s.pending = c :: rest ∧ exec c { s with pending := rest } = .next t := by
  unfold step at h
  split at h
  next hq =>
    cases h
    exact .inl ⟨hq, rfl⟩
  next c rest hq => exact .inr ⟨c, rest, hq, h⟩

/-- A step can change every part but the fuses: taking the front command changes the queue, and running it changes neither. -/
theorem step_same {s t : State} (h : step s = .next t) : Same 0x3FFFFFFD s t := by
  obtain ⟨-, rfl⟩ | ⟨c, rest, -, hexec⟩ := step_cases h
  · exact .refl _
  · have taken : Same 0x3FFFFFFD s { s with pending := rest } := (Same.set_pending s rest).mono (by decide)
    exact (exec_same c _ t hexec).step (by decide) taken

/-! ## The invariant -/

/-- Every clause of the invariant is one of the clauses that `Same` keeps whatever its mask. -/
theorem Same.inv {w : Nat} {s t : State} (h : Same w s t) (hs : Inv s) : Inv t where
  sizes := h.sizes.trans hs.sizes
  host := h.host hs.host
  sorted := h.sorted hs.sorted

/-- The units of the delivered WV-OVP512 (R2, R3). -/
theorem State.reset_sizes : State.reset.sizes = (3, 512, 8, 256, 8, 16) := by
  simp only [State.sizes, State.reset, State.resetPorts, List.length_cons, List.length_nil, List.length_replicate]

/-! ## The statements -/

/-- Settles O3: nothing has been written to the host-reserved region at reset, and no parameter differs from its reset value. -/
theorem resetMeetsInvariant : Obligations.ResetMeetsInvariant where
  sizes := State.reset_sizes
  host := rfl
  sorted := .nil

/-- Settles O4: a step differs from its state only in ways that keep the invariant. -/
theorem everyStepKeepsInvariant : Obligations.EveryStepKeepsInvariant := by
  intro s t hs h
  exact (step_same h).inv hs

/-- Settles O7: neither part is in the mask of what a command can change. -/
theorem commandsLeaveQueueAndFuses : Obligations.CommandsLeaveQueueAndFuses := by
  intro c s t h
  have hsame : Same 0x3FFFFFFC s t := exec_same c s t h
  exact ⟨hsame.pending (by decide), hsame.fuses (by decide)⟩

end Sys2Proof.Machine

section
/-! SUPPORT. A command's own row, the sample index, and the frames of the block's events (spec/01_architecture.md R16, R20). -/
namespace Sys2Proof.Machine

/-! ## The rows of requests -/

/-- The row of a request hands it to its port (log entry 61). -/
theorem exec_of_requestOf {i : Instr} {op : Nat} {r : Request} (h : requestOf i = some (op, r)) (s : State) :
    exec i s = .next (s.submit op r) := by
  cases i <;> cases h <;> rfl

/-- A request that is taken at once and that its command accepts. -/
theorem exec_of_accepted {i : Instr} {op : Nat} {r : Request} {s t : State} {f : State → Request → Except Deny State}
    (hrow : requestOf i = some (op, r)) (htakes : Takes s r) (hf : commandOf op = some f) (hok : f s r = .ok t) :
    exec i s = .next (t.accepted op s.security.sealSt) := by
  rw [exec_of_requestOf hrow, State.submit_ok htakes hf hok]

/-! ## The sample index (R20) -/

/-- The rows that may move the sample index (R20, R21, R89). -/
def MovesSampleIndex (c : Instr) : Prop :=
  (∃ a, c = .roundBoundary a) ∨ (∃ n, c = .referenceWindow n) ∨ (∃ a, c = .adjournment a) ∨ (∃ a, c = .startCondition a)
    ∨ c = .controlPlaneReady

/-- A mask without the slot, as the second alternative of `exec_moves_or_keepsSlot`. -/
theorem keepsSlot {P : Prop} {v : Nat} {s : State} {x : Host.Outcome State Fault Refusal} (k : SameO v s x)
    (hv : v ||| 0x1FFFFFFC = 0x1FFFFFFC := by decide) : P ∨ SameO 0x1FFFFFFC s x := .inr (k.mono hv)

/-- Every row but those that may move the sample index leaves the slot out of what it changes. -/
theorem exec_moves_or_keepsSlot (c : Instr) (s : State) : MovesSampleIndex c ∨ SameO 0x1FFFFFFC s (exec c s) := by
  cases c with
  | resetCmdStart _ => exact keepsSlot (execResetCmdStart_same _ _)
  | capService _ => exact keepsSlot (execCapService_same _ _)
  | vbatMeasure _ => exact keepsSlot (execVbatMeasure_same _ _)
  | slewComplete => exact keepsSlot (execSlewComplete_same _)
  | tokenApply => exact keepsSlot (execTokenApply_same _)
  | tokenLockoutEnd _ => exact keepsSlot (execTokenLockoutEnd_same _ _)
  | relayOverrideEnd _ => exact keepsSlot (execRelayOverrideEnd_same _ _)
  | relayTestEnd _ => exact keepsSlot (execRelayTestEnd_same _ _)
  | powerLimitHoldEnd _ => exact keepsSlot (execPowerLimitHoldEnd_same _ _)
  | logFreezeTimeout => exact keepsSlot (execLogFreezeTimeout_same _)
  | captureComplete => exact keepsSlot (execCaptureComplete_same _)
  | debugLevelExpiry => exact keepsSlot (execDebugLevelExpiry_same _)
  | imageSessionTimeout => exact keepsSlot (execImageSessionTimeout_same _)
  | controlCoreSwitch _ => exact keepsSlot (execControlCoreSwitch_same _ _)
  | controlCoreFallback _ => exact keepsSlot (execControlCoreFallback_same _ _)
  | ucodeSwitch => exact keepsSlot (execUcodeSwitch_same _)
  | remapEffect => exact keepsSlot (execRemapEffect_same _)
  | readPortStatus _ => exact keepsSlot (execReadPortStatus_same _ _)
  | writePacket _ _ => exact keepsSlot (execWritePacket_same _ _ _)
  | writePacketQ _ _ => exact keepsSlot (execWritePacketQ_same _ _ _)
  | readPacket _ _ => exact keepsSlot (execReadPacket_same _ _ _)
  | readPacketQ _ _ => exact keepsSlot (execReadPacketQ_same _ _ _)
  | spiUnknownInstruction _ _ => exact keepsSlot (execSpiUnknownInstruction_same _ _ _)
  | auxFrame _ _ => exact keepsSlot (execAuxFrame_same _ _ _)
  | auxBreak _ => exact keepsSlot (execAuxBreak_same _ _)
  | auxReplySent => exact keepsSlot (execAuxReplySent_same _)
  | jorosMailbox _ _ => exact keepsSlot (execJorosMailbox_same _ _ _)
  | idcode => exact keepsSlot (execIdcode_same _)
  | samplePreload _ _ => exact keepsSlot (execSamplePreload_same _ _ _)
  | extest _ => exact keepsSlot (execExtest_same _ _)
  | clamp => exact keepsSlot (execClamp_same _)
  | highz => exact keepsSlot (execHighz_same _)
  | debug _ => exact keepsSlot (execDebug_same _ _)
  | bypass _ => exact keepsSlot (execBypass_same _ _)
  | trstN => exact keepsSlot (execTrstN_same _)
  | resetN _ => exact keepsSlot (execResetN_same _ _)
  | watchdogExpiry _ => exact keepsSlot (execWatchdogExpiry_same _ _)
  | controlPlaneReady => exact .inl (.inr (.inr (.inr (.inr rfl))))
  | calLink _ => exact keepsSlot (execCalLink_same _ _)
  | calLinkOpenTimeout => exact keepsSlot (execCalLinkOpenTimeout_same _)
  | calibrateTimeout => exact keepsSlot (execCalibrateTimeout_same _)
  | pfail _ _ => exact keepsSlot (execPfail_same _ _ _)
  | fullMeteringReturn _ => exact keepsSlot (execFullMeteringReturn_same _ _)
  | rideThroughEnd _ => exact keepsSlot (execRideThroughEnd_same _ _)
  | adjournment _ => exact .inl (.inr (.inr (.inl ⟨_, rfl⟩)))
  | startCondition _ => exact .inl (.inr (.inr (.inr (.inl ⟨_, rfl⟩))))
  | startAbandoned _ => exact keepsSlot (execStartAbandoned_same _ _)
  | vaonLoss => exact keepsSlot (execVaonLoss_same _)
  | healthTestStart _ _ => exact keepsSlot (execHealthTestStart_same _ _ _)
  | healthTestComplete _ => exact keepsSlot (execHealthTestComplete_same _ _)
  | vbatMeasurement _ _ => exact keepsSlot (execVbatMeasurement_same _ _ _)
  | checkpoint => exact keepsSlot (execCheckpoint_same _)
  | referenceWindow _ => exact .inl (.inr (.inl ⟨_, rfl⟩))
  | temperatureReduction _ => exact keepsSlot (execTemperatureReduction_same _ _)
  | temperatureRecovery _ => exact keepsSlot (execTemperatureRecovery_same _ _)
  | creditResync _ => exact keepsSlot (execCreditResync_same _ _)
  | notice _ => exact keepsSlot (execNotice_same _ _)
  | roundBoundary _ => exact .inl (.inl ⟨_, rfl⟩)
  | noCrossing _ => exact keepsSlot (execNoCrossing_same _ _)
  | cycleCommit _ => exact keepsSlot (execCycleCommit_same _ _)
  | cycleCommitDeadline _ => exact keepsSlot (execCycleCommitDeadline_same _ _)
  | segmentRecord _ => exact keepsSlot (execSegmentRecord_same _ _)
  | laneSelfTest _ _ => exact keepsSlot (execLaneSelfTest_same _ _ _)
  | islandSupplyCheck _ _ _ _ => exact keepsSlot (execIslandSupplyCheck_same _ _ _ _ _)
  | overloadEpisodeEnd _ => exact keepsSlot (execOverloadEpisodeEnd_same _ _)
  | urgentRequest _ => exact keepsSlot (execUrgentRequest_same _ _)
  | secondIntegrationEnd _ _ _ _ => exact keepsSlot (execSecondIntegrationEnd_same _ _ _ _ _)
  | secondSelfTest _ _ _ _ => exact keepsSlot (execSecondSelfTest_same _ _ _ _ _)
  | pqItem _ => exact keepsSlot (execPqItem_same _ _)
  | frequencyWindowEnd _ => exact keepsSlot (execFrequencyWindowEnd_same _ _)
  | harmonicWindowEnd _ => exact keepsSlot (execHarmonicWindowEnd_same _ _)
  | coalesceWindowClose => exact keepsSlot (execCoalesceWindowClose_same _)
  | boundaryFreeze => exact keepsSlot (execBoundaryFreeze_same _)
  | anchor => exact keepsSlot (execAnchor_same _)
  | boundaryCommit => exact keepsSlot (execBoundaryCommit_same _)
  | boundarySigning => exact keepsSlot (execBoundarySigning_same _)
  | boundaryTableRefill => exact keepsSlot (execBoundaryTableRefill_same _)
  | boundaryTableLow => exact keepsSlot (execBoundaryTableLow_same _)
  | zoneChange => exact keepsSlot (execZoneChange_same _)
  | rtcCorrection _ => exact keepsSlot (execRtcCorrection_same _ _)
  | rtcDriftCheck => exact keepsSlot (execRtcDriftCheck_same _)
  | balanceWindow _ => exact keepsSlot (execBalanceWindow_same _ _)
  | pulseEdge _ => exact keepsSlot (execPulseEdge_same _ _)
  | relayRefresh _ => exact keepsSlot (execRelayRefresh_same _ _)
  | storeJobConfirm _ => exact keepsSlot (execStoreJobConfirm_same _ _)
  | writerEnergyRecheck _ => exact keepsSlot (execWriterEnergyRecheck_same _ _)
  | scrubWord _ _ _ => exact keepsSlot (execScrubWord_same _ _ _ _)
  | eventGroup _ => exact keepsSlot (execEventGroup_same _ _)
  | tamperSample _ => exact keepsSlot (execTamperSample_same _ _)
  | supplyGlitch => exact keepsSlot (execSupplyGlitch_same _)
  | rtcOscillatorStop => exact keepsSlot (execRtcOscillatorStop_same _)
  | lockExpiry => exact keepsSlot (execLockExpiry_same _)
  | securityJobDone _ => exact keepsSlot (execSecurityJobDone_same _ _)
  | sessionKeyExpiry _ => exact keepsSlot (execSessionKeyExpiry_same _ _)
  | entropyFailure => exact keepsSlot (execEntropyFailure_same _)
  | resetNRelease => exact keepsSlot (execResetNRelease_same _)
  | supplyGlitchClear => exact keepsSlot (execSupplyGlitchClear_same _)
  | rtcOscillatorResumed => exact keepsSlot (execRtcOscillatorResumed_same _)
  -- Every other row is a request, which its port takes.
  | _ => exact keepsSlot (SameO.next (State.submit_same s _ _))

/-- Settles O8: a row that is none of the five keeps the slot, which is the sample index. -/
theorem sampleIndexMovesOnly : Obligations.SampleIndexMovesOnly := by
  intro c s t h hne
  obtain hmoves | hkeeps := exec_moves_or_keepsSlot c s
  · exact hmoves
  · exact absurd ((hkeeps t h).slot (by decide)) hne

/-! ## The empty queue (R16) -/

/-- Settles O2: with no command at the front, the step answers the state itself. -/
theorem emptyQueueIdles : Obligations.EmptyQueueIdles := by
  intro s hempty
  unfold step
  rw [hempty]

/-! ## The frames of the block's events (R16, R32, R495) -/

/-- Settles O58: the mask that each event's frame lemma gives is the parts that the clause names. -/
theorem eventFrames : Obligations.EventFrames :=
  ⟨execSlewComplete_same,
    fun s t h => h.elim (execCalLinkOpenTimeout_same s t) (execCalibrateTimeout_same s t),
    fun s code => execNotice_same code s,
    execResetNRelease_same,
    fun s port => execReadPortStatus_same port s,
    fun s port clocked => execReadPacket_same port clocked s,
    execAuxReplySent_same,
    fun s t h => h.elim (execIdcode_same s t) (Or.elim · (execClamp_same s t) (execHighz_same s t)),
    fun s pins preload => execSamplePreload_same pins preload s,
    fun s pins => execExtest_same pins s,
    fun s code => execBypass_same code s,
    fun s ch => execNoCrossing_same ch s,
    fun s out => execPulseEdge_same out s,
    execBoundaryFreeze_same,
    execLockExpiry_same,
    fun s anchor => execSessionKeyExpiry_same anchor s,
    execImageSessionTimeout_same,
    execDebugLevelExpiry_same,
    fun s vmain vhold => execHealthTestStart_same vmain vhold s,
    fun s mp t h => h.elim (execRelayTestEnd_same mp s t) (execPowerLimitHoldEnd_same mp s t),
    execRtcDriftCheck_same,
    fun s port clocked => execReadPacketQ_same port clocked s,
    fun s port code => execSpiUnknownInstruction_same port code s,
    execBoundaryTableLow_same,
    fun s di => execRelayRefresh_same di s,
    fun s t h => h.elim (execCaptureComplete_same s t) (execCoalesceWindowClose_same s t),
    execSupplyGlitch_same,
    fun s mp => execTokenLockoutEnd_same mp s,
    execEntropyFailure_same,
    fun s samples => execCalLink_same samples s,
    execTrstN_same,
    fun s m => execHealthTestComplete_same m s,
    fun s on => execCapService_same on s,
    fun s ch t h => h.elim (execOverloadEpisodeEnd_same ch s t) (execFrequencyWindowEnd_same ch s t),
    execRtcOscillatorStop_same,
    execCheckpoint_same,
    fun s mp => execRelayOverrideEnd_same mp s,
    execLogFreezeTimeout_same,
    execBoundarySigning_same,
    fun s q => execCreditResync_same q s,
    execBoundaryTableRefill_same,
    fun s isl vrefPpm avddPpm t16 => execIslandSupplyCheck_same isl vrefPpm avddPpm t16 s,
    fun s ch => execHarmonicWindowEnd_same ch s,
    execVaonLoss_same,
    execSupplyGlitchClear_same,
    fun s normal margin again => execScrubWord_same normal margin again s,
    fun s upset => execEventGroup_same upset s,
    fun s pair sigs => execLaneSelfTest_same pair sigs s,
    execAnchor_same,
    fun s isl b cHalf cZero => execSecondSelfTest_same isl b cHalf cZero s,
    fun s a => execTamperSample_same a s,
    execRtcOscillatorResumed_same,
    fun s vmain => execFullMeteringReturn_same vmain s,
    fun s op => execDebug_same op s,
    fun s upsets => execPqItem_same upsets s,
    fun s mv => execVbatMeasure_same mv s,
    fun s mv vhold => execVbatMeasurement_same mv vhold s,
    fun s t16 => execRtcCorrection_same t16 s,
    fun s g => execBalanceWindow_same g s,
    fun s t16 => execTemperatureReduction_same t16 s,
    fun s t16 => execTemperatureRecovery_same t16 s,
    execTokenApply_same,
    execZoneChange_same,
    fun s vmain vhold => execPfail_same vmain vhold s,
    fun s upset => execUrgentRequest_same upset s,
    fun s mp t h => h.elim (execCycleCommit_same mp s t) (execCycleCommitDeadline_same mp s t),
    fun s vhold => execStartAbandoned_same vhold s,
    execUcodeSwitch_same,
    fun s isl b count upset => execSecondIntegrationEnd_same isl b count upset s,
    execRemapEffect_same,
    fun s count => execReferenceWindow_same count s,
    fun s vddio => execResetN_same vddio s,
    fun s vddio t h => h.elim (execControlCoreSwitch_same vddio s t)
      (Or.elim · (execControlCoreFallback_same vddio s t) (execWatchdogExpiry_same vddio s t)),
    fun s poisoned => execSecurityJobDone_same poisoned s,
    fun s vddio => execResetCmdStart_same vddio s,
    fun s vhold => execRideThroughEnd_same vhold s⟩

end Sys2Proof.Machine
end

section
/-! SUPPORT. The checks of a parameter write, and the three parameter commands that write (spec/19_reference.md R502 to R506). -/
namespace Sys2Proof.Machine

/-! ## Checks that pass -/

@[simp] theorem need_true (st : Status) : need true st = .ok () := rfl

theorem need_ok {b : Bool} {st : Status} (h : b = true) : need b st = .ok () := if_pos h

theorem flagsWithin_ok {x w : Nat} (h : x < 2 ^ w) : flagsWithin x w = .ok () := need_ok (decide_eq_true h)

theorem reserved_ok {r : Request} {off k : Nat} (h : isZero r.params off k = true) : reserved r off k = .ok () := need_ok h

theorem len_ok {r : Request} {n : Nat} (h : r.params.length = n) : len r n = .ok () := need_ok (beq_iff_eq.2 h)

theorem modeAll_ok {s : State} (h : s.mode.mode.responding = true) : modeAll s = .ok () := by
  simp [modeAll, modeResp, need67, h]

theorem State.write6_ok {s : State} {pid : Nat} {v : BitVec 32} (h : s.sealFails pid v = none) : s.write6 pid v = .ok () := by
  simp [State.write6, need67, h]

theorem State.write8_ok {s : State} {pid : Nat} {v : BitVec 32} (h : s.sealFails pid v = none) : s.write8 pid v = .ok () := by
  simp [State.write8, need, h]

@[simp] theorem except_ok_bind {ε α β : Type} (a : α) (f : α → Except ε β) : ((.ok a : Except ε α) >>= f) = f a := rfl

/-! ## Requests whose command leaves the seal state -/

theorem State.accept_security {s t : State} {r : Request} {op : Nat} {c : Bool} {o : OpRef} (h : s.accept r op c = some (t, o)) :
    t.security = s.security := by
  unfold State.accept at h
  dsimp only at h
  split at h
  · cases h
  · cases h
    exact State.reply_security ..

/-- A request whose command accepts it outside calibration and leaves the seal state: nothing but its command's effect. -/
theorem exec_of_sealSt_eq {i : Instr} {op : Nat} {r : Request} {s t : State} {f : State → Request → Except Deny State}
    (hrow : requestOf i = some (op, r)) (htakes : Takes s r) (hf : commandOf op = some f) (hok : f s r = .ok t)
    (hop : op / 256 ≠ 7) (hseal : t.security.sealSt = s.security.sealSt) : exec i s = .next t := by
  rw [exec_of_accepted hrow htakes hf hok, ← hseal, State.accepted_same' hop]

/-- A port other than P3 that takes a request exists. -/
theorem Takes.port_lt {s : State} {r : Request} (h : Takes s r) (hp : r.port < 3) : r.port < s.ports.length := by
  obtain ⟨-, hfree, -⟩ := h
  obtain hp3 | ⟨-, hlt, -⟩ := hfree
  · omega
  · exact hlt

/-! ## COMMIT_PARAMS (R506) -/

/-- The port of a request without its staged values. -/
def State.unstaged (s : State) (r : Request) : State := s.onPort r.port fun p => { p with pendingSet := [] }

theorem State.unstaged_handles {s : State} {r : Request} (h : r.port < s.ports.length) :
    ((s.unstaged r).port r.port).handles = (s.port r.port).handles := by
  rw [State.unstaged, State.port_onPort _ _ _ h]

/-- The discard of the staged values. -/
theorem cmdCommitParams_discard {s : State} {r : Request} (hpriv : needPriv s r 0x0105 = .ok ())
    (hmode : s.mode.mode.responding = true) (hlen : r.params.length = 4) (hflags : byteAt r 0 < 2)
    (hres : isZero r.params 1 3 = true) (hdiscard : bit (byteAt r 0) 0 = true) :
    cmdCommitParams s r = .ok ((s.unstaged r).replyOk r (le 2 (s.port r.port).pendingSet.length ++ zeros 2)) := by
  simp [cmdCommitParams, len_ok hlen, flagsWithin_ok (w := 1) hflags, reserved_ok hres, hpriv, modeAll_ok hmode, hdiscard,
    State.unstaged]

/-- The commit of the staged values, none of which fails. -/
theorem cmdCommitParams_commit {s s1 : State} {r : Request} {o : OpRef} (hpriv : needPriv s r 0x0105 = .ok ())
    (hmode : s.mode.mode.responding = true) (hlen : r.params.length = 4) (hflags : byteAt r 0 < 2)
    (hres : isZero r.params 1 3 = true) (hcommit : bit (byteAt r 0) 0 = false) (hstaged : (s.port r.port).pendingSet ≠ [])
    (hacc : (s.unstaged r).accept r 0x0105 = some (s1, o)) (hitems : s1.recheckAll r.port 0 (s.port r.port).pendingSet = none)
    (hset : s1.setFails (s.port r.port).pendingSet = none) :
    cmdCommitParams s r = .ok ((s1.commitOp o).commitSet ((s.port r.port).pendingSet.map fun e => .pid e.1 e.2)
      { id := 0, op := some o, result := (s.port r.port).pendingSet.length }) := by
  have hsome : need (!(s.port r.port).pendingSet.isEmpty) .badParameter = .ok () := need_ok (by simp [hstaged])
  rw [State.unstaged] at hacc
  simp [cmdCommitParams, len_ok hlen, flagsWithin_ok (w := 1) hflags, reserved_ok hres, hpriv, modeAll_ok hmode, hcommit,
    hsome, hacc, hitems, hset, lowerFail]

/-! ## The statement -/

/-- Settles O21: the checks pass in the order of R112, and the branch that the flag selects stages, commits or discards. -/
theorem parameterWritesComplete : Obligations.ParameterWritesComplete := by
  refine ⟨?_, ?_, ?_⟩
  · intro s s5 r auth pid v htakes hauth hpid hv hflags hres h3 h4 h5 hseal hmode halone
    subst hpid hv
    have hform := flagsWithin_ok (w := 1) hflags
    have hzero := reserved_ok hres
    have h6 := State.write6_ok hseal
    have h7 := modeAll_ok hmode
    have h8 := State.write8_ok hseal
    refine ⟨fun hstage hroom => ?_, fun hdirect hset => ?_⟩
    · refine exec_of_accepted rfl htakes rfl ?_
      simp [cmdSetParam, hauth, hform, hzero, h3, h4, h5, h6, h7, h8, halone, hstage, hroom]
    · refine exec_of_accepted rfl htakes rfl ?_
      simp [cmdSetParam, hauth, hform, hzero, h3, h4, h5, h6, h7, h8, halone, hdirect, hset]
  · intro s s5 r auth first n ws htakes hfirst hn hn1 hn2 hlen hauth hflags hres hrange hend hws h3 h4 h5 h6 hmode h8 halone
    subst hfirst hn hws
    have hlen8 : 8 ≤ r.params.length := by omega
    have hcount : within 1 1016 (fieldAt r 2 2) = true := by simp [within, hn1, hn2]
    have hform := flagsWithin_ok (w := 1) hflags
    have hzero := reserved_ok hres
    have h7 := modeAll_ok hmode
    refine ⟨fun hstage hroom => ?_, fun hdirect hset => ?_⟩
    · refine exec_of_accepted rfl htakes rfl ?_
      simp [-List.any_eq_true, cmdSetParamBlock, hlen8, hcount, hlen, hauth, hform, hzero, hrange, hend, h3, h4, h5, h6, h7, h8,
        halone, hstage, hroom]
    · refine exec_of_accepted rfl htakes rfl ?_
      simp [-List.any_eq_true, cmdSetParamBlock, hlen8, hcount, hlen, hauth, hform, hzero, hrange, hend, h3, h4, h5, h6, h7, h8,
        halone, hdirect, hset]
  · intro s r hasked hlen hflags hres hport
    obtain ⟨htakes, hpriv, hmode⟩ := hasked
    refine ⟨fun hdiscard => ?_, fun hcommit hstaged hroom => ?_⟩
    · have hok := cmdCommitParams_discard hpriv hmode hlen hflags hres hdiscard
      exact exec_of_sealSt_eq rfl htakes rfl hok (by decide) (by rw [State.replyOk_security]; rfl)
    · have hfree : ((s.unstaged r).port r.port).handles.length < 64 := by
        rwa [State.unstaged_handles (Takes.port_lt htakes hport)]
      obtain ⟨s1, o, hacc⟩ := accept_some (op := 0x0105) (c := false) hfree
      refine ⟨s1, o, hacc, fun hitems hset => ?_⟩
      have hok := cmdCommitParams_commit hpriv hmode hlen hflags hres hcommit hstaged hacc hitems hset
      have hsec : s1.security = (s.unstaged r).security := State.accept_security hacc
      exact exec_of_sealSt_eq rfl htakes rfl hok (by decide) (congrArg Security.sealSt hsec)

end Sys2Proof.Machine
end

section
/-! SUPPORT. The events of the time base where they are due (spec/11_tariffs_demand_billing.md R303 to R306, R331, R516). -/
namespace Sys2Proof.Machine

/-! ## What a change of the clock leaves as it was -/

@[simp] theorem State.onClock_metering {s : State} (f : Clock → Clock) : (s.onClock f).metering = s.metering := rfl
@[simp] theorem State.onClock_asleep {s : State} (f : Clock → Clock) : (s.onClock f).asleep = s.asleep := rfl
@[simp] theorem Clock.window_refLost (c : Clock) : c.window.refLost = c.refLost := rfl

/-! ## One window of the 32.768 kHz clock (R303, R331) -/

/-- Inside a span of 32 s the period count takes no correction. -/
theorem Clock.window_periods {c : Clock} (h : c.windows + 1 ≠ 32768) : c.window.periods = c.periods + 32 := by
  have hfull : (c.windows + 1 == 32768) = false := beq_false_of_ne h
  simp only [Clock.window, hfull, Bool.false_eq_true, if_false]
  omega

/-- While no slew is outstanding, a window adds its 64 units to the RTC and, at the end of 32 s, the correction. -/
theorem Clock.window_rtc {c : Clock} (hslew : c.slew = 0) (hmilli : c.rtcMilli < 1000) :
    c.window.rtcMilli = c.rtcMilli
      ∧ c.window.rtc = if c.windows + 1 = 32768 then wrap48 (c.rtc + 64 + 2 * c.corrPeriods) else wrap48 (c.rtc + 64) := by
  have hcarry : (c.rtcMilli : Int) / 1000 = 0 := by omega
  have hrest : ((c.rtcMilli : Int) % 1000).toNat = c.rtcMilli := by omega
  constructor
  · simp [Clock.window, hslew, hrest]
  · by_cases hfull : c.windows + 1 = 32768
    · simp [Clock.window, hslew, hcarry, hfull]
    · have hbeq : (c.windows + 1 == 32768) = false := beq_false_of_ne hfull
      simp only [if_neg hfull, Clock.window, hslew, hbeq, Bool.false_eq_true, if_false]
      simp [hcarry]

/-! ## The rows -/

/-- The end of a slew (R331): the RTC in 1/65536000 s gains what was outstanding. -/
theorem execSlewComplete_of_due {s : State} (hne : s.clock.slew ≠ 0) (hlast : s.clock.slew.natAbs ≤ 64) :
    ∃ t, execSlewComplete s = .next t ∧ t.clock.slew = 0
      ∧ (∃ x : Int, t.clock.rtc = wrap48 x ∧ x * 1000 + t.clock.rtcMilli = s.clock.rtc * 1000 + s.clock.rtcMilli + s.clock.slew)
      ∧ t.clock.rtcMilli < 1000 ∧ Same partClock s t := by
  have hrun : execSlewComplete s = .next _ := congrArg Host.Outcome.next (if_pos ⟨hne, hlast⟩)
  refine ⟨_, hrun, rfl, ⟨_, rfl, ?_⟩, ?_, execSlewComplete_same s _ hrun⟩
  · dsimp only [State.onClock_clock]
    omega
  · dsimp only [State.onClock_clock]
    omega

/-- Settles O51: each row's condition holds, and the row answers the state that its rule gives. -/
theorem timeBaseEventsComplete : Obligations.TimeBaseEventsComplete := by
  refine ⟨?window, ?anchor, ?correction, ?drift, ?slew, ?zone, ?stop, ?resumed⟩
  case window =>
    intro s n t hpower ht
    subst ht
    refine ⟨Clock.window_periods, Clock.window_rtc, fun hmet => ?_, fun hmet hlost hlo hhi => ?_, fun hmet hlost hbad => ?_,
      fun hmet hlost u hu => ?_⟩
    · simp [exec, execReferenceWindow, hpower, hmet]
    · simp [exec, execReferenceWindow, hpower, hmet, hlost, within, hlo, hhi]
    · have hbad' : ¬ (15840 ≤ n ∧ n ≤ 16160) := by omega
      simp [exec, execReferenceWindow, hpower, hmet, hlost, within, hbad']
    · subst hu
      simp [exec, execReferenceWindow, hpower, hmet, hlost, within]
  case anchor =>
    intro s hmet hdue
    simp [exec, execAnchor, hmet, hdue]
  case correction =>
    intro s t16 t hpower ht
    subst ht
    refine ⟨fun hawake => ?_, fun hasleep => ?_⟩
    · simp [exec, execRtcCorrection, hpower, hawake]
    · simp [exec, execRtcCorrection, hpower, hasleep]
  case drift =>
    intro s a p n num t hmet href hfrom hn hspan hnum ht
    subst hn hnum ht
    have hlong : ¬ s.clock.periods - p < 33554432 := by omega
    simp [exec, execRtcDriftCheck, hmet, href, hfrom, hlong]
  case slew => exact fun s => execSlewComplete_of_due
  case zone =>
    intro s n u es live t hat hstore hu hes hlive ht
    subst hu hes hlive ht
    simp only [exec, execZoneChange, hat, hstore, reduceCtorEq, if_false]
    -- Clearing ZONE_CHANGE's instant leaves the sample index and the flags of a commit.
    rfl
  case stop =>
    intro s hcell hrunning
    simp [exec, execRtcOscillatorStop, hcell, hrunning]
  case resumed =>
    intro s hstopped
    simp [exec, execRtcOscillatorResumed, hstopped]

end Sys2Proof.Machine
end

section
/-! SUPPORT. The transactions of the SPI ports P0 and P2 (spec/05_ports_and_protocol.md R122 to R125, R129, R141). -/
namespace Sys2Proof.Machine

variable {s : State} {p : Nat}

/-! ## Which port, and whether it takes a packet (R122, R123) -/

theorem spiPort_iff : spiPort p = true ↔ p = 0 ∨ p = 2 := by simp [spiPort]

theorem State.spiReady_iff : s.spiReady p = true ↔ s.hears p = true ∧ (s.port p).resyncOwed = false := by
  simp [State.spiReady]

/-! ## A status word (R123) -/

/-- A port whose partner is heard presents its status word. -/
theorem execReadPortStatus_of_heard (hspi : spiPort p = true) (hheard : s.hears p = true) :
    execReadPortStatus p s = .next (s.onPort p fun q => { q with out := s.statusWord p }) := by
  simp [execReadPortStatus, hspi, hheard]

/-! ## A packet written (R124, R140) -/

theorem execWritePacket_of_spiPort (hspi : spiPort p = true) (bs : List Byte) :
    execWritePacket p bs s = .next (s.writeSpi p bs) := by
  simp [execWritePacket, hspi]

/-- A port that is ready takes the packet in and executes what has its turn. -/
theorem State.writeSpi_of_ready {bs : List Byte} (hready : s.spiReady p = true) (hne : bs ≠ []) :
    s.writeSpi p bs = (s.arrive p (rawOf bs)).drainPort p := by
  simp [State.writeSpi, hready, hne]

/-- A transaction without data bytes is no packet. -/
@[simp] theorem State.writeSpi_nil : s.writeSpi p [] = s := by simp [State.writeSpi]

/-- What is written before the RESYNC reply has been read is discarded. -/
theorem State.writeSpi_of_resyncOwed (howed : (s.port p).resyncOwed = true) (bs : List Byte) : s.writeSpi p bs = s := by
  simp [State.writeSpi, State.spiReady, howed]

/-! ## A reply clocked out to its end (R125) -/

theorem State.readReply_of_whole {n : Nat} {r : Reply} (hheard : s.hears p = true) (hhead : (s.port p).head = some r)
    (hwhole : (s.packetOf p r).length ≤ n) :
    s.readReply p n = (s.onPort p fun q => { q with out := padTo n ((s.packetOf p r).take n) }).sent p := by
  simp [State.readReply, hheard, hhead, hwhole]

/-! ## An instruction byte that the port does not know (R122, R129, R141) -/

theorem State.unknownSpi_of_unlisted {code : Nat} (hspi : spiPort p = true) (hheard : s.hears p = true)
    (hcode : spiOf p code = none) : s.unknownSpi p code = s.framingError p := by
  simp [State.unknownSpi, hspi, hheard, hcode]

/-! ## The quad transactions (R122, R129) -/

/-- On P0 a quad write is a write on more lanes. -/
theorem execWritePacketQ_zero (bs : List Byte) : execWritePacketQ 0 bs s = execWritePacket 0 bs s := rfl

/-- On P0 a quad read is a read on more lanes. -/
theorem execReadPacketQ_zero (n : Nat) : execReadPacketQ 0 n s = execReadPacket 0 n s := rfl

/-- P2 has a single lane: its two quad codes are none of its instructions. -/
theorem execWritePacketQ_two (hheard : s.hears 2 = true) (bs : List Byte) :
    execWritePacketQ 2 bs s = .next (s.framingError 2) :=
  congrArg Host.Outcome.next (State.unknownSpi_of_unlisted (code := 0x32) rfl hheard rfl)

theorem execReadPacketQ_two (hheard : s.hears 2 = true) (n : Nat) :
    execReadPacketQ 2 n s = .next (s.framingError 2) :=
  congrArg Host.Outcome.next (State.unknownSpi_of_unlisted (code := 0x6B) rfl hheard rfl)

/-- Settles O43: each transaction of a port that is heard has the effect of its instruction, and a quad one of P0 that of its
single-lane form. -/
theorem spiTransactionsComplete : Obligations.SpiTransactionsComplete := by
  intro s
  refine ⟨?single, execWritePacketQ_zero, execReadPacketQ_zero, fun bs hheard => execWritePacketQ_two hheard bs,
    fun n hheard => execReadPacketQ_two hheard n, ?quadRead, ?quadWrite⟩
  case single =>
    intro p hp hheard
    have hspi : spiPort p = true := spiPort_iff.2 hp
    have hwrite (bs : List Byte) : exec (.writePacket p bs) s = .next (s.writeSpi p bs) := execWritePacket_of_spiPort hspi bs
    refine ⟨execReadPortStatus_of_heard hspi hheard, fun code hcode => ?unknown, fun bs hne hfree => ?packet, ?empty,
      fun bs howed => ?owed⟩
    case unknown => exact congrArg Host.Outcome.next (State.unknownSpi_of_unlisted hspi hheard hcode)
    case packet => rw [hwrite, State.writeSpi_of_ready (State.spiReady_iff.2 ⟨hheard, hfree⟩) hne]
    case empty => rw [hwrite, State.writeSpi_nil]
    case owed => rw [hwrite, State.writeSpi_of_resyncOwed howed]
  case quadRead =>
    intro n r hheard hhead hwhole
    exact congrArg Host.Outcome.next (State.readReply_of_whole hheard hhead hwhole)
  case quadWrite =>
    intro bs hne hheard hfree
    exact congrArg Host.Outcome.next (State.writeSpi_of_ready (State.spiReady_iff.2 ⟨hheard, hfree⟩) hne)

end Sys2Proof.Machine
end

section
/-! SUPPORT. The events of the supply, the end of an adjournment and the start, where they are due (spec/03_supply_holdup_adjournment.md
R67 to R77, R85 to R92, R100). -/
namespace Sys2Proof.Machine

variable {s : State}

/-! ## What a change of the supply leaves as it was -/

@[simp] theorem State.onPower_storeOn (f : Power → Power) : (s.onPower f).storeOn = s.storeOn := rfl
@[simp] theorem State.onPower_asleep (f : Power → Power) : (s.onPower f).asleep = s.asleep := rfl
@[simp] theorem State.onPower_now (f : Power → Power) : (s.onPower f).now = s.now := rfl

/-! ## The cell (R92) -/

/-- An always-on domain that has its supply takes the source that the level of VHOLD gives (R37). -/
theorem State.aonAt_of_supplied {vhold : Nat} (hsrc : s.power.src ≠ .none) :
    s.aonAt vhold = s.onPower fun p => { p with vholdMv := vhold, src := if 4500 < vhold then .vhold else .vbat } := by
  simp only [State.aonAt, State.onPower, aonSource, if_neg hsrc]

theorem aonSource_ne_none (vhold : Nat) : aonSource vhold ≠ .none := by
  unfold aonSource
  split <;> decide

@[simp] theorem State.aonAt_asleep (vhold : Nat) : (s.aonAt vhold).asleep = s.asleep := rfl

theorem State.aonAt_src_ne_none {vhold : Nat} (hsrc : s.power.src ≠ .none) : (s.aonAt vhold).power.src ≠ .none := by
  simp [State.aonAt, hsrc, aonSource_ne_none]

/-! ## A checkpoint (R85, R387) -/

/-- Handing the records over and taking the maxima anew leave the supply and the sample index. -/
theorem State.checkpoint_power (s : State) : s.checkpoint.power = { s.power with
    ckptStart := s.now, ckptNow := false, ckptDone := 0, ckptRun := s.power.ckptOps, ckptOps := [] } := by
  unfold State.checkpoint
  extract_lets ms recs handed cleared
  have hsame : Same (partPoints ||| partStore) s cleared :=
    Same.foldl (fun _ _ => (State.onPoint_same ..).mono (by decide))
      (Same.foldl (fun _ _ => (State.enqueue_same ..).mono (by decide)) (.refl s))
  have hpower : cleared.power = s.power := hsame.power (by decide)
  have hnow : cleared.now = s.now := hsame.slot (by decide)
  rw [State.onPower_power, hpower, hnow]

/-! ## The end of an adjournment (R77, R80) -/

/-- Whatever the save has done, it ends with the bucks off, and on the cell where the supply has cut it. -/
theorem State.adjournSave_ends (s : State) (a : AdjInput) (n : Nat) :
    ∃ x : State, s.adjournSave a n = (x.switchOff a).toCell ∨ s.adjournSave a n = (x.switchOff a).afterMarker a :=
  ⟨_, (Decidable.em _).imp (fun hcut => if_pos hcut) (fun hgoes => if_neg hgoes)⟩

theorem State.toCell_asleep (s : State) : s.toCell.asleep = true := rfl
theorem State.toDormant_asleep (s : State) : s.toDormant.asleep = true := rfl

/-- After the marker the device is off, or about to start anew with no step of the start done. -/
theorem State.afterMarker_asleep (a : AdjInput) (hstep : s.mode.bootStep = 0) : (s.afterMarker a).asleep = true := by
  unfold State.afterMarker
  dsimp only
  split
  · simp [State.asleep, hstep]
  · split
    · exact State.toDormant_asleep _
    · exact State.toCell_asleep _

theorem State.adjournSave_asleep (s : State) (a : AdjInput) (n : Nat) : (s.adjournSave a n).asleep = true := by
  obtain ⟨x, hcell | hmarker⟩ := s.adjournSave_ends a n
  · exact hcell ▸ State.toCell_asleep _
  · exact hmarker ▸ State.afterMarker_asleep a rfl

/-! ## A start (R90) -/

/-- A start that has reached its step does nothing more. -/
theorem State.bootUpTo_of_reached {n : Nat} (h : n ≤ s.mode.bootStep) : s.bootUpTo n = s := by
  have hstop : ∀ l : List Nat, l.foldl (fun s _ => if s.mode.bootStep < n then s.bootNext else s) s = s := by
    intro l
    induction l with
    | nil => rfl
    | cons _ l ih => rw [List.foldl_cons, if_neg (Nat.not_lt.2 h), ih]
  exact hstop _

theorem State.port_eachPort {f : Port → Port} {p : Nat} (h : p < s.ports.length) : (s.eachPort f).port p = f (s.port p) := by
  simp [State.port, State.eachPort, h]

/-- Step 1 clears the latches and the notification queues of the ports (R86, R90). -/
theorem State.bootPower_port (a : StartInput) {p : Nat} (h : p < s.ports.length) :
    ((s.bootPower a).port p).latch = 0 ∧ ((s.bootPower a).port p).notify = [] := by
  have hport : (s.bootPower a).port p =
      { s.port p with latch := 0, latchSeq := List.replicate 64 0, notify := [], overflow := 0 } := State.port_eachPort h
  simp [hport]

/-! ## The statements -/

/-- Settles O49: each row's condition holds, and the row answers the state that its rule gives. -/
theorem supplyEventsComplete : Obligations.SupplyEventsComplete := by
  refine ⟨?fails, ?returns, ?rideEnds, ?testStarts, ?testEnds, ?service, ?measured, ?measuredAsleep, ?measuredAwake, ?alarm,
    ?reduction, ?recovery, ?checkpoint⟩
  case fails =>
    intro s vmain vhold t hstore hfail hlow ht
    subst ht
    simp [exec, execPfail, hstore, hfail, hlow]
  case returns =>
    intro s vmain hstore hfail hhigh
    simp [exec, execFullMeteringReturn, hstore, hfail, hhigh]
  case rideEnds =>
    intro s vhold t hstore hfail ht
    subst ht
    refine ⟨fun c hends => ?_, fun hrides => ?_⟩
    · simp [exec, execRideThroughEnd, hstore, hfail, hends]
    · simp [exec, execRideThroughEnd, hstore, hfail, hrides]
  case testStarts =>
    intro s vmain vhold t ht hmode hdue hfree
    subst ht
    rw [State.onPower_mode] at hmode
    refine ⟨fun hallowed hop => ?_, fun o hallowed hop => ?_, fun o hwaits hop hlate => ?_⟩
    · simp [exec, execHealthTestStart, hmode, hdue, hfree, hallowed, hop]
    · simp [exec, execHealthTestStart, hmode, hdue, hfree, hallowed, hop]
    · simp [exec, execHealthTestStart, hmode, hdue, hfree, hwaits, hop, hlate]
  case testEnds =>
    intro s m c esr h t u hruns hc hesr hh ht hu
    subst hc hesr hh ht hu
    exact ⟨fun hop => by simp [exec, execHealthTestComplete, hruns, hop],
      fun o hop => by simp [exec, execHealthTestComplete, hruns, hop]⟩
  case service =>
    intro s on hmode
    simp [exec, execCapService, hmode]
  case measured =>
    intro s mv hmode
    simp [exec, execVbatMeasure, hmode]
  case measuredAsleep =>
    intro s mv vhold hasleep hsrc
    rw [← State.aonAt_of_supplied hsrc]
    simp [exec, execVbatMeasurement, hasleep, State.aonAt_src_ne_none hsrc]
  case measuredAwake =>
    intro s mv vhold hawake hstore hdue
    simp [exec, execVbatMeasurement, hawake, hstore, hdue]
  case alarm =>
    intro s t mv ht
    subst ht
    rfl
  case reduction =>
    intro s t16 hstore hcool hhot
    have hdue : (s.storeOn && !s.power.leanTemp && decide (122 * 16 ≤ t16)) = true := by
      rw [hstore, hcool, decide_eq_true hhot]; rfl
    exact congrArg Host.Outcome.next (if_pos hdue)
  case recovery =>
    intro s t16 hstore hreduced hcool
    have hdue : (s.storeOn && s.power.leanTemp && decide (t16 ≤ 112 * 16)) = true := by
      rw [hstore, hreduced, decide_eq_true hcool]; rfl
    exact congrArg Host.Outcome.next (if_pos hdue)
  case checkpoint =>
    intro s hstore hfull hnone hdue
    have hidle : (s.store.jobs.any fun j => j.ckpt) = false := by simpa using hnone
    have hrun : exec .checkpoint s = .next s.checkpoint := by
      simp [-List.any_eq_true, exec, execCheckpoint, hstore, hfull, hidle, hdue]
    have hpower := State.checkpoint_power s
    exact ⟨_, hrun, by rw [hpower], by rw [hpower], by rw [hpower], by rw [hpower], State.checkpoint_same s⟩

/-- Settles O50: every end of the save leaves the device off or about to start, a start to step 1 stops there, and the other two
rows' conditions hold. -/
theorem startAndStopEventsComplete : Obligations.StartAndStopEventsComplete := by
  refine ⟨?adjournment, ?start, ?abandoned, ?lost⟩
  case adjournment =>
    intro s a hmode
    have hrun : exec (.adjournment a) s = .next _ := congrArg Host.Outcome.next (if_pos hmode)
    exact ⟨_, hrun, State.adjournSave_asleep .., rfl⟩
  case start =>
    intro s a hdue
    have hrun : exec (.startCondition a) s = .next _ := congrArg Host.Outcome.next (if_pos hdue)
    refine ⟨_, hrun, rfl, fun hfirst => ?_⟩
    rw [State.bootUpTo_of_reached (s := s.bootPower a) hfirst]
    exact ⟨rfl, rfl, rfl, rfl, fun p _ hp => State.bootPower_port a hp⟩
  case abandoned =>
    intro s vhold t hboot hfirst hearly ht
    subst ht
    simp [exec, execStartAbandoned, hboot, hfirst, hearly, State.aonAt, aonSource]
  case lost =>
    intro s hasleep hsrc
    have hdue : (s.asleep && s.power.src != .none) = true := by simp [hasleep, hsrc]
    have hrun : exec .vaonLoss s = .next _ := congrArg Host.Outcome.next (if_pos hdue)
    exact ⟨_, hrun, rfl, rfl, rfl, rfl, rfl, rfl, execVaonLoss_same s _ hrun⟩

end Sys2Proof.Machine
end

section
/-! SUPPORT. OTP and the lifecycle over one step, and that every row answers (spec/04_modes_and_lifecycle.md R106, R107, R112). -/
namespace Sys2Proof.Machine

/-! ## The lifecycle by its pairs (R107) -/

/-- The number of the lifecycle is the number of pairs with bit A programmed. -/
theorem State.life_num (s : State) : s.life.num = b2n s.otp.l1.a + b2n s.otp.l2.a + b2n s.otp.l3.a := by
  unfold State.life
  cases s.otp.l1.a <;> cases s.otp.l2.a <;> cases s.otp.l3.a <;> rfl

theorem PairLe.b2n_le {p q : OtpPair} (h : PairLe p q) : b2n p.a ≤ b2n q.a := by
  cases hp : p.a with
  | false => exact Nat.zero_le _
  | true => exact Nat.le_of_eq (congrArg b2n (h.1 hp).symm)

/-! ## The statements -/

/-- Settles O5: whatever parts a step can change, it changes OTP only by programming. -/
theorem everyStepOnlyProgramsOtp : Obligations.EveryStepOnlyProgramsOtp := by
  intro s t h
  exact (step_same h).otpLe

/-- Settles O6: the lifecycle counts programmed bits, and no step takes one back. -/
theorem lifecycleNeverGoesBack : Obligations.LifecycleNeverGoesBack := by
  intro s t h
  have hotp : OtpLe s.otp t.otp := everyStepOnlyProgramsOtp s t h
  rw [State.life_num, State.life_num]
  exact Nat.add_le_add (Nat.add_le_add hotp.l1.b2n_le hotp.l2.b2n_le) hotp.l3.b2n_le

/-- Settles O9: the meaning of every row, whether due or not, is a next state. -/
theorem everyCommandAnswers : Obligations.EveryCommandAnswers := by
  intro c s
  cases c with
  | _ => exact ⟨_, rfl⟩

end Sys2Proof.Machine
end

section
/-! SUPPORT. What a request changes, accepted or refused (spec/04_modes_and_lifecycle.md R112, R113). -/
namespace Sys2Proof.Machine

variable {op v : Nat}

/-! ## A refused request -/

/-- A request that its command refuses is answered with the refusal, and nothing else happens. -/
theorem exec_of_refused {i : Instr} {op : Nat} {r : Request} {s : State} {f : State → Request → Except Deny State} {d : Deny}
    (hrow : requestOf i = some (op, r)) (htakes : Takes s r) (hf : commandOf op = some f) (hdeny : f s r = .error d) :
    exec i s = .next (s.refuse r d) := by
  rw [exec_of_requestOf hrow, State.submit_takes htakes, State.execute_eq _ _ _ _ hf, hdeny]
  rfl

/-- A refusal that counts nothing is its reply alone (R113). -/
theorem State.refuse_of_uncounted {s : State} {r : Request} {d : Deny} (horder : d.order67 = false) (hauth : d.authCause = none)
    (htorn : d.torn = 0) : s.refuse r d = s.reply r.port { tag := r.tag, status := d.status } := by
  simp [State.refuse, horder, hauth, htorn]

/-- Settles O60: the refusal of the command is what its row does, and only SIGN_READING meets a torn record. -/
theorem refusedRequestsChangeNothing : Obligations.RefusedRequestsChangeNothing := by
  intro i op r s f d hrow htakes hf hdeny
  have hrun : exec i s = .next (s.refuse r d) := exec_of_refused hrow htakes hf hdeny
  refine ⟨hrun, fun hop => untorn_of_command hf hop s r d hdeny, fun horder hauth htorn => ?_⟩
  rw [hrun, State.refuse_of_uncounted horder hauth htorn]

/-! ## The parts that a request can change -/

/-- The parts that a request can change whose command changes those of v: with them what its refusal counts, for a command that
can move a window of R457 the store, for SIGN_READING the store's count of invalid records, and for a command of group 0x07xx the mode
part, which holds the timeout of CALIBRATE. -/
def requestParts (op v : Nat) : Nat :=
  v ||| (partPorts ||| partTap ||| partEvents ||| partSecurity)
    ||| (if v.testBit 26 ∨ op = 0x0802 then partStore else 0) ||| (if op / 256 = 7 then partMode else 0)

/-! ## Masks that lie within those parts -/

theorem or_absorb_left {a b c : Nat} (h : a ||| b = b) : a ||| (b ||| c) = b ||| c := by rw [← Nat.or_assoc, h]

theorem or_absorb_right {a b c : Nat} (h : a ||| c = c) : a ||| (b ||| c) = b ||| c := by
  rw [← Nat.or_assoc, Nat.or_comm a b, Nat.or_assoc, h]

theorem command_within_requestParts : v ||| requestParts op v = requestParts op v :=
  or_absorb_left (or_absorb_left (or_absorb_left (Nat.or_self v)))

theorem refusal_within_requestParts :
    (partPorts ||| partTap ||| partEvents ||| partSecurity) ||| requestParts op v = requestParts op v :=
  or_absorb_left (or_absorb_left (or_absorb_right (Nat.or_self _)))

theorem store_within_requestParts (h : v.testBit 26 = true ∨ op = 0x0802) : partStore ||| requestParts op v = requestParts op v := by
  rw [requestParts, if_pos h]
  exact or_absorb_left (or_absorb_right (Nat.or_self _))

theorem mode_within_requestParts (h : op / 256 = 7) : partMode ||| requestParts op v = requestParts op v := by
  rw [requestParts, if_pos h]
  exact or_absorb_right (Nat.or_self _)

/-! ## What a request leaves unchanged -/

/-- What follows an accepted command writes the store only where the command has changed the security part. -/
theorem State.accepted_parts {s t : State} (h : Same v s t) :
    Same (requestParts op v) s (t.accepted op s.security.sealSt) := by
  have hcmd : Same (requestParts op v) s t := h.mono command_within_requestParts
  have hseal : Same (requestParts op v) s (if t.security.sealSt = s.security.sealSt then t else t.writeSeal) := by
    split
    · exact hcmd
    · next hmoved =>
      have hsec : v.testBit 26 = true := by
        cases hbit : v.testBit 26 with
        | true => rfl
        | false => exact absurd (congrArg Security.sealSt (h.security hbit)) hmoved
      exact (State.writeSeal_same t).step (store_within_requestParts (.inl hsec)) hcmd
  unfold State.accepted
  dsimp only
  split
  · next hgroup => exact (State.onMode_same ..).step (mode_within_requestParts hgroup) hseal
  · exact hseal

/-- What a refusal can change: only one of SIGN_READING counts invalid records (R375). -/
theorem State.refuse_parts {s : State} {r : Request} {f : State → Request → Except Deny State} {d : Deny}
    (hf : commandOf op = some f) (hdeny : f s r = .error d) : Same (requestParts op v) s (s.refuse r d) := by
  by_cases hsign : op = 0x0802
  · refine (State.refuse_same s r d).mono ?_
    show ((partPorts ||| partTap ||| partEvents ||| partSecurity) ||| partStore) ||| _ = _
    rw [Nat.or_assoc, store_within_requestParts (.inr hsign), refusal_within_requestParts]
  · exact (State.refuse_untorn (untorn_of_command hf hsign s r d hdeny)).mono refusal_within_requestParts

/-- What the row of a request that is taken at once can change, accepted or refused: what its command can, widened by the answer. -/
theorem exec_parts {instr : Request → Instr} {op v w : Nat} {f : State → Request → Except Deny State}
    (hcmd : ∀ s r, SameE v s (f s r)) (s : State) (r : Request) (t : State) (htakes : Takes s r) (hrun : exec (instr r) s = .next t)
    (hrow : requestOf (instr r) = some (op, r) := by rfl) (hf : commandOf op = some f := by rfl)
    (hw : requestParts op v ||| w = w := by decide) : Same w s t := by
  refine Same.mono ?_ hw
  rw [exec_of_requestOf hrow, State.submit_takes htakes, State.execute_eq _ _ _ _ hf] at hrun
  cases hrun
  cases hout : f s r with
  | ok t => exact State.accepted_parts (hcmd s r t hout)
  | error d => exact State.refuse_parts hf hout

/-- Settles O59: for each row, the parts of its command's frame lemma and of the answer are among those that the clause names. -/
theorem commandFrames : Obligations.CommandFrames := by
  refine ⟨?reads, ?checkpoints, exec_parts cmdAdjustTime_same, exec_parts cmdAckEvents_same, ?islands,
    exec_parts cmdCommitParams_same, exec_parts cmdDemandReset_same, exec_parts cmdReconnectArm_same,
    exec_parts cmdArmCapture_same, ?stored, ?activations, ?drawn, exec_parts cmdSpotCheck_same, exec_parts cmdSetTime_same,
    ?calibration, exec_parts cmdResetCmd_same, ?parameters, exec_parts cmdReadProfile_same, exec_parts cmdBillingClose_same,
    ?relays, exec_parts cmdImageData_same, exec_parts cmdReadCapture_same, exec_parts cmdSignReading_same,
    exec_parts cmdDebugAuth_same, exec_parts cmdSubmitToken_same, exec_parts cmdRemapChannel_same,
    exec_parts cmdUnbindMp_same, exec_parts cmdPulseAssign_same, exec_parts cmdSetBalanceGroup_same,
    exec_parts cmdImageBegin_same, ?lifecycle, exec_parts cmdSetMode_same, exec_parts cmdCancelHandle_same,
    exec_parts cmdLoadFirBank_same, exec_parts cmdBindMp_same⟩
  case reads =>
    rintro s r t htakes (h | h | h | h | h | h | h | h | h | h | h | h | h | h)
    · exact exec_parts cmdGetStatus_same s r t htakes h
    · exact exec_parts cmdSetEventMask_same s r t htakes h
    · exact exec_parts cmdGetParam_same s r t htakes h
    · exact exec_parts cmdGetParamBlock_same s r t htakes h
    · exact exec_parts cmdReadRegisters_same s r t htakes h
    · exact exec_parts cmdReadInstant_same s r t htakes h
    · exact exec_parts cmdReadBoundaries_same s r t htakes h
    · exact exec_parts cmdReadCredit_same s r t htakes h
    · exact exec_parts cmdFreezeLog_same s r t htakes h
    · exact exec_parts cmdStoreStatus_same s r t htakes h
    · exact exec_parts cmdReadPq_same s r t htakes h
    · exact exec_parts cmdReadHarmonics_same s r t htakes h
    · exact exec_parts cmdGetCerts_same s r t htakes h
    · exact exec_parts cmdReadCompletions_same s r t htakes h
  case checkpoints =>
    rintro s r t htakes (h | h)
    · exact exec_parts cmdCheckpointNow_same s r t htakes h
    · exact exec_parts cmdHoldupTest_same s r t htakes h
  case islands =>
    rintro s r t htakes (h | h)
    · exact exec_parts cmdRetireIsland_same s r t htakes h
    · exact exec_parts cmdRestoreIsland_same s r t htakes h
  case stored =>
    rintro s r t htakes (h | h | h | h | h | h | h | h)
    · exact exec_parts cmdLoadPlan_same s r t htakes h
    · exact exec_parts cmdReadSnapshot_same s r t htakes h
    · exact exec_parts cmdReadEvents_same s r t htakes h
    · exact exec_parts cmdUnfreezeLog_same s r t htakes h
    · exact exec_parts cmdScrubNow_same s r t htakes h
    · exact exec_parts cmdHostArea_same s r t htakes h
    · exact exec_parts cmdLoadKeys_same s r t htakes h
    · exact exec_parts cmdImageEnd_same s r t htakes h
  case activations =>
    rintro s r t htakes (h | h)
    · exact exec_parts cmdImageActivate_same s r t htakes h
    · exact exec_parts cmdUcodeActivate_same s r t htakes h
  case drawn =>
    rintro s r t htakes (h | h | h | h)
    · exact exec_parts cmdGetIdentity_same s r t htakes h
    · exact exec_parts cmdReadNotify_same s r t htakes h
    · exact exec_parts cmdAttest_same s r t htakes h
    · exact exec_parts cmdPollHandle_same s r t htakes h
  case calibration =>
    rintro s r t htakes (h | h)
    · exact exec_parts cmdCalWrite_same s r t htakes h
    · exact exec_parts cmdCalMeasure_same s r t htakes h
  case parameters =>
    rintro s r t htakes (h | h | h)
    · exact exec_parts cmdSetParam_same s r t htakes h
    · exact exec_parts cmdSetParamBlock_same s r t htakes h
    · exact exec_parts cmdLaneTest_same s r t htakes h
  case relays =>
    rintro s r t htakes (h | h)
    · exact exec_parts cmdRelayCommand_same s r t htakes h
    · exact exec_parts cmdSetCreditPolicy_same s r t htakes h
  case lifecycle =>
    rintro s r t htakes (h | h)
    · exact exec_parts cmdSeal_same s r t htakes h
    · exact exec_parts cmdZeroise_same s r t htakes h

end Sys2Proof.Machine
end

section
/-! SUPPORT. The events of the control plane where they are due (spec/04_modes_and_lifecycle.md R115 to R117,
spec/01_architecture.md R29 to R36, spec/17_live_servicing.md R483, R484). -/
namespace Sys2Proof.Machine

variable {s : State}

/-! ## A reset of the control plane (R33, R115) -/

theorem State.cpDrop_cp (s : State) : s.cpDrop.cp = { s.cp with resetReq := none } := by
  have hdetach : s.detachOps.cp = s.cp := (State.detachOps_same s).cp (by decide)
  have hforget : s.detachOps.forgetReplies.cp = s.detachOps.cp := (State.forgetReplies_same _).cp (by decide)
  show { s.detachOps.forgetReplies.cp with resetReq := none } = _
  rw [hforget, hdetach]

theorem State.cpReset_cp (s : State) (cause vddio : Nat) : (s.cpReset cause vddio).cp = { s.cp with
    st := if s.cp.resetNLow then .held else .starting, icache := none, halted := false, resetCause := cause, resetReq := none
    watchdogMs := s.cp.watchdogNext } := by
  simp [State.cpReset, State.cpDrop_cp]

/-! ## Notices (R34) -/

theorem State.sendNotices_of_ready (hready : s.cp.st = .ready) (hcredit : 0 < s.creditsMax 30) :
    s.sendNotices = s.onCp fun c => { c with taken := c.taken + c.notices.length, notices := [] } :=
  if_pos ⟨hready, hcredit⟩

theorem State.sendNotices_of_waiting (h : s.cp.st ≠ .ready ∨ s.creditsMax 30 = 0) : s.sendNotices = s := by
  refine if_neg fun hsends => ?_
  obtain ⟨hready, hcredit⟩ := hsends
  exact h.elim (fun hwaits => hwaits hready) (Nat.pos_iff_ne_zero.1 hcredit)

theorem State.sendNotices_st (s : State) : s.sendNotices.cp.st = s.cp.st := by
  unfold State.sendNotices
  split <;> rfl

/-! ## Readiness (R36, R140, R144) -/

/-- u, in which the owed completions are posted, with its control plane ready and the pending notices sent (R33, R34, R140). -/
def State.nowReady (u : State) : State := (u.onCp fun c => { c with
  st := .ready, readyAt := u.now, icache := some (if c.recovery then 2 else u.images.fwSlot), watchdogEvent := false }).sendNotices

theorem State.nowReady_st (u : State) : u.nowReady.cp.st = .ready := State.sendNotices_st _

theorem State.nowReady_notices {u : State} (hcredit : 0 < u.creditsMax 30) : u.nowReady.cp.notices = [] := by
  have hsent : u.nowReady = _ := State.sendNotices_of_ready rfl hcredit
  rw [hsent]
  rfl

/-- The events and the images' debts at readiness leave the control plane. -/
theorem State.raisedReady_cp (u : State) (wd : Bool) :
    (if wd then (u.raise 0 0 0 []).raise 6 0 0 [] else u.raise 0 0 0 []).imagesReady.cp = u.cp := by
  have hraised : Same 0x1E800004 u (u.raise 0 0 0 []) := (State.raise_same ..).mono (by decide)
  have hboth : Same 0x1E800004 u (if wd then (u.raise 0 0 0 []).raise 6 0 0 [] else u.raise 0 0 0 []) :=
    .ite ((State.raise_same ..).step (by decide) hraised) hraised
  exact (hboth.trans (State.imagesReady_same _)).cp (by decide)

/-- After a reset the ports are resynchronised, the owed completions posted, and then the control plane is ready. -/
theorem execControlPlaneReady_of_reset {u : State} (hruns : s.cpRuns = true) (hst : s.cp.st = .starting) (hmode : s.mode.mode ≠ .boot)
    (hu : u = s.resyncPorts.postOwed (if s.cp.resetCause = 0 ∨ s.cp.resetCause = 5 then .abortedPower else .cancelled)) :
    execControlPlaneReady s = .next (if u.cp.watchdogEvent then (u.nowReady.raise 0 0 0 []).raise 6 0 0 []
      else u.nowReady.raise 0 0 0 []).imagesReady := by
  subst hu
  simp [execControlPlaneReady, hruns, hst, hmode, State.nowReady]

/-! ## The statement -/

/-- Settles O47: each row's condition holds, and the row answers the state that its rule gives. -/
theorem controlPlaneEventsComplete : Obligations.ControlPlaneEventsComplete := by
  refine ⟨?low, ?released, ?watchdog, ?fullReset, ?cpReset, ?ready, ?notice, ?resync, ?switch, ?fallback⟩
  case low =>
    intro s v hruns hhigh
    have hdue : (s.cpRuns && !s.cp.resetNLow) = true := by simp [hruns, hhigh]
    have hrun : exec (.resetN v) s = .next _ := congrArg Host.Outcome.next (if_pos hdue)
    refine ⟨_, hrun, ?_, ?_, fun hmode => ?_, ?_, ?_, rfl, rfl, rfl, rfl, rfl, rfl⟩
    · rw [State.cpReset_cp]; rfl
    · rw [State.cpReset_cp]; rfl
    · rw [State.cpReset_cp]; exact if_neg hmode
    · rw [State.cpReset_cp]
    · rw [State.cpReset_cp]
  case released =>
    intro s hlow
    exact congrArg Host.Outcome.next (if_pos hlow)
  case watchdog =>
    intro s v hruns hst
    have hdue : (s.cpRuns && (s.cp.st == .ready || s.cp.st == .starting)) = true := by simpa [hruns] using hst
    simp [exec, execWatchdogExpiry, hdue]
  case fullReset =>
    intro s v hreq hmode hdue
    simp [exec, execResetCmdStart, hdue, hreq, hmode]
  case cpReset =>
    intro s v hreq hruns hdue
    simp [exec, execResetCmdStart, hdue, hreq, hruns]
  case ready =>
    intro s hruns hst hmode
    have hrun : exec .controlPlaneReady s = .next _ := execControlPlaneReady_of_reset hruns hst hmode rfl
    refine ⟨_, _, _, hrun, rfl, rfl, rfl, ?_, fun hcredit => ?_⟩
    · rw [State.raisedReady_cp, State.nowReady_st]
    · rw [State.raisedReady_cp, State.nowReady_notices hcredit]
  case notice =>
    intro s code hmet
    have hrun : exec (.notice code) s = .next (s.onCp fun c => { c with notices := union c.notices [code] }).sendNotices := by
      simp [exec, execNotice, hmet]
    exact ⟨fun hready hcredit => hrun.trans (congrArg Host.Outcome.next (State.sendNotices_of_ready hready hcredit)),
      fun hwaits => hrun.trans (congrArg Host.Outcome.next (State.sendNotices_of_waiting hwaits))⟩
  case resync =>
    intro s q hq hpresent hempty hmissing
    have hq' : ¬ 32 ≤ q := by omega
    simp [exec, execCreditResync, hq', hpresent, hempty, hmissing]
  case switch =>
    intro s q vd hreq hready hdue t ht
    subst ht
    refine ⟨fun hok => ?_, fun e herr => ?_⟩
    · simp [exec, execControlCoreSwitch, hreq, hready, hdue, hok]
    · simp [exec, execControlCoreSwitch, hreq, hready, hdue, herr]
  case fallback =>
    intro s v htrial hruns hst hlate
    simp [exec, execControlCoreFallback, htrial, hruns, hst, hlate]

end Sys2Proof.Machine
end

section
/-! SUPPORT. The events of elapsed time where they are due (spec/04_modes_and_lifecycle.md R101, spec/05_ports_and_protocol.md R130). -/
namespace Sys2Proof.Machine

variable {s : State}

/-! ## A sample of CAL_LINK (R130) -/

theorem State.calSample_of_same (s : State) : s.calSample s.tamper.calLink = s.onTamper fun t => { t with calLinkRun := 0 } :=
  if_pos rfl

theorem State.calSample_of_few (hfew : s.tamper.calLinkRun < 2) :
    s.calSample (!s.tamper.calLink) = s.onTamper fun t => { t with calLinkRun := t.calLinkRun + 1 } := by
  rw [State.calSample, if_neg (by simp), if_pos hfew]

theorem State.calSample_of_closed (hthird : 2 ≤ s.tamper.calLinkRun) (hopen : s.tamper.calLink = false) :
    s.calSample true = s.onTamper fun t => { t with calLink := true, calLinkRun := 0 } := by
  simp [State.calSample, hopen, Nat.not_lt.2 hthird]

theorem State.calSample_of_opened (hthird : 2 ≤ s.tamper.calLinkRun) (hclosed : s.tamper.calLink = true) :
    s.calSample false = (s.onSec fun x => { x with calPart := none }).onTamper fun t =>
      { t with calLink := false, calLinkRun := 0, calOpenAt := s.now } := by
  rw [State.calSample, hclosed, if_neg Bool.false_ne_true, if_neg (Nat.not_lt.2 hthird)]
  -- Discarding the package leaves the sample index.
  rfl

/-- The samples of a row are taken one after another. -/
theorem execCalLink_append {t : State} {xs : List Bool} (ys : List Bool) (h : execCalLink xs s = .next t) :
    execCalLink (xs ++ ys) s = execCalLink ys t := by
  cases h
  exact congrArg Host.Outcome.next List.foldl_append

/-! ## The statement -/

/-- Settles O48: each row's condition holds, and the row answers the state that its rule gives. -/
theorem timeoutEventsComplete : Obligations.TimeoutEventsComplete := by
  refine ⟨?calLink, ?linkOpen, ?calibrate, ?debug, ?freeze, ?load, ?key, ?lock, ?lockout, ?override, ?test, ?limit, ?entropy⟩
  case calLink =>
    intro s
    have hone (x : Bool) : exec (.calLink [x]) s = .next (s.calSample x) := rfl
    refine ⟨rfl, ?_, fun hfew => ?_, fun hthird hopen => ?_, fun hthird hclosed => ?_, fun xs ys t => execCalLink_append ys⟩
    · rw [hone, State.calSample_of_same]
    · rw [hone, State.calSample_of_few hfew]
    · rw [hone, State.calSample_of_closed hthird hopen]
    · rw [hone, State.calSample_of_opened hthird hclosed]
  case linkOpen =>
    intro s hmode hlife hopen hlate
    exact congrArg Host.Outcome.next (if_pos ⟨hmode, hlife, hopen, hlate⟩)
  case calibrate =>
    intro s k hk hmode hset hlate
    subst hk
    exact congrArg Host.Outcome.next (if_pos ⟨hmode, hset, hlate⟩)
  case debug =>
    intro s hset hended
    exact congrArg Host.Outcome.next (if_pos ⟨hset, hended⟩)
  case freeze =>
    intro s f hfreeze hlate
    simp [exec, execLogFreezeTimeout, hfreeze, hlate]
  case load =>
    intro s x hsession hlate
    simp [exec, execImageSessionTimeout, hsession, hlate]
  case key =>
    intro s a k hkey hended
    simp [exec, execSessionKeyExpiry, hkey, hended]
  case lock => exact fun s => rfl
  case lockout =>
    intro s m hset hended
    exact congrArg Host.Outcome.next (if_pos ⟨hset, hended⟩)
  case override =>
    intro s m hover hset hended
    exact congrArg Host.Outcome.next (if_pos ⟨hover, hset, hended⟩)
  case test =>
    intro s m hset hended
    exact congrArg Host.Outcome.next (if_pos ⟨hset, hended⟩)
  case limit =>
    intro s m hset hended
    exact congrArg Host.Outcome.next (if_pos ⟨hset, hended⟩)
  case entropy =>
    intro s hworks
    simp [exec, execEntropyFailure, hworks]

end Sys2Proof.Machine
end

section
/-! SUPPORT. One step, serial order, IDCODE, CRC-32C, the sizes of payloads, and what reset leaves (spec/05_ports_and_protocol.md
R118, R132, R136, R143, R153 to R158). -/
namespace Sys2Proof.Machine

/-! ## One step, serial order, IDCODE and CRC-32C -/

/-- Settles O1: the queue's first entry selects the branch. -/
theorem stepRunsFrontCommand : Obligations.StepRunsFrontCommand := by
  intro s c rest hqueue
  rw [step, hqueue]

/-- Settles O11: both sides compare the difference of the sequences modulo 2^32. -/
theorem serialOrderOfEvents : Obligations.SerialOrderOfEvents := by
  intro a b ha hb
  rw [serialLe, decide_eq_true_iff]
  omega

theorem variantCode_lt (v : Variant) : variantCode v < 2 ^ 16 := by cases v <;> decide

/-- Settles O12: the fields stand at disjoint places, each within its width. -/
theorem idcodeHasItsFields : Obligations.IdcodeHasItsFields := by
  refine ⟨fun s => ?fields, rfl, rfl, rfl, rfl, fun s hvariant hrev => ?example512⟩
  case fields =>
    have hcode := variantCode_lt s.fuses.variant
    simp only [State.idcode, bits]
    omega
  case example512 => simp [State.idcode, hvariant, hrev, variantCode]

/-- Settles O14: CRC-32C computed over the nine digits and over nothing. -/
theorem crcCheckValue : Obligations.CrcCheckValue := by
  unfold Obligations.CrcCheckValue
  decide +kernel

/-! ## What reset leaves (R118, R156) -/

/-- Every place of a list of defaults reads as the default, within the list and beyond it. -/
theorem getD_replicate_default {α : Type} (d : α) (n i : Nat) : (List.replicate n d).getD i d = d := by
  rw [List.getD_eq_getElem?_getD, List.getElem?_replicate]
  split <;> rfl

theorem State.reset_queue (q : Nat) : State.reset.queue q = {} := getD_replicate_default _ 32 q

theorem State.reset_evidCount (c : Nat) : State.reset.evidCount c = 0 := by
  have hblank : State.reset.otp.evidence.getD c [] = [] := getD_replicate_default _ 16 c
  rw [State.evidCount, hblank]
  rfl

/-- No port has an operation, a completion, a request or a reply. -/
theorem State.reset_port_empty (p : Nat) : (State.reset.port p).handles = [] ∧ (State.reset.port p).completions = []
    ∧ (State.reset.port p).rx = [] ∧ (State.reset.port p).replies = [] := by
  match p with
  | 0 | 1 | 2 => exact ⟨rfl, rfl, rfl, rfl⟩
  | _ + 3 => exact ⟨rfl, rfl, rfl, rfl⟩

/-- No queue holds a word. -/
theorem State.reset_wordsFor (q : Nat) : State.reset.wordsFor q = 0 := by
  unfold State.wordsFor
  split <;> rfl

theorem State.reset_credits (q : Nat) : State.reset.credits q = queueDepth q := by
  simp [State.credits, State.creditsMax, State.reset_queue, State.reset_wordsFor]

/-- Settles O18: each part of the state after reset. -/
theorem resetLeaves : Obligations.ResetLeaves :=
  ⟨rfl, rfl, rfl, rfl, rfl, rfl, State.reset_credits, rfl, State.reset_evidCount, fun _ => rfl, State.reset_port_empty, rfl⟩

/-! ## Lengths of the parts of a payload (R11) -/

@[simp] theorem le_length (k n : Nat) : (le k n).length = k := by
  induction k generalizing n with
  | zero => rfl
  | succ k ih => exact congrArg (· + 1) (ih (n / 256))

@[simp] theorem leI_length (k : Nat) (x : Int) : (leI k x).length = k := le_length ..

@[simp] theorem zeros_length (k : Nat) : (zeros k).length = k := List.length_replicate

@[simp] theorem padTo_length (k : Nat) (ps : List Byte) : (padTo k ps).length = k := by
  simp only [padTo, List.length_append, List.length_take, zeros_length]
  omega

@[simp] theorem time6_length (t : Int) : (time6 t).length = 6 := leI_length ..

@[simp] theorem sample8_length (n : Nat) : (sample8 n).length = 8 := by simp [sample8]

@[simp] theorem frameMark_length (body : List Byte) : (frameMark body).length = 8 := by simp [frameMark]

/-- Records of one size in a row. -/
theorem flatten_length_of_size {α : Type} {l : List α} {f : α → List Byte} {k : Nat} (h : ∀ a, (f a).length = k) :
    (l.map f).flatten.length = l.length * k := by
  induction l with
  | nil => simp
  | cons a l ih => simp [h, ih, Nat.add_mul, Nat.add_comm]

/-! ## The blocks of GET_STATUS (R158) -/

theorem State.systemBlock_length (s : State) : s.systemBlock.length = 32 := by simp [State.systemBlock]

theorem State.powerBlock_length (s : State) : s.powerBlock.length = 32 := by simp [State.powerBlock]

theorem State.queueBytes_length (s : State) (q : Nat) : (s.queueBytes q).length = 8 := by
  unfold State.queueBytes
  split <;> simp

theorem State.portBytes_length (s : State) (p : Nat) : (s.portBytes p).length = 16 := by simp [State.portBytes]

theorem State.engineBlock_length (s : State) : s.engineBlock.length = 64 := by
  unfold State.engineBlock
  simp only [List.length_append, le_length, sample8_length, zeros_length]

theorem State.storeBlock_length (s : State) : s.storeBlock.length = 32 := by simp [State.storeBlock]

theorem State.securityBlock_length (s : State) : s.securityBlock.length = 48 := by
  have hcounts := flatten_length_of_size (l := List.range 9) fun n => le_length 2 (s.evidCount n)
  simp [State.securityBlock, hcounts]

theorem State.statusPayload_length (s : State) : s.statusPayload.length = 512 := by
  have hqueues := flatten_length_of_size (l := List.range 32) s.queueBytes_length
  have hports := flatten_length_of_size (l := List.range 3) s.portBytes_length
  simp [State.statusPayload, s.systemBlock_length, s.powerBlock_length, hqueues, hports, s.engineBlock_length,
    s.storeBlock_length, s.securityBlock_length]

/-! ## The records of the metering points (R272, R356) -/

theorem State.registerRecord_length (s : State) (m : Nat) : (s.registerRecord m).length = 336 := by
  have hregs := flatten_length_of_size (l := List.range 29) fun i => le_length 8 ((s.point m).reg.getD i 0)
  have hresidues := flatten_length_of_size (l := List.range 13) fun i => le_length 4 ((s.point m).residue.getD i 0)
  unfold State.registerRecord
  dsimp only
  split
  · simp
  · simp only [List.length_append, le_length, zeros_length, sample8_length, time6_length, hregs, hresidues, List.length_range]

theorem State.channelInstant_length (s : State) (c : Nat) : (s.channelInstant c).length = 32 := by
  by_cases haux : (s.chan c).set.role = 4 <;> simp [State.channelInstant, haux]

theorem State.pointInstant_length (s : State) (m : Nat) : (s.pointInstant m).length = 32 := by
  unfold State.pointInstant
  dsimp only
  split <;> simp

theorem State.pulseInstant_length (s : State) (o : Nat) : (s.pulseInstant o).length = 32 := by simp [State.pulseInstant]

theorem State.pqChannel_length (s : State) (c : Nat) : (s.pqChannel c).length = 32 := by
  unfold State.pqChannel
  dsimp only
  split <;> simp

theorem State.pqPoint_length (s : State) (m : Nat) : (s.pqPoint m).length = 32 := by
  unfold State.pqPoint
  dsimp only
  split <;> simp

theorem State.creditRecord_length (s : State) (m : Nat) : (s.creditRecord m).length = 64 := by
  unfold State.creditRecord
  split <;> simp

theorem Capture.header_length (c : Capture) : c.header.length = 256 := by
  cases hv : c.valid <;> simp [Capture.header, hv]

/-- Settles O17: each payload is a row of fields of fixed size. -/
theorem payloadsHaveTheirSizes : Obligations.PayloadsHaveTheirSizes := by
  intro s
  refine ⟨fun p v => ?identity, s.statusPayload_length, s.registerRecord_length, s.channelInstant_length, s.pointInstant_length,
    s.pulseInstant_length, s.pqChannel_length, s.pqPoint_length, s.creditRecord_length, fun e => ?entry, fun p => ?profile,
    fun c => ?completion, Capture.header_length⟩
  case identity => simp [State.identity]
  case entry => simp [Entry.bytes]
  case profile => simp [Profile.bytes]
  case completion => simp [Completion.bytes]

end Sys2Proof.Machine
end

section
/-! SUPPORT. What a read of an SPI port presents and removes (spec/05_ports_and_protocol.md R125). -/
namespace Sys2Proof.Machine

variable {s : State} {p n : Nat}

/-! ## A reply read (R125) -/

theorem zeros_getD (k i : Nat) : (zeros k).getD i 0 = 0 := getD_replicate_default _ k i

/-- What is clocked beyond the end of the bytes reads zero. -/
theorem padTo_take_getD {bs : List Byte} {i : Nat} (hi : i < n) : (padTo n (bs.take n)).getD i 0 = bs.getD i 0 := by
  rw [padTo, List.take_take, Nat.min_self, List.getD_eq_getElem?_getD, List.getD_eq_getElem?_getD]
  by_cases hwithin : i < bs.length
  · rw [List.getElem?_append_left (by simp; omega), List.getElem?_take_of_lt hi]
  · rw [List.getElem?_append_right (by simp; omega), ← List.getD_eq_getElem?_getD, zeros_getD, List.getElem?_eq_none (by omega)]
    rfl

/-- Port p presents bytes to the partner's read. -/
def State.present (s : State) (p : Nat) (bs : List Byte) : State := s.onPort p fun q => { q with out := bs }

theorem State.port_onPort_ne {q : Nat} (hne : q ≠ p) (f : Port → Port) : (s.onPort q f).port p = s.port p := by
  simp [State.port, upd, List.getD_eq_getElem?_getD, hne]

/-- The new line rate of P1 is no matter of another port (R126). -/
theorem State.applyRate_port (hp : p ≠ 1) : s.applyRate.port p = s.port p := by
  unfold State.applyRate
  split
  · rfl
  · exact State.port_onPort_ne hp.symm _

/-- The oldest reply has left its port; what the port presented stays. -/
theorem State.sent_port {r : Reply} (hlt : p < s.ports.length) (hp : p ≠ 1) (hhead : (s.port p).head = some r) :
    ((s.sent p).port p).replies = (s.port p).replies.drop 1 ∧ ((s.sent p).port p).out = (s.port p).out := by
  rw [State.sent, hhead]
  dsimp only
  rw [State.applyRate_port hp, State.port_onPort _ _ _ hlt]
  split <;> exact ⟨rfl, rfl⟩

theorem State.present_port (hlt : p < s.ports.length) (bs : List Byte) :
    (s.present p bs).port p = { s.port p with out := bs } := State.port_onPort _ _ _ hlt

/-- What a port presents is no part of the packets that it sends (R135). -/
theorem State.present_packetOf (hlt : p < s.ports.length) (bs : List Byte) (r : Reply) :
    (s.present p bs).packetOf p r = s.packetOf p r := by
  simp [State.packetOf, State.eventsFlag, State.latchOf, State.present_port hlt]

theorem State.readReply_of_none (hheard : s.hears p = true) (hnone : (s.port p).head = none) :
    s.readReply p n = s.present p (zeros n) := by
  simp [State.readReply, hheard, hnone, State.present]

theorem State.readReply_of_part {r : Reply} (hheard : s.hears p = true) (hhead : (s.port p).head = some r)
    (hpart : n < (s.packetOf p r).length) : s.readReply p n = s.present p (padTo n ((s.packetOf p r).take n)) := by
  simp [State.readReply, hheard, hhead, Nat.not_le.2 hpart, State.present]

/-- Settles O42: nothing waits, or the read is short of the packet, or it reaches the packet's end. -/
theorem readPacketLosesNothing : Obligations.ReadPacketLosesNothing := by
  intro s p n hspi hheard hlt
  have hrun : exec (.readPacket p n) s = .next (s.readReply p n) :=
    congrArg Host.Outcome.next (if_pos (spiPort_iff.2 hspi))
  have hp : p ≠ 1 := by omega
  refine ⟨_, hrun, ?_⟩
  cases hhead : (s.port p).head with
  | none =>
    rw [State.readReply_of_none hheard hhead, State.present_port hlt]
    exact ⟨zeros_length n, fun _ => ⟨fun i _ => zeros_getD n i, rfl⟩, nofun⟩
  | some r =>
    suffices hpresents : ((s.readReply p n).port p).out = padTo n ((s.packetOf p r).take n)
        ∧ ((s.packetOf p r).length ≤ n → ((s.readReply p n).port p).replies = (s.port p).replies.drop 1)
        ∧ (n < (s.packetOf p r).length → ((s.readReply p n).port p).replies = (s.port p).replies
          ∧ ((s.readReply p n).port p).head = some r ∧ (s.readReply p n).packetOf p r = s.packetOf p r) by
      obtain ⟨hout, hwhole, hpart⟩ := hpresents
      rw [hout]
      refine ⟨padTo_length .., nofun, fun r' hr => ?_⟩
      cases hr
      exact ⟨fun i hi => padTo_take_getD hi, hwhole, hpart⟩
    by_cases hlen : (s.packetOf p r).length ≤ n
    · have hheld : ((s.present p (padTo n ((s.packetOf p r).take n))).port p).head = some r := by
        rw [State.present_port hlt]
        exact hhead
      obtain ⟨hreplies, hout⟩ := State.sent_port (by simpa [State.present, upd] using hlt) hp hheld
      rw [State.readReply_of_whole hheard hhead hlen]
      rw [State.present_port hlt] at hreplies hout
      exact ⟨hout, fun _ => hreplies, fun hshort => absurd hlen (Nat.not_le.2 hshort)⟩
    · have hshort := Nat.not_le.1 hlen
      rw [State.readReply_of_part hheard hhead hshort, State.present_packetOf hlt, State.present_port hlt]
      exact ⟨rfl, fun hall => absurd hall hlen, fun _ => ⟨rfl, hhead, rfl⟩⟩

end Sys2Proof.Machine
end

section
/-! SUPPORT. A packet without credit (spec/05_ports_and_protocol.md R139). -/
namespace Sys2Proof.Machine

variable {s : State} {p : Nat}

/-- A packet without credit counted, with its event (R139). -/
def State.violated (s : State) (p : Nat) : State :=
  (s.onPort p fun q => { q with violations := incSat 32 q.violations }).raisePort p 12 (le 1 p ++ le 2 Status.noCredit.code)

theorem State.arrive_of_no_credit (hcredit : (s.port p).credits = 0) (q : RawReq) : s.arrive p q = s.violated p :=
  if_pos hcredit

theorem State.violated_port (hlt : p < s.ports.length) :
    (s.violated p).port p = { s.port p with violations := incSat 32 (s.port p).violations } :=
  State.port_onPort _ _ _ hlt

theorem State.violated_same (s : State) (p : Nat) : Same (partPorts ||| partEvents) s (s.violated p) :=
  (State.raisePort_same ..).step (by decide) ((State.onPort_same ..).mono (by decide))

/-- A port without a request in its turn executes nothing. -/
theorem State.drainPort_of_rx_nil (hrx : (s.port p).rx = []) : s.drainPort p = s := by
  rw [State.drainPort, hrx, State.drainRx, ite_self]

theorem State.hears_responds (h : s.hears p = true) : s.responds = true := by
  obtain ⟨hresponds, -⟩ := Bool.and_eq_true_iff.1 h
  exact hresponds

/-- Whatever arrives without credit leaves the port with no request to execute. -/
theorem State.drainPort_arrive_of_no_credit (hlt : p < s.ports.length) (hcredit : (s.port p).credits = 0)
    (hrx : (s.port p).rx = []) (q : RawReq) : (s.arrive p q).drainPort p = s.violated p := by
  rw [State.arrive_of_no_credit hcredit, State.drainPort_of_rx_nil]
  rw [State.violated_port hlt]
  exact hrx

theorem execAuxFrame_of_chars {cs : List Byte} {low : List Bool} (hresponds : s.responds = true)
    (hfree : (s.port 1).sending = false) (hchars : auxChars cs low ≠ []) :
    execAuxFrame cs low s = .next ((s.arrive 1 (frameOf (auxChars cs low))).drainPort 1) := by
  simp [execAuxFrame, hresponds, hfree, hchars]

/-- Settles O44: the packet or frame arrives without credit, which counts it and leaves nothing to execute. -/
theorem packetWithoutCreditIsDropped : Obligations.PacketWithoutCreditIsDropped := by
  intro s p hlt hheard hcredit hrx t ht
  obtain rfl : t = s.violated p := ht
  have hdropped (q : RawReq) : (s.arrive p q).drainPort p = s.violated p := State.drainPort_arrive_of_no_credit hlt hcredit hrx q
  refine ⟨?credits, ?replies, s.violated_same p, fun hspi howed bs hne => ?packet, fun hp hfree cs low hchars => ?frame⟩
  case credits => rw [State.violated_port hlt]; exact hcredit
  case replies => rw [State.violated_port hlt]
  case packet =>
    have hrun : exec (.writePacket p bs) s = .next (s.writeSpi p bs) := execWritePacket_of_spiPort (spiPort_iff.2 hspi) bs
    rw [hrun, State.writeSpi_of_ready (State.spiReady_iff.2 ⟨hheard, howed⟩) hne, hdropped]
  case frame =>
    subst hp
    exact (execAuxFrame_of_chars (State.hears_responds hheard) hfree hchars).trans (congrArg Host.Outcome.next (hdropped _))

end Sys2Proof.Machine
end

section
/-! SUPPORT. The handles of long operations, and the commands that read them (spec/05_ports_and_protocol.md R142 to R148). -/
namespace Sys2Proof.Machine

/-! ## The circle of handles (R142) -/

theorem nextHandle_pos (h : Nat) : 1 ≤ nextHandle h := by unfold nextHandle; split <;> omega

theorem nextHandle_le (h : Nat) : nextHandle h ≤ 0xFFFF := by unfold nextHandle; split <;> omega

theorem nextHandle_eq_mod {h : Nat} (hle : h ≤ 0xFFFF) : nextHandle h = h % 0xFFFF + 1 := by
  unfold nextHandle
  split <;> omega

/-- The handle that follows h after i others: the handles run through 1 to 0xFFFF in a circle. -/
def handleAfter (h i : Nat) : Nat := (nextHandle h - 1 + i) % 0xFFFF + 1

theorem handleAfter_zero (h : Nat) : handleAfter h 0 = nextHandle h := by
  have hpos := nextHandle_pos h
  have hle := nextHandle_le h
  unfold handleAfter
  omega

theorem handleAfter_nextHandle (h i : Nat) : handleAfter (nextHandle h) i = handleAfter h (i + 1) := by
  have hpos := nextHandle_pos h
  have hle := nextHandle_le h
  rw [handleAfter, handleAfter, nextHandle_eq_mod hle]
  omega

/-- 64 handles in a row are different. -/
theorem handleAfter_nodup (h : Nat) : ((List.range 64).map (handleAfter h)).Nodup := by
  refine List.pairwise_map.2 (List.nodup_range.imp_of_mem fun hi hj hne heq => hne ?_)
  rw [List.mem_range] at hi hj
  simp only [handleAfter] at heq
  omega

/-- The search answers a handle that is not allocated, or meets only allocated ones. -/
theorem freshHandle_cases (hs : List HandleEntry) (k h : Nat) :
    (∀ e ∈ hs, e.handle ≠ freshHandle hs k h) ∨ ∀ i < k, handleAfter h i ∈ hs.map HandleEntry.handle := by
  induction k generalizing h with
  | zero => exact .inr fun i hi => absurd hi (Nat.not_lt_zero i)
  | succ k ih =>
    unfold freshHandle
    split
    next htaken =>
      have hmem : nextHandle h ∈ hs.map HandleEntry.handle := by
        obtain ⟨e, he, heq⟩ := List.any_eq_true.1 htaken
        exact List.mem_map.2 ⟨e, he, beq_iff_eq.1 heq⟩
      refine (ih (nextHandle h)).imp_right fun hall i hi => ?_
      cases i with
      | zero => rw [handleAfter_zero]; exact hmem
      | succ i => rw [← handleAfter_nextHandle]; exact hall i (Nat.lt_of_succ_lt_succ hi)
    next hfree => exact .inl fun e he heq => hfree (List.any_eq_true.2 ⟨e, he, beq_iff_eq.2 heq⟩)

/-- Fewer than 64 handles cannot stand at each of 64 places of the circle. -/
theorem freshHandle_fresh {hs : List HandleEntry} (hlen : hs.length < 64) (h : Nat) :
    ∀ e ∈ hs, e.handle ≠ freshHandle hs 65 h := by
  refine (freshHandle_cases hs 65 h).resolve_right fun hall => ?_
  have hsub : (List.range 64).map (handleAfter h) ⊆ hs.map HandleEntry.handle := by
    intro x hx
    obtain ⟨i, hi, rfl⟩ := List.mem_map.1 hx
    exact hall i (Nat.lt_succ_of_lt (List.mem_range.1 hi))
  have hcount := (handleAfter_nodup h).length_le_of_subset hsub
  rw [List.length_map, List.length_map, List.length_range] at hcount
  omega

/-- A handle is one of 1 to 0xFFFF. -/
theorem freshHandle_range (hs : List HandleEntry) (k h : Nat) : 1 ≤ freshHandle hs k h ∧ freshHandle hs k h ≤ 0xFFFF := by
  induction k generalizing h with
  | zero => exact ⟨nextHandle_pos h, nextHandle_le h⟩
  | succ k ih =>
    unfold freshHandle
    split
    · exact ih _
    · exact ⟨nextHandle_pos h, nextHandle_le h⟩

/-! ## A long command accepted (R142) -/

theorem State.reply_of_lt {s : State} {p : Nat} (hp : p < 3) (r : Reply) :
    s.reply p r = s.onPort p fun q => { q with replies := q.replies ++ [r] } := if_neg (by omega)

theorem State.accept_of_full {s : State} {r : Request} (op : Nat) (c : Bool) (hfull : 64 ≤ (s.port r.port).handles.length) :
    s.accept r op c = none := if_pos hfull

/-- Port q once it has accepted a long command under handle h. -/
def Port.accepting (q : Port) (r : Request) (op h : Nat) (c : Bool) : Port :=
  { q with handles := q.handles ++ [{ handle := h, opcode := op, tag := r.tag, committed := c }]
           lastHandle := h
           replies := q.replies ++ [{ tag := r.tag, status := .accepted, handle := h }] }

theorem State.accept_of_room {s : State} {r : Request} {h : Nat} (op : Nat) (c : Bool) (hp : r.port < 3)
    (hroom : (s.port r.port).handles.length < 64) (hh : h = freshHandle (s.port r.port).handles 65 (s.port r.port).lastHandle) :
    s.accept r op c = some (s.onPort r.port fun q => q.accepting r op h c, { port := r.port, handle := h }) := by
  subst hh
  rw [State.accept, if_neg (Nat.not_le.2 hroom)]
  dsimp only
  rw [State.reply_of_lt hp, State.onPort_onPort]
  rfl

/-- Settles O22: with 64 handles allocated none is given; with fewer the search ends at a fresh one. -/
theorem longCommandsGetHandles : Obligations.LongCommandsGetHandles := by
  intro s r op c hp hlt
  refine ⟨State.accept_of_full op c, fun hroom => ?_⟩
  have hport := s.port_onPort r.port
    (fun q => q.accepting r op (freshHandle (s.port r.port).handles 65 (s.port r.port).lastHandle) c) hlt
  obtain ⟨hpos, hle⟩ := freshHandle_range (s.port r.port).handles 65 (s.port r.port).lastHandle
  refine ⟨_, _, State.accept_of_room op c hp hroom rfl, State.onPort_same .., rfl, hpos, hle, freshHandle_fresh hroom _,
    congrArg Port.handles hport, congrArg Port.replies hport⟩

/-! ## POLL_HANDLE, CANCEL_HANDLE and READ_COMPLETIONS (R146 to R148) -/

theorem modeResp_ok {s : State} {b : Bool} (h : s.mode.mode.responding = true) : modeResp s b = .ok () := by
  simp [modeResp, need67, h]

/-- The place of the operation that a command names in its first two bytes. -/
def handleOf (r : Request) : OpRef := { port := r.port, handle := fieldAt r 0 2 }

/-- What POLL_HANDLE reports of a handle, with the progress g of a running operation. -/
def pollReport (g : Nat) : Option HandleEntry → List Byte
  | none => le 1 0 ++ le 1 g ++ le 2 0
  | some e => le 1 (if e.done then 3 else if e.cancelReq then 2 else 1) ++ le 1 (if e.done then 100 else g) ++ le 2 e.opcode

theorem cmdPollHandle_ok {s : State} {r : Request} (hlen : r.params.length = 2) (hpriv : needPriv s r 0x0B01 = .ok ())
    (hmode : s.mode.mode.responding = true) :
    cmdPollHandle s r = .ok (s.draw.2.replyOk r (pollReport (s.draw.1 % 101) (s.draw.2.entry (handleOf r)))) := by
  simp only [cmdPollHandle, len_ok hlen, hpriv, modeResp_ok hmode, except_ok_bind, handleOf]
  cases s.draw.2.entry _ <;> rfl

theorem cmdCancelHandle_ok {s : State} {r : Request} (hlen : r.params.length = 2) (hpriv : needPriv s r 0x0B02 = .ok ())
    (hmode : s.mode.mode.responding = true) :
    cmdCancelHandle s r = .ok (match s.entry (handleOf r) with
      | none => s.replyOk r [2]
      | some e => if e.done then s.replyOk r [2] else if e.committed then s.replyOk r [1]
        else ((s.onEntry (handleOf r) fun e => { e with cancelReq := true }).stopOp (handleOf r) .cancelled).replyOk r [0]) := by
  simp only [cmdCancelHandle, len_ok hlen, hpriv, modeResp_ok hmode, except_ok_bind, handleOf]
  cases s.entry _ with
  | none => rfl
  | some e => cases hdone : e.done <;> cases hcommitted : e.committed <;> simp [hdone, hcommitted]

/-- What is withdrawn of an operation is no window of R457. -/
theorem State.withdraw_sealSt (s : State) (o : OpRef) : (s.withdraw o).security.sealSt = s.security.sealSt := by
  unfold State.withdraw
  extract_lets -merge tested scrubbed load unloaded dropped unasked unlaned
  have htested : tested.security = s.security := by unfold tested; split <;> rfl
  have hscrubbed : scrubbed.security = tested.security := by unfold scrubbed; split <;> rfl
  have hunloaded : unloaded.security = scrubbed.security := by unfold unloaded; split <;> rfl
  have hdropped : dropped.security.sealSt = unloaded.security.sealSt := rfl
  have hunasked : unasked.security = dropped.security := by
    unfold unasked
    split
    · split <;> rfl
    · rfl
  show unasked.security.sealSt = _
  rw [hunasked, hdropped, hunloaded, hscrubbed, htested]

theorem State.stopOp_sealSt (s : State) (o : OpRef) (st : Status) : (s.stopOp o st).security.sealSt = s.security.sealSt := by
  have hposted : (s.stopOp o st).security = (s.withdraw o).security := (State.postDone_same ..).security (by decide)
  rw [hposted, State.withdraw_sealSt]

theorem cmdReadCompletions_ok {s x : State} {r : Request} (hlen : r.params.length = 4) (hflags : byteAt r 2 < 2)
    (hpriv : needPriv s r 0x0B03 = .ok ()) (hmode : s.mode.mode.responding = true)
    (hx : x = if bit (byteAt r 2) 0 then s.onPort r.port fun p => p.ackCompletions (fieldAt r 0 2) else s) :
    cmdReadCompletions s r = .ok (x.replyOk r (le 2 ((x.port r.port).completions.take (byteAt r 3)).length
      ++ (((x.port r.port).completions.take (byteAt r 3)).map Completion.bytes).flatten)) := by
  subst hx
  simp only [cmdReadCompletions, len_ok hlen, flagsWithin_ok (w := 1) hflags, hpriv, modeResp_ok hmode, except_ok_bind]

/-- Settles O23: each command passes its checks, and its answer leaves the windows of R457. -/
theorem handleCommandsComplete : Obligations.HandleCommandsComplete := by
  refine ⟨?poll, ?cancel, ?completions⟩
  case poll =>
    intro s r hasked hlen
    obtain ⟨htakes, hpriv, hmode⟩ := hasked
    refine ⟨s.draw.1 % 101, Nat.le_of_lt_succ (Nat.mod_lt _ (by decide)), ?_⟩
    rw [exec_of_sealSt_eq rfl htakes rfl (cmdPollHandle_ok hlen hpriv hmode) (by decide) (by simp), handleOf]
    cases s.draw.2.entry _ <;> rfl
  case cancel =>
    intro s r o hasked hlen ho
    obtain rfl : o = handleOf r := ho
    obtain ⟨htakes, hpriv, hmode⟩ := hasked
    have hok := cmdCancelHandle_ok hlen hpriv hmode
    refine ⟨fun hnone => ?_, fun e hsome => ?_⟩
    · rw [hnone] at hok
      exact exec_of_sealSt_eq rfl htakes rfl hok (by decide) (by simp)
    · rw [hsome] at hok
      refine exec_of_sealSt_eq rfl htakes rfl hok (by decide) ?_
      split
      · simp
      · split
        · simp
        · rw [State.replyOk_security, State.stopOp_sealSt]
          rfl
  case completions =>
    intro s r x rs hasked hlen hflags hx hrs
    subst hrs
    obtain ⟨htakes, hpriv, hmode⟩ := hasked
    have hsec : x.security = s.security := by rw [hx]; split <;> rfl
    exact exec_of_sealSt_eq rfl htakes rfl (cmdReadCompletions_ok hlen hflags hpriv hmode hx) (by decide)
      (by rw [State.replyOk_security, hsec])

end Sys2Proof.Machine
end

section
/-! SUPPORT. The mailbox of P3 denies every command but three (spec/05_ports_and_protocol.md R133). -/
namespace Sys2Proof.Machine

/-! ## Checks that fail -/

/-- A check or a command that answers a refusal. -/
def Denied {α : Type} (x : Except Deny α) : Prop := ∃ d, x = .error d

theorem Denied.bind {α β : Type} {x : Except Deny α} {f : α → Except Deny β} (h : Denied x) : Denied (x >>= f) := by
  obtain ⟨d, rfl⟩ := h
  exact ⟨d, rfl⟩

/-- What follows a check is refused, so the whole is: by the check, or after it. -/
theorem Denied.after {α β : Type} {x : Except Deny α} {f : α → Except Deny β} (h : ∀ a, Denied (f a)) : Denied (x >>= f) := by
  cases x with
  | error d => exact ⟨d, rfl⟩
  | ok a => exact h a

theorem Denied.ite {α : Type} {x y : Except Deny α} {c : Prop} [Decidable c] (h : Denied x) (k : Denied y) :
    Denied (if c then x else y) := by split <;> assumption

/-! ## The privilege check of order 5 on the mailbox -/

/-- An opcode that the mailbox does not list. -/
def Unlisted (op : Nat) : Prop := (op == 0x0001 || op == 0x0002 || op == 0x0805) = false

theorem unlisted_iff {op : Nat} : Unlisted op ↔ op ≠ 0x0001 ∧ op ≠ 0x0002 ∧ op ≠ 0x0805 := by
  simp [Unlisted, and_assoc]

variable {s : State} {r : Request} {op : Nat}

theorem needPriv_denied (hport : r.port = 3) (hop : Unlisted op) (signed read cal : Bool) :
    Denied (needPriv s r op signed read cal) := by
  rw [needPriv, if_pos hport, hop]
  exact ⟨_, rfl⟩

theorem order5_denied (hport : r.port = 3) (hop : Unlisted op) (time : Int) (anchor : Option Nat) (n : Nat) (auth : List Byte)
    (form0 cal : Bool) : Denied (order5 s time r op anchor n auth form0 cal) :=
  .bind (needPriv_denied hport hop _ _ _)

theorem islandRequest_denied (hport : r.port = 3) (hop : Unlisted op) : Denied (islandRequest s r op) := by
  refine .after fun _ => .after fun _ => .after fun _ => ?_
  exact .ite (.after fun _ => .bind (order5_denied hport hop ..)) (.after fun _ => .bind (order5_denied hport hop ..))

theorem cmdRetireIsland_denied (hport : r.port = 3) : Denied (cmdRetireIsland s r) := .bind (islandRequest_denied hport rfl)

theorem cmdRestoreIsland_denied (hport : r.port = 3) : Denied (cmdRestoreIsland s r) := .bind (islandRequest_denied hport rfl)

theorem cmdSubmitToken_denied (hport : r.port = 3) : Denied (cmdSubmitToken s r) := by
  refine .after fun _ => .after fun _ => ?_
  extract_lets m rest
  have hrest (v : Nat) : Denied (rest v) := .after fun _ => .bind (needPriv_denied (op := 0x0401) hport rfl ..)
  split
  · exact .ite (.after hrest) (.after hrest)
  · exact .after hrest

/-- The checks of a command stand in the order of R112: whatever those before it answer, the privilege check denies. -/
theorem denied_of_command {f : State → Request → Except Deny State} (hf : commandOf op = some f) (hport : r.port = 3)
    (hop : Unlisted op) : Denied (f s r) := by
  unfold commandOf at hf
  split at hf
  all_goals cases hf
  all_goals
    repeat' first
      | with_reducible exact .bind (needPriv_denied hport hop ..)
      | with_reducible exact .bind (order5_denied hport hop ..)
      | with_reducible exact cmdSubmitToken_denied hport
      | with_reducible exact cmdRetireIsland_denied hport
      | with_reducible exact cmdRestoreIsland_denied hport
      | refine .after fun _ => ?_

/-- Settles O46: the privilege check of the command denies, and every check before it that fails denies too. -/
theorem mailboxRunsThreeCommands : Obligations.MailboxRunsThreeCommands := by
  intro op f s r hf hport hident hstatus hdebug
  exact denied_of_command hf hport (unlisted_iff.2 ⟨hident, hstatus, hdebug⟩)

end Sys2Proof.Machine
end

section
/-! SUPPORT. The auxiliary port and the test access port (spec/05_ports_and_protocol.md R126 to R128, R131 to R133, R138). -/
namespace Sys2Proof.Machine

variable {s : State}

/-! ## P1 (R127, R128, R138) -/

/-- A port without a place in the list has no reply. -/
theorem State.lt_of_head {p : Nat} {r : Reply} (hhead : (s.port p).head = some r) : p < s.ports.length := by
  refine Nat.lt_of_not_le fun habsent => ?_
  have hempty : s.port p = {} := by
    rw [State.port, List.getD_eq_getElem?_getD, List.getElem?_eq_none habsent]
    rfl
  rw [hempty] at hhead
  exact nomatch hhead

theorem execAuxReplySent_of_head {r : Reply} (hresponds : s.responds = true) (hhead : (s.port 1).head = some r) :
    execAuxReplySent s = .next ((s.present 1 (auxBytes (s.packetOf 1 r))).sent 1) := by
  simp [execAuxReplySent, hresponds, hhead, State.present]

/-- The frame presented and its reply gone, in one change of the port. -/
theorem State.present_sent {r : Reply} (bs : List Byte) (hhead : (s.port 1).head = some r) :
    (s.present 1 bs).sent 1 = (s.onPort 1 fun q =>
      if r.resync then { q with
        out := bs, replies := q.replies.drop 1, resyncOwed := false
        sending := q.sending && ((q.replies.drop 1).any (fun x => x.resync) || q.rx.any fun x => x.resync) }
      else { q with out := bs, replies := q.replies.drop 1, credits := min 8 (q.credits + 1) }).applyRate := by
  have hheld : ((s.present 1 bs).port 1).head = some r := by
    rw [State.present_port (State.lt_of_head hhead)]
    exact hhead
  rw [State.sent, hheld]
  dsimp only
  rw [State.present, State.onPort_onPort]
  rfl

theorem execAuxBreak_of_long {ms : Nat} (hresponds : s.responds = true) (hlong : 10 ≤ ms) :
    execAuxBreak ms s = .next ((if 1000 ≤ ms then (((s.onPort 1 fun q =>
        { q with credits := 8, sending := true, rx := q.rx ++ [{ resync := true }] }).setPar 0x23 0).onPort 1
          fun q => { q with baud := 0, baudNext := none }).configWrite
      else s.onPort 1 fun q => { q with credits := 8, sending := true, rx := q.rx ++ [{ resync := true }] }).drainPort 1) := by
  simp [execAuxBreak, hresponds, Nat.not_lt.2 hlong]

/-! ## The instruction register of P3 (R131) -/

/-- An instruction in the register of the TAP. -/
def State.withIr (s : State) (code : BitVec 8) : State := s.onTap fun t => { t with ir := code }

@[simp] theorem State.withIr_tapOn (code : BitVec 8) : (s.withIr code).tapOn = s.tapOn := rfl

theorem State.withIr_tapMode_extest : (s.withIr 0x03).tapMode = if s.scanFree then .extest else .bypass := rfl
theorem State.withIr_tapMode_clamp : (s.withIr 0x04).tapMode = if s.scanFree then .clamp else .bypass := rfl
theorem State.withIr_tapMode_highz : (s.withIr 0x05).tapMode = if s.scanFree then .highz else .bypass := rfl
theorem State.withIr_tapMode_debug : (s.withIr 0x21).tapMode = if s.mode.debug = .d0 then .bypass else .debug := rfl

/-- The codes of the table (R131). -/
def listedCodes : List (BitVec 8) := [0x01, 0x02, 0x03, 0x04, 0x05, 0x20, 0x21]

/-- A code that the table does not list selects the bypass register. -/
theorem State.withIr_tapMode_unlisted {code : BitVec 8} (hcode : code ∉ listedCodes) : (s.withIr code).tapMode = .bypass := by
  have hne (c : BitVec 8) (hc : c ∈ listedCodes) : (s.withIr code).tap.ir.toNat ≠ c.toNat := fun heq =>
    hcode ((BitVec.eq_of_toNat_eq heq : code = c) ▸ hc)
  unfold State.tapMode
  split
  next h => exact absurd h (hne 0x01 (by decide))
  next h => exact absurd h (hne 0x02 (by decide))
  next h => exact absurd h (hne 0x03 (by decide))
  next h => exact absurd h (hne 0x04 (by decide))
  next h => exact absurd h (hne 0x05 (by decide))
  next h => exact absurd h (hne 0x20 (by decide))
  next h => exact absurd h (hne 0x21 (by decide))
  next => rfl

/-- What the register that an instruction selects captures at once. -/
def State.loadDr (s : State) : TapMode → State
  | .idcode => s.onTap fun t => { t with dr := s.idcode }
  | .bypass | .clamp | .highz => s.onTap fun t => { t with dr := 0 }
  | .samplePreload | .extest | .joros | .debug => s

theorem State.tapSelect_of_on (hon : s.tapOn = true) (code : BitVec 8) :
    s.tapSelect code = (s.withIr code).loadDr (s.withIr code).tapMode := by
  rw [State.tapSelect, if_neg (by simp [hon])]
  rfl

/-! ## The instructions of P3 (R131, R132) -/

section
variable (hon : s.tapOn = true)
include hon

theorem execIdcode_of_on : execIdcode s = .next ((s.withIr 0x01).onTap fun t => { t with dr := s.idcode }) := by
  rw [execIdcode, State.tapSelect_of_on hon]
  rfl

theorem execSamplePreload_of_on (pins pre : List Bool) : execSamplePreload pins pre s = .next ((s.withIr 0x02).onTap fun t =>
    { t with dr := s.captured pins, bsr := (List.range 48).map fun i => pre.getD i false }) := by
  rw [execSamplePreload, if_pos hon, State.tapSelect_of_on hon]
  rfl

/-- Where the pins may be driven EXTEST selects the boundary-scan register, which captures them. -/
theorem execExtest_of_free (hfree : s.scanFree = true) (pins : List Bool) : execExtest s pins =
    .next ((s.withIr 0x03).onTap fun t => { t with dr := (s.withIr 0x03).captured pins }) := by
  have hmode : (s.withIr 0x03).tapMode = .extest := State.withIr_tapMode_extest.trans (if_pos hfree)
  have hselect : s.tapSelect 0x03 = s.withIr 0x03 := by rw [State.tapSelect_of_on hon, hmode]; rfl
  rw [execExtest, hselect]
  dsimp only
  rw [State.withIr_tapOn, hon, hmode]
  rfl

/-- Elsewhere it selects the bypass register. -/
theorem execExtest_of_barred (hbarred : s.scanFree = false) (pins : List Bool) : execExtest s pins =
    .next ((s.withIr 0x03).onTap fun t => { t with dr := 0 }) := by
  have hmode : (s.withIr 0x03).tapMode = .bypass := State.withIr_tapMode_extest.trans (if_neg (by simp [hbarred]))
  have hselect : s.tapSelect 0x03 = (s.withIr 0x03).onTap fun t => { t with dr := 0 } := by
    rw [State.tapSelect_of_on hon, hmode]; rfl
  have hkept : ((s.withIr 0x03).onTap fun t => { t with dr := 0 }).tapMode = .bypass := hmode
  rw [execExtest, hselect]
  dsimp only
  rw [hkept]
  simp

theorem execClamp_of_on : execClamp s = .next ((s.withIr 0x04).onTap fun t => { t with dr := 0 }) := by
  rw [execClamp, State.tapSelect_of_on hon, State.withIr_tapMode_clamp]
  split <;> rfl

theorem execHighz_of_on : execHighz s = .next ((s.withIr 0x05).onTap fun t => { t with dr := 0 }) := by
  rw [execHighz, State.tapSelect_of_on hon, State.withIr_tapMode_highz]
  split <;> rfl

theorem execBypass_of_unlisted {code : BitVec 8} (hcode : code ∉ listedCodes) :
    execBypass code s = .next ((s.withIr code).onTap fun t => { t with dr := 0 }) := by
  have hwf : Instr.wellFormed (.bypass code) = true := by simpa [Instr.wellFormed, listedCodes] using hcode
  rw [execBypass, if_pos hwf, State.tapSelect_of_on hon, State.withIr_tapMode_unlisted hcode]
  rfl

/-- At level D0 DEBUG selects the bypass register (R109). -/
theorem execDebug_of_d0 (hlevel : s.mode.debug = .d0) (op : DebugOp) :
    execDebug s op = .next ((s.withIr 0x21).onTap fun t => { t with dr := 0 }) := by
  have hmode : (s.withIr 0x21).tapMode = .bypass := State.withIr_tapMode_debug.trans (if_pos hlevel)
  have hselect : s.tapSelect 0x21 = (s.withIr 0x21).onTap fun t => { t with dr := 0 } := by
    rw [State.tapSelect_of_on hon, hmode]; rfl
  have hkept : ((s.withIr 0x21).onTap fun t => { t with dr := 0 }).tapMode = .bypass := hmode
  rw [execDebug, hselect]
  dsimp only
  rw [hkept]
  simp

/-- At levels D1 and D2 DEBUG reads, and at D2 it writes too (R109). -/
theorem execDebug_of_open (hlevel : s.mode.debug ≠ .d0) (op : DebugOp) : execDebug s op = .next
    (if s.mode.debug = .d2 then ((s.withIr 0x21).debugRead op).debugWrite op else (s.withIr 0x21).debugRead op) := by
  have hmode : (s.withIr 0x21).tapMode = .debug := State.withIr_tapMode_debug.trans (if_neg hlevel)
  have hselect : s.tapSelect 0x21 = s.withIr 0x21 := by rw [State.tapSelect_of_on hon, hmode]; rfl
  have hread : ((s.withIr 0x21).debugRead op).mode = s.mode := (State.debugRead_same ..).mode (by decide)
  rw [execDebug, hselect]
  dsimp only
  rw [State.withIr_tapOn, hon, hmode, hread]
  rfl

theorem execTrstN_of_on : execTrstN s = .next (s.closeDebug.onTap fun t =>
    { t with ir := 1, dr := s.idcode, credit := 1, reqBytes := [], replyBytes := [] }) := by
  rw [execTrstN, if_pos hon]

theorem execJorosMailbox_of_on (capture : Bool) (reg : BitVec 10) : execJorosMailbox capture reg s =
    .next (if capture then (s.withIr 0x20).mailboxCapture else (s.withIr 0x20).mailboxUpdate reg) := by
  rw [execJorosMailbox, if_pos hon, State.tapSelect_of_on hon]
  rfl

end

/-! ## The mailbox (R133) -/

/-- The mailbox once its next reply byte has been captured. -/
def Tap.captured (t : Tap) : Tap :=
  match t.replyBytes with
  | [] => { t with dr := 0 }
  | b :: r => { t with dr := b.toNat + 256 + 512 * b2n r.isEmpty, replyBytes := r, credit := if r.isEmpty then 1 else t.credit }

theorem State.mailboxCapture_eq (s : State) : s.mailboxCapture = s.onTap Tap.captured := by
  unfold State.mailboxCapture
  split
  next hnone => simp [State.onTap, Tap.captured, hnone]
  next b r hnext => simp [State.onTap, Tap.captured, hnext]

/-- A byte that does not end its packet. -/
theorem State.mailboxUpdate_of_more {reg : BitVec 10} (hvalid : reg.getLsbD 8 = true) (hmore : reg.getLsbD 9 = false) :
    s.mailboxUpdate reg = s.onTap fun t => { t with reqBytes := t.reqBytes ++ [reg.setWidth 8] } := by
  rw [State.mailboxUpdate, hvalid, hmore]
  rfl

/-- The byte that ends a packet, with a credit for it. -/
theorem State.mailboxUpdate_of_last {reg : BitVec 10} (hvalid : reg.getLsbD 8 = true) (hlast : reg.getLsbD 9 = true)
    (hresponds : s.responds = true) (hcredit : 1 ≤ s.tap.credit) :
    s.mailboxUpdate reg = (s.onTap fun t => { t with reqBytes := [], credit := t.credit - 1 }).runRaw 3
      (rawOf (s.tap.reqBytes ++ [reg.setWidth 8])) := by
  have hpaid : ¬((s.onTap fun t => { t with reqBytes := [] }).tap.credit = 0
      ∨ (s.onTap fun t => { t with reqBytes := [] }).responds = false) := by
    rintro (hnone | hsilent)
    · exact absurd hnone (Nat.pos_iff_ne_zero.1 hcredit)
    · exact absurd (hsilent.symm.trans hresponds) Bool.false_ne_true
  rw [State.mailboxUpdate, hvalid, hlast, if_neg (by decide)]
  dsimp only
  rw [if_neg (by decide), if_neg hpaid]
  rfl

/-! ## The statement -/

/-- Settles O45: each row's condition holds, and the row answers the state that its rule gives. -/
theorem auxiliaryAndTestPortsComplete : Obligations.AuxiliaryAndTestPortsComplete := by
  refine ⟨?frame, ?brk, ?sent, ?tap, ?mailbox⟩
  case frame => exact fun s cs low hresponds hfree hchars => execAuxFrame_of_chars hresponds hfree hchars
  case brk =>
    intro s ms t hresponds hlong ht
    subst ht
    exact execAuxBreak_of_long hresponds hlong
  case sent =>
    intro s r hresponds hhead
    exact (execAuxReplySent_of_head hresponds hhead).trans (congrArg Host.Outcome.next (State.present_sent _ hhead))
  case tap =>
    intro s hon
    refine ⟨execIdcode_of_on hon, execSamplePreload_of_on hon, fun pins hfree => execExtest_of_free hon hfree pins,
      fun pins hbarred => execExtest_of_barred hon hbarred pins, execClamp_of_on hon, execHighz_of_on hon,
      fun op hlevel => execDebug_of_d0 hon hlevel op, ?d1, ?d2, ?ram, ?halt, fun code hcode => execBypass_of_unlisted hon hcode,
      execTrstN_of_on hon⟩
    case d1 =>
      intro op t hlevel ht
      subst ht
      refine (execDebug_of_open hon (by simp [hlevel]) op).trans ?_
      rw [if_neg (by simp [hlevel])]
      rfl
    case d2 =>
      intro op t hlevel ht
      subst ht
      exact (execDebug_of_open hon (by simp [hlevel]) op).trans (congrArg Host.Outcome.next (if_pos hlevel))
    case ram =>
      intro a t hlevel ht
      subst ht
      exact (execDebug_of_open hon hlevel (.readRam a)).trans (congrArg Host.Outcome.next (ite_self _))
    case halt =>
      intro hlevel
      exact (execDebug_of_open hon (by simp [hlevel]) .halt).trans (congrArg Host.Outcome.next (if_pos hlevel))
  case mailbox =>
    intro s t hon ht
    subst ht
    refine ⟨fun reg => ?_, fun reg hvalid hmore => ?_, fun reg hvalid hlast hresponds hcredit => ?_⟩
    · exact (execJorosMailbox_of_on hon true reg).trans (congrArg Host.Outcome.next (State.mailboxCapture_eq _))
    · exact (execJorosMailbox_of_on hon false reg).trans (congrArg Host.Outcome.next (State.mailboxUpdate_of_more hvalid hmore))
    · exact (execJorosMailbox_of_on hon false reg).trans
        (congrArg Host.Outcome.next (State.mailboxUpdate_of_last hvalid hlast hresponds hcredit))

end Sys2Proof.Machine
end

section
/-! SUPPORT. The events of the islands, of the lanes and of a remap where they are due (spec/06_converters.md R172
and R178 to R182, spec/08_engine.md R240, spec/17_live_servicing.md R487). -/
namespace Sys2Proof.Machine

variable {s : State} {n : Nat}

/-! ## An island after a change -/

theorem State.isl_onIsland (hlen : n < s.islands.length) (f : Island → Island) : (s.onIsland n f).isl n = f (s.isl n) :=
  upd_getD _ _ _ _ hlen

/-- EV_CHECKER_FAULT is reported without a change to an island. -/
theorem State.islandFault_isl (s : State) (n kind value m : Nat) : (s.islandFault n kind value).isl m = s.isl m :=
  congrArg (·.getD m {}) ((State.islandFault_same s n kind value).islands (by decide))

/-! ## The comparison of references and supplies (R172) -/

section Supply

variable {vref avdd t16 : Int} (hlen : n < s.islands.length) (hn : n < s.nIsl) (hboot : 3 ≤ s.mode.bootStep)
  (hmet : s.metering = true) (hin : (s.isl n).retired = false) (havdd : avdd.natAbs ≤ 50000)

include hn hboot hmet hin in
/-- An island that is fitted and not retired is compared once the start has reached step 3. -/
theorem supplyCheck_due :
    ¬(s.nIsl ≤ n ∨ s.mode.bootStep < 3 ∨ (s.metering = false ∧ s.mode.mode ≠ .boot)
      ∨ ((s.isl n).retired ∧ (s.isl n).restoreOp = none)) := by
  have hboot' : ¬ s.mode.bootStep < 3 := Nat.not_lt.2 hboot
  simp [hmet, hin, Nat.not_le.2 hn, hboot']

include hn hboot hmet hin havdd

include hlen in
/-- A good comparison of an island without a fault changes the island alone. -/
theorem execIslandSupplyCheck_of_good (hvref : vref.natAbs ≤ 10000) (hfault : s.islFault n = false) :
    ∃ f : Island → Island, execIslandSupplyCheck n vref avdd t16 s = .next (s.onIsland n f) ∧ (f (s.isl n)).refBad = 0
      ∧ (f (s.isl n)).supBad = 0 ∧ (f (s.isl n)).good = min 100 ((s.isl n).good + 1)
      ∧ (f (s.isl n)).temp = ((s.isl n).refreshTemp s.now t16).temp := by
  obtain ⟨href, hsup⟩ := Bool.or_eq_false_iff.1 hfault
  have hgoodR : decide (10000 < vref.natAbs) = false := decide_eq_false (Nat.not_lt.2 hvref)
  have hgoodS : decide (50000 < avdd.natAbs) = false := decide_eq_false (Nat.not_lt.2 havdd)
  have hnew : decide (3 ≤ 0) = false := rfl
  simp only [execIslandSupplyCheck, if_neg (supplyCheck_due hn hboot hmet hin), hgoodR, hgoodS, State.islFault,
    State.isl_onIsland hlen, href, hsup, hnew, Bool.false_eq_true, if_false, Bool.and_false, Bool.or_false, Bool.false_and]
  exact ⟨_, rfl, rfl, rfl, rfl, rfl⟩

/-- A bad comparison of VREF alone counts towards its fault and ends the run of good comparisons; the third one in a row is
reported. -/
theorem execIslandSupplyCheck_of_badReference (hvref : 10000 < vref.natAbs) :
    ∃ (f : Island → Island) (w : Nat), execIslandSupplyCheck n vref avdd t16 s
        = .next (if !(s.isl n).refFault && decide (3 ≤ (s.isl n).refBad + 1) then (s.onIsland n f).islandFault n 0 w
          else s.onIsland n f)
      ∧ (f (s.isl n)).good = 0 ∧ (f (s.isl n)).refBad = min 3 ((s.isl n).refBad + 1)
      ∧ (f (s.isl n)).refFault = ((s.isl n).refFault || decide (3 ≤ (s.isl n).refBad + 1)) := by
  have hbadR : decide (10000 < vref.natAbs) = true := decide_eq_true hvref
  have hgoodS : decide (50000 < avdd.natAbs) = false := decide_eq_false (Nat.not_lt.2 havdd)
  have hnew : decide (3 ≤ 0) = false := rfl
  have hrun : decide (100 ≤ passAfter true (s.isl n).good) = false := rfl
  have hlatch (b x : Bool) : (b || !b && x) = (b || x) := by cases b <;> rfl
  simp only [execIslandSupplyCheck, if_neg (supplyCheck_due hn hboot hmet hin), hbadR, hgoodS, hnew, hrun, Bool.or_false,
    if_true, Bool.false_eq_true, if_false, Bool.and_false]
  exact ⟨_, _, rfl, rfl, rfl, hlatch _ _⟩

end Supply

/-! ## The self-test of a pair of lanes (R240) -/

/-- In the pair's period both lanes are tested, the even one first. -/
theorem execLaneSelfTest_of_pairDue {j k : Nat} (hmet : s.metering = true) (hj : j < 4) (hdue : s.pairDue j = some k)
    (hin : (s.lane (2 * j)).retired = false) (hin' : (s.lane (2 * j + 1)).retired = false) (hidle : s.idleFor (2 * j) = true)
    (hidle' : s.idleFor (2 * j + 1) = true) (sigs : Nat × Nat) :
    execLaneSelfTest j sigs s = .next
      (((s.onEngine fun e => { e with pairDone := upd e.pairDone j fun _ => k }).laneTested (2 * j) sigs.1).laneTested (2 * j + 1)
        sigs.2) := by
  simp [execLaneSelfTest, hmet, Nat.not_le.2 hj, hdue, hin, hin', hidle, hidle']

/-! ## An urgent request (R181, R182) -/

/-- The request at the head of Q28 leaves the queue, and reaches its island unless its word has arrived damaged. -/
theorem execUrgentRequest_of_takeable {u : Urgent} {y : List Urgent × Nat} {t : State}
    (hhead : takeable (fun _ => 1) (s.creditsMax 28) s.q28 = some u)
    (hy : y = refill (fun _ => 1) Urgent.unit (s.creditsMax 28) (s.queue 28).turn s.q28)
    (ht : t = (s.onQ28 fun _ => y.1).onQueue 28 fun x => { x with turn := y.2 }) (upset : Bool) :
    execUrgentRequest s upset = .next (if upset then (t.poisoned 28).answerEmpty .void u else t.urgentArrives u) := by
  subst hy ht
  simp only [execUrgentRequest, hhead]

section Urgent

variable {u : Urgent}

theorem State.urgentArrives_of_out (hout : s.islOn (u.ch / 64) = false) : s.urgentArrives u = s.answerEmpty .retired u :=
  if_pos hout

variable (hon : s.islOn (u.ch / 64) = true)
include hon

theorem State.urgentArrives_of_roleOff (hoff : (s.chan u.ch).set.role = 0) : s.urgentArrives u = s.answerEmpty .void u := by
  simp [State.urgentArrives, hon, hoff]

variable (hrole : (s.chan u.ch).set.role ≠ 0) (hsees : (s.isl (u.ch / 64)).blind = false)
  (hnew : ∀ v ∈ (s.isl (u.ch / 64)).waiting, v.ch ≠ u.ch)
include hrole hsees hnew

/-- A request for a channel for which none waits joins the waiting ones, of which an island holds eight. -/
theorem State.urgentArrives_of_new :
    s.urgentArrives u =
      if 8 ≤ (s.isl (u.ch / 64)).waiting.length then s.answerEmpty .busy u
      else ((s.onIsland (u.ch / 64) fun i => { i with urgents := i.urgents ++ [u] }).onSecond (u.ch / 64)
        ((s.isl (u.ch / 64)).serving u.ch) fun x => x.abort u.ch s.now).nextWork (u.ch / 64)
          ((s.isl (u.ch / 64)).serving u.ch) := by
  have hnone : ((s.isl (u.ch / 64)).waiting.any fun v => v.ch == u.ch) = false := by simpa using hnew
  simp only [State.urgentArrives, hon, hsees, hnone, if_neg hrole, Bool.true_eq_false, Bool.false_eq_true, if_false]
  -- Queueing the request leaves the sample index.
  rfl

end Urgent

/-! ## The comparison of a second (R178, R179) -/

section Comparison

variable {b : Bool} {r : Integ} {rest : List Integ} (hruns : ((s.isl n).second b).runs = r :: rest) (hplain : r.urgent = none)
  (hended : r.endGate + (s.chan r.ch).set.int ≤ s.now)
  (htaken : r.endGate + (s.chan r.ch).set.int ≤ (s.chan r.ch).takenAt)

include hended htaken in
/-- The oldest span has ended, and the comparator has taken every sample of it. -/
theorem integration_ended :
    ¬(s.now < r.endGate + (s.chan r.ch).set.int ∨ (s.chan r.ch).takenAt < r.endGate + (s.chan r.ch).set.int) := by
  omega

include hruns hplain hended htaken

/-- A count without a valid span is dropped, and the second goes on. -/
theorem execSecondIntegrationEnd_of_void {count : Nat} {upset : Bool} {t : State} (ht : t = if upset then s.poisoned 29 else s)
    (hvoid : (t.comparison r count upset).2.2.1 = true) :
    execSecondIntegrationEnd n b count s upset = .next ((t.onSecond n b fun x => { x with runs := rest }).nextWork n b) := by
  subst ht
  simp only [execSecondIntegrationEnd, hruns, hplain, if_neg (integration_ended hended htaken), hvoid, Bool.true_or, if_true]

/-- The comparison of a valid span is counted and taken to the channel's check state. -/
theorem execSecondIntegrationEnd_of_valid {count : Nat} {ok : Bool} (hvalid : (s.comparison r count false).2.2.1 = false)
    (hok : ok = (s.comparison r count false).2.2.2) :
    execSecondIntegrationEnd n b count s false = .next
      ((((s.onSecond n b fun x => { x with runs := rest }).onIsland n fun i => { i with
        comparisons := (i.comparisons + 1) % 65536, mismatches := (i.mismatches + b2n (!ok)) % 65536 }).compared r.ch ok
          (s.comparison r count false).1 (s.comparison r count false).2.1 r.start).nextWork n b) := by
  subst hok
  simp only [execSecondIntegrationEnd, hruns, hplain, if_neg (integration_ended hended htaken), hvalid, Bool.or_false,
    Bool.false_eq_true, if_false]

end Comparison

theorem State.comparison_void_of_upset (r : Integ) (count : Nat) : (s.comparison r count true).2.2.1 = true := by
  simp [State.comparison]

theorem State.comparison_void_of_span {r : Integ} (count : Nat)
    (h : r.void = true ∨ r.endGate - r.start < 1600 ∨ 3200 < r.endGate - r.start) :
    (s.comparison r count false).2.2.1 = true := by
  have hspan : r.void = true ∨ within 1600 3200 (r.endGate - r.start) = false := h.imp_right (by simp [within]; omega)
  rcases hspan with hvoid | hlen
  · simp [State.comparison, hvoid]
  · simp [State.comparison, hlen]

theorem State.comparison_valid_of_span {r : Integ} (count : Nat) (hvoid : r.void = false)
    (hfault : s.islFault (r.ch / 64) = false) (hlo : 1600 ≤ r.endGate - r.start) (hhi : r.endGate - r.start ≤ 3200) :
    (s.comparison r count false).2.2.1 = false := by
  simp [State.comparison, within, hvoid, hfault, hlo, hhi]

/-! ## The self-test of a second (R180) -/

section SelfTest

variable {b : Bool} {a cH cZ : Nat} (htest : ((s.isl n).second b).testAt = some a) (hended : a + 5120 ≤ s.now)
include htest hended

/-- Both integrations of the self-test are over. -/
theorem selfTest_over : ¬(((s.isl n).second b).testAt.isNone ∨ s.now < ((s.isl n).second b).testAt.getD 0 + 5120) := by
  simp only [htest, Option.isNone_some, Option.getD_some, Bool.false_eq_true, false_or, Nat.not_lt]
  exact hended

/-- A second that passes gives its channels back to the checks. -/
theorem execSecondSelfTest_of_pass (hhalf : 1000 * ((cH : Int) - 81920).natAbs ≤ 163840) (hzero : 1000 * cZ ≤ 163840) :
    execSecondSelfTest n b cH cZ s = .next
      (((s.onSecond n b fun x => { x with testAt := none, failed := false }).onIslandChans n fun h =>
        if h.check = .unverified then { h with check := .unchecked, mismatches := 0 } else h).nextWork n b) := by
  have hpasses : (decide (1000 * ((cH : Int) - 81920).natAbs ≤ 163840) && decide (1000 * cZ ≤ 163840)) = true := by
    rw [decide_eq_true hhalf, decide_eq_true hzero, Bool.and_self]
  simp only [execSecondSelfTest, if_neg (selfTest_over htest hended), hpasses, Bool.not_true, if_true]

/-- A second that fails is reported; while the other one still checks, nothing else happens. -/
theorem execSecondSelfTest_of_fail {t : State} (hzero : 163840 < 1000 * cZ)
    (ht : t = (s.onSecond n b fun x => { x with testAt := none, failed := true }).islandFault n (2 + b2n b) cH)
    (hsees : (t.isl n).blind = false) : execSecondSelfTest n b cH cZ s = .next (t.nextWork n b) := by
  subst ht
  have hfails : (decide (1000 * ((cH : Int) - 81920).natAbs ≤ 163840) && decide (1000 * cZ ≤ 163840)) = false := by
    rw [decide_eq_false (Nat.not_le.2 hzero), Bool.and_false]
  simp only [execSecondSelfTest, if_neg (selfTest_over htest hended), hfails, Bool.not_false, Bool.false_eq_true, if_false, hsees]

end SelfTest

/-! ## The effect of a remap (R487) -/

theorem execRemapEffect_of_crossed {x : Remap} {at_ : Nat} (hmet : s.metering = true) (honly : s.engine.remaps = [x])
    (hopen : x.done = false) (hcrossed : s.remapInstant x = some at_) : execRemapEffect s = .next (s.exchange x at_) := by
  simp [execRemapEffect, hmet, honly, hopen, hcrossed]

/-! ## The statement -/

/-- Settles O56: each row's condition holds, and the row answers the state that its rule gives. -/
theorem islandEventsComplete : Obligations.IslandEventsComplete := by
  refine ⟨?supply, ?lanes, ?urgent, ?comparison, ?passed, ?failed, ?remap⟩
  case supply =>
    intro s n vref avdd t16 hlen hn hboot hmet hin
    constructor
    · intro hvref havdd hfault
      obtain ⟨f, hrun, href, hsup, hgood, htemp⟩ :=
        execIslandSupplyCheck_of_good (t16 := t16) hlen hn hboot hmet hin havdd hvref hfault
      refine ⟨_, hrun, State.onIsland_same s n f, ?_⟩
      rw [State.isl_onIsland hlen]
      exact ⟨href, hsup, hgood, htemp⟩
    · intro hvref havdd
      obtain ⟨f, w, hrun, hgood, hbad, hfault⟩ :=
        execIslandSupplyCheck_of_badReference (t16 := t16) hn hboot hmet hin havdd hvref
      have hsame : Same (partIslands ||| partPq ||| partEvents) s (s.onIsland n f) := (State.onIsland_same s n f).mono (by decide)
      refine ⟨_, hrun, .ite ((State.islandFault_same ..).step (by decide) hsame) hsame, ?_⟩
      rw [apply_ite (State.isl · n), State.islandFault_isl, ite_self, State.isl_onIsland hlen]
      exact ⟨hgood, hbad, hfault⟩
  case lanes =>
    intro s j sigs k hmet hj hdue hin hin' hidle hidle'
    exact execLaneSelfTest_of_pairDue hmet hj hdue hin hin' hidle hidle' sigs
  case urgent =>
    intro s u y t hhead hy ht
    have hrun (upset : Bool) : exec (.urgentRequest upset) s = .next _ := execUrgentRequest_of_takeable hhead hy ht upset
    have harrives {z : State} (hz : t.urgentArrives u = z) : exec (.urgentRequest false) s = .next z :=
      (hrun false).trans (congrArg Host.Outcome.next hz)
    refine ⟨hrun true, fun hout => harrives (State.urgentArrives_of_out hout),
      fun hon hoff => harrives (State.urgentArrives_of_roleOff hon hoff), fun hon hrole hsees hnew => ?_⟩
    have hjoins := State.urgentArrives_of_new hon hrole hsees hnew
    refine ⟨fun hfull => harrives (hjoins.trans (if_pos hfull)), fun hroom b hb => ?_⟩
    subst hb
    exact harrives (hjoins.trans (if_neg (Nat.not_le.2 hroom)))
  case comparison =>
    intro s n b count r rest len tol hruns hplain hended htaken hlen htol
    subst hlen htol
    refine ⟨fun hvoid hfault hlo hhi ok hok => ?_, fun hspan => ?_, ?_⟩
    · have hvalid := State.comparison_valid_of_span (s := s) count hvoid hfault hlo hhi
      exact execSecondIntegrationEnd_of_valid hruns hplain hended htaken hvalid hok
    · exact execSecondIntegrationEnd_of_void hruns hplain hended htaken rfl (State.comparison_void_of_span count hspan)
    · exact execSecondIntegrationEnd_of_void hruns hplain hended htaken rfl (State.comparison_void_of_upset r count)
  case passed => exact fun s n b a cH cZ htest hended hhalf hzero => execSecondSelfTest_of_pass htest hended hhalf hzero
  case failed => exact fun s n b a cH cZ t htest hended hzero ht hsees => execSecondSelfTest_of_fail htest hended hzero ht hsees
  case remap => exact fun s x at_ hmet honly hopen hcrossed => execRemapEffect_of_crossed hmet honly hopen hcrossed

end Sys2Proof.Machine
end

section
/-! SUPPORT. The commands whose settings the engine takes over at a later instant: filter banks, balance groups and pulse
assignments (spec/07_filter_chain.md R206, R207; spec/09_energy.md R267, R270). -/
namespace Sys2Proof.Machine

variable {s : State} {r : Request}

/-! ## Checks that pass -/

theorem needPoint_ok {m : Nat} (h : m < s.nMp) : needPoint s m = .ok () := need_ok (decide_eq_true h)

theorem notRetired_ok (h : s.life ≠ .retired) : notRetired s = .ok () := if_pos (bne_iff_ne.2 h)

theorem within_ok {lo hi x : Nat} (hlo : lo ≤ x) (hhi : x ≤ hi) : within lo hi x = true := by simp [within, hlo, hhi]

/-! ## LOAD_FIR_BANK (R206, R207) -/

@[simp] theorem State.loadBank_security (n t k : Nat) (cs : List Int) : (s.loadBank n t k cs).security = s.security := rfl

/-- Bank n reloaded with taps, scale and coefficients. Where its load is larger and the processing rate must climb first, its channels
switch only past the round boundary. -/
def State.bankLoaded (s : State) (n t k : Nat) (cs : List Int) (wait : Bool) : State :=
  ((s.loadBank n t k cs).onEngine fun e => { e with
    banks := upd e.banks n fun b => if wait then { b with waits := true, from_ := s.nextRound + 1 } else b }).configWrite

/-- The reply's payload: whether channels select the bank, the CRC of the coefficients, how many channels, and the first of their step
instants. -/
def State.bankReport (s : State) (n : Nat) (bytes : List Byte) : List Byte :=
  le 1 n ++ le 1 (b2n (!(s.selecting n).isEmpty)) ++ le 4 (crc32c bytes).toNat ++ le 2 (s.selecting n).length
    ++ sample8 (if (s.selecting n).isEmpty then 0 else ((s.selecting n).map s.stepAhead).foldl min (2 ^ 56))

theorem State.tryLoadBank_ok {n t k : Nat} {cs : List Int} {after : State} (bytes : List Byte) (hidle : (s.bank n).pending = [])
    (hafter : after = s.withItems [.bank n t k cs]) (hrates : ∀ m ∈ after.boundPoints, rateBreaks s.configured after m = false)
    (hcapacity : capacityFails s.configured after = false) :
    s.tryLoadBank n t k cs bytes = .ok (s.bankLoaded n t k cs (s.mustClimb after.load && decide (s.configured.load < after.load)),
      s.bankReport n bytes) := by
  subst hafter
  have hsteady : (s.withItems [.bank n t k cs]).boundPoints.any (rateBreaks s.configured (s.withItems [.bank n t k cs])) = false :=
    List.any_eq_false.2 fun m hm => Bool.eq_false_iff.1 (hrates m hm)
  simp only [State.tryLoadBank, hidle, hsteady, hcapacity, List.isEmpty_nil, Bool.not_false, need_true, except_ok_bind]
  rfl

theorem cmdLoadFirBank_ok {x : State × List Byte} (hlen : r.params.length = 8 + 3 * fieldAt r 2 2) (hbank : byteAt r 0 ≤ 15)
    (hk : within 1 5 (byteAt r 1) = true) (htaps : within 1 320 (fieldAt r 2 2) = true) (hzero : isZero r.params 4 4 = true)
    (hpriv : needPriv s r 0x0106 = .ok ()) (hlife : s.life ≠ .retired) (hmode : s.mode.mode.responding = true)
    (hsealed : s.life = .sealed → s.configured.bankInUse (byteAt r 0) = false)
    (hload : s.tryLoadBank (byteAt r 0) (fieldAt r 2 2) (byteAt r 1) (readCoeff (r.params.drop 8) (fieldAt r 2 2)) (r.params.drop 8)
      = .ok x) :
    cmdLoadFirBank s r = .ok (x.1.replyOk r x.2) := by
  have hform : (decide (8 ≤ r.params.length) && decide (byteAt r 0 ≤ 15) && within 1 5 (byteAt r 1) && within 1 320 (fieldAt r 2 2)
      && r.params.length == 8 + 3 * fieldAt r 2 2) = true := by
    simp [hlen, hbank, hk, htaps]
  have hunsealed : (!(s.life == .sealed && s.configured.bankInUse (byteAt r 0))) = true := by
    cases hin : s.configured.bankInUse (byteAt r 0) with
    | false => rw [Bool.and_false, Bool.not_false]
    | true =>
      have hopen : (s.life == .sealed) = false :=
        beq_eq_false_iff_ne.2 fun h => nomatch hin.symm.trans (hsealed h)
      rw [hopen, Bool.false_and, Bool.not_false]
  simp only [cmdLoadFirBank, hform, hunsealed, reserved_ok hzero, hpriv, notRetired_ok hlife, modeAll_ok hmode, hload, need_true,
    except_ok_bind]

/-! ## SET_BALANCE_GROUP (R270) -/

/-- The setting that SET_BALANCE_GROUP gives a group. -/
def balanceAsked (r : Request) : BalSetting :=
  { window := byteAt r 1, ref := byteAt r 2, ppm := fieldAt r 4 4, fix := fieldAt r 8 4, members := BitVec.ofNat 256 (fieldAt r 12 32) }

/-- Group g with a setting that waits for its next window; a group without a window waits for the end of one of the new length. -/
def State.groupAsked (s : State) (g : Nat) (x : BalSetting) : State :=
  (s.onGroup g fun b => { b with
    next := some x
    windowEnd := if (s.groups.getD g {}).set.window = 0 then windowEndAfter x.window s.time else b.windowEnd }).configWrite

theorem cmdSetBalanceGroup_ok {x : BalSetting} (hx : x = balanceAsked r) (hlen : r.params.length = 44) (hgroup : byteAt r 0 ≤ 15)
    (hwindow : x.window ∈ ([0, 1, 2, 3, 4, 5, 6, 10, 12, 15, 20, 30, 60] : List Nat)) (hppm : x.ppm ≤ 200000)
    (hzero : isZero r.params 3 1 = true) (hpoint : x.ref < s.nMp) (hmask : needMask s x.members.toNat = .ok ())
    (hpriv : needPriv s r 0x0205 = .ok ()) (hmode : modeNoCal s = .ok ()) (href : ∃ b, (s.point x.ref).bind = some b ∧ b.isRef = true)
    (hmembers : ∀ m ∈ bitsSet x.members.toNat 256, (s.point m).bind.isSome = true) (hother : x.members.getLsbD x.ref = false) :
    cmdSetBalanceGroup s r = .ok ((s.groupAsked (byteAt r 0) x).replyOk r []) := by
  subst hx
  obtain ⟨b, hbind, hisRef⟩ := href
  have hlisted := List.contains_iff_mem.2 hwindow
  have hbound : ((bitsSet (balanceAsked r).members.toNat 256).all fun m => (s.point m).bind.isSome) = true :=
    List.all_eq_true.2 hmembers
  simp only [balanceAsked] at hlisted hppm hpoint hmask hbind hbound hother
  simp only [cmdSetBalanceGroup, len_ok hlen, hgroup, hlisted, hppm, reserved_ok hzero, needPoint_ok hpoint, hmask, hpriv, hmode,
    hbind, hisRef, hbound, hother, decide_true, Bool.and_self, Bool.not_false, need_true, except_ok_bind]
  rfl

/-! ## PULSE_ASSIGN (R267) -/

/-- Output o with an assignment that waits for the round boundary. -/
def State.pulseAsked (s : State) (o : Nat) (a : Nat × Nat × Nat × Nat) : State :=
  (s.onPulse o fun x => { x with next := some a }).configWrite

theorem cmdPulseAssign_ok (hlen : r.params.length = 8) (hout : byteAt r 0 ≤ 7) (hquantity : byteAt r 2 ≤ 28 ∨ byteAt r 2 = 0xFF)
    (hwidth : byteAt r 3 = 0 ∨ 10 ≤ byteAt r 3 ∧ byteAt r 3 ≤ 80) (hconstant : within 1 1000000 (fieldAt r 4 4) = true)
    (hpoint : byteAt r 1 < s.nMp) (hpriv : needPriv s r 0x0206 = .ok ()) (hmode : s.mode.mode.responding = true)
    (hbound : (s.point (byteAt r 1)).bind.isSome = true) :
    cmdPulseAssign s r = .ok
      ((s.pulseAsked (byteAt r 0) (byteAt r 1, byteAt r 2, byteAt r 3, fieldAt r 4 4)).replyOk r (sample8 s.nextRound)) := by
  have hform : (decide (byteAt r 0 ≤ 7) && (decide (byteAt r 2 ≤ 28) || byteAt r 2 == 0xFF)
      && (byteAt r 3 == 0 || within 10 80 (byteAt r 3)) && within 1 1000000 (fieldAt r 4 4)) = true := by
    rw [hconstant]
    simp [hout, hquantity, hwidth, within]
  simp only [cmdPulseAssign, len_ok hlen, hform, needPoint_ok hpoint, hpriv, modeAll_ok hmode, hbound, need_true, except_ok_bind]
  rfl

/-! ## The statement -/

/-- Settles O30: each command passes its checks, and the setting it leaves waiting is no window of R457. -/
theorem engineSettingsComplete : Obligations.EngineSettingsComplete := by
  refine ⟨?bank, ?group, ?pulse⟩
  case bank =>
    intro s r n k t cs after wait x hasked hn hk ht hlen hbank hk1 hk5 ht1 ht320 hzero hlife hsealed hcs hidle hafter hrates hcapacity
      hwait hx
    subst hn hk ht hcs hwait hx
    obtain ⟨htakes, hpriv, hmode⟩ := hasked
    have hload := State.tryLoadBank_ok (r.params.drop 8) hidle hafter hrates hcapacity
    have hok := cmdLoadFirBank_ok hlen hbank (within_ok hk1 hk5) (within_ok ht1 ht320) hzero hpriv hlife hmode hsealed hload
    exact exec_of_sealSt_eq rfl htakes rfl hok (by decide) (by simp)
  case group =>
    intro s r g w x htakes hlen hg hw hx hgroup hwindow hppm hzero hpoint hmask hpriv hmode href hmembers hother
    subst hg hw hx
    have hok := cmdSetBalanceGroup_ok rfl hlen hgroup hwindow hppm hzero hpoint hmask hpriv hmode href hmembers hother
    exact exec_of_sealSt_eq rfl htakes rfl hok (by decide) (by rw [State.replyOk_security]; rfl)
  case pulse =>
    intro s r o m q w k hasked hlen ho hm hq hw hk hout hquantity hwidth hk1 hk2 hpoint hbound
    subst ho hm hq hw hk
    obtain ⟨htakes, hpriv, hmode⟩ := hasked
    have hok := cmdPulseAssign_ok hlen hout hquantity hwidth (within_ok hk1 hk2) hpoint hpriv hmode hbound
    exact exec_of_sealSt_eq rfl htakes rfl hok (by decide) (by rw [State.replyOk_security]; rfl)

end Sys2Proof.Machine
end

section
/-! SUPPORT. The events of the engine and of energy where they are due (spec/08_engine.md R217, R229, R230, spec/09_energy.md R257,
R259, R269, R271, spec/10_power_quality.md R276, spec/12_prepayment.md R353). -/
namespace Sys2Proof.Machine

variable {s : State}

/-! ## The round boundary (R217, R21) -/

/-- The clock's slot is the sample index. -/
theorem State.onClock_now (s : State) (f : Clock → Clock) : (s.onClock f).now = (f s.clock).slot := rfl

/-- A round boundary works at the slot that the clock shows, and does not move it. -/
theorem State.roundBoundary_now (s : State) (a : RoundInput) : (s.roundBoundary a).now = s.now :=
  (State.roundBoundary_same s a).slot (by decide)

/-- The requests whose turn has come do not move the sample index. -/
theorem State.drain_now (s : State) : s.drain.now = s.now := (State.drain_same s).slot (by decide)

theorem State.nextBoundary_of_reference (hmet : s.metering = true) (hgood : s.clock.refLost = false) (a : RoundInput) :
    s.nextBoundary a = (s.onClock fun c => { c with slot := s.nextRound }).roundBoundary a := by
  simp only [State.nextBoundary, hmet, hgood, Bool.true_eq_false, Bool.false_eq_true, if_false]

/-- While the reference is lost, a boundary that the index has passed is run at its own slot. -/
theorem State.nextBoundary_of_lost (hmet : s.metering = true) (hlost : s.clock.refLost = true)
    (hpassed : s.engine.runAhead < s.now / 256 * 256) (a : RoundInput) :
    s.nextBoundary a = ((s.onClock fun c => { c with slot := s.now / 256 * 256 }).roundBoundary a).onClock
      fun c => { c with slot := s.now } := by
  simp only [State.nextBoundary, hmet, hlost, Nat.not_le.2 hpassed, Bool.true_eq_false, if_true, if_false]

/-! ## A segment of Q8 (R257, R259) -/

section Segment

variable {us : List (Nat × Nat)} {ws : List QWord} {t : State} (hlen : 8 ≤ s.q8.length) (hws : ws = crossing 64 us (s.q8.take 8))
  (ht : t = (s.onQ8 fun q => q.drop 8).poisonedN 8 (ws.filter fun w => w.poison).length)
include hlen hws ht

theorem State.takeSegment_of_unnamed (hnone : t.salvage ws = none) : s.takeSegment us = t := by
  subst hws ht
  simp only [State.takeSegment, if_neg (Nat.not_lt.2 hlen), hnone]

theorem State.takeSegment_of_bound {r : SegRec} {f : Bool} {b : Binding} (hsome : t.salvage ws = some (r, f))
    (hbind : (t.point r.mp).bind = some b) :
    s.takeSegment us = if (t.point r.mp).covers r then t
      else ((if f then t.countFilled else t).fillGap r b).applySegment r b := by
  subst hws ht
  simp only [State.takeSegment, if_neg (Nat.not_lt.2 hlen), hsome, hbind]

end Segment

/-! ## The absence of crossings (R276) -/

theorem State.chan_onChan {c : Nat} (hc : c < s.channels.length) (f : Channel → Channel) : (s.onChan c f).chan c = f (s.chan c) :=
  upd_getD _ _ _ _ hc

/-- A gate reference without a provisional crossing enters NO_CROSSING 3 200 slots after its last confirmed one. -/
theorem execNoCrossing_of_quiet {c : Nat} (hrole : (s.chan c).set.role = 1) (hcross : (s.chan c).noCross = false)
    (hmet : s.metering = true) (hprov : (s.chan c).provisional = none) (hquiet : (s.chan c).quietFrom + 3200 ≤ s.now) :
    execNoCrossing c s = .next (s.onChan c fun h => { h with noCross := true, nextGate := s.gatesStart c }) := by
  simp only [execNoCrossing, hrole, hcross, hmet, hprov, Nat.not_lt.2 hquiet, ne_eq, not_true_eq_false, Bool.false_eq_true,
    Bool.true_eq_false, or_self, if_false]

/-! ## The commit of a cycle (R229, R230) -/

section Commit

variable {m fin : Nat} {b : Binding} {x : PendSlot} (hbind : (s.point m).bind = some b)
  (holdest : (s.point m).slots.head? = some x) (hclosed : x.close = some fin) (hstore : s.storeOn = true) (hroom : 32 ≤ s.q8Room)
include hbind holdest hclosed hstore hroom

/-- In lean metering the oldest closed cycle commits as soon as its outputs are computed. -/
theorem execCycleCommit_of_lean (hlean : s.power.lean = true) (hready : fin ≤ s.pointReady b) (hcomplete : x.complete fin = true) :
    execCycleCommit m s = .next (s.commitSlot m b x fin) := by
  simp only [execCycleCommit, hbind, holdest, hclosed, hstore, hroom, hlean, hready, hcomplete, decide_true, Bool.and_self, if_true]

/-- Otherwise it commits from its horizon on, once its crossing stands and nothing of it is computed again. -/
theorem execCycleCommit_of_horizon (hlean : s.power.lean = false) (hnow : x.horizon fin ≤ s.now)
    (hready : x.horizon fin ≤ s.pointReady b) (hprovis : x.provis = false) (hcomplete : x.complete fin = true)
    (hredo : s.redoPending m x.cycle = false) : execCycleCommit m s = .next (s.commitSlot m b x fin) := by
  simp only [execCycleCommit, hbind, holdest, hclosed, hstore, hroom, hlean, hnow, hready, hprovis, hcomplete, hredo, decide_true,
    Bool.and_self, Bool.not_false, Bool.false_eq_true, if_true, if_false]

theorem State.commitDeadline_of_late (hlate : fin + 3072 ≤ s.now) :
    s.commitDeadline m = s.commitSlot m b (s.completeSlot b m x fin) fin := by
  simp only [State.commitDeadline, hbind, holdest, hclosed, hstore, hroom, hlate, decide_true, Bool.and_self, if_true]

end Commit

/-! ## The edges of a pulse output (R269) -/

theorem execPulseEdge_of_due {o : Nat} {e : PulseEdge} {r : List PulseEdge} (ho : o < s.pulses.length)
    (hedges : (s.pulses.getD o {}).edges = e :: r) (hdue : e.at_ < s.nextRound) :
    ∃ t, execPulseEdge o s = .next t ∧ Same partPulses s t
      ∧ (t.pulses.getD o {}).level = e.rising ∧ (t.pulses.getD o {}).edges = r := by
  refine ⟨_, rfl, State.onPulse_same s o _, ?_⟩
  simp only [State.onPulse_pulses, upd_getD _ _ _ _ ho, hedges, if_pos hdue, and_self]

/-! ## The end of a balance window (R271) -/

/-- A window that has ended waits until its points have committed past its end, and at most 100 ms. -/
theorem execBalanceWindow_of_ended {g fin : Nat} {x : Balance} (hx : x = s.groups.getD g {}) (hstore : s.storeOn = true)
    (hset : x.set.window ≠ 0 ∨ x.next.isSome = true) (hfin : fin = x.cut.getD (s.instantOf x.windowEnd)) (hended : fin ≤ s.now)
    (hready : (∀ m ∈ s.boundPoints, x.set.involves m = true → fin ≤ (s.point m).sEnd) ∨ fin + 12800 ≤ s.now) :
    execBalanceWindow g s = .next (if x.set.window = 0 then s.nextWindow g else (s.evaluateWindow g).nextWindow g) := by
  have hon : ¬(s.storeOn = false ∨ (x.set.window = 0 ∧ x.next.isNone = true)) := by
    rintro (hoff | ⟨hzero, hnone⟩)
    · exact Bool.false_ne_true (hoff.symm.trans hstore)
    · obtain hwindow | hnext := hset
      · exact hwindow hzero
      · rw [Option.isNone_iff_eq_none.1 hnone, Option.isSome_none] at hnext
        exact Bool.false_ne_true hnext
  have hdue : ¬(s.now < fin ∨ (((s.boundPoints.filter fun m => x.set.involves m).all fun m => decide (fin ≤ (s.point m).sEnd)) = false
      ∧ s.now < fin + 12800)) := by
    rintro (hearly | ⟨hbehind, hearly⟩)
    · exact Nat.not_lt.2 hended hearly
    · obtain hpast | hlate := hready
      · obtain ⟨m, hm, hshort⟩ := List.all_eq_false.1 hbehind
        obtain ⟨hbound, hinvolved⟩ := List.mem_filter.1 hm
        exact hshort (decide_eq_true (hpast m hbound hinvolved))
      · exact Nat.not_lt.2 hlate hearly
  subst hx
  cases hcut : (s.groups.getD g {}).cut with
  | some c =>
    obtain rfl : fin = c := by rw [hfin, hcut, Option.getD_some]
    simp only [execBalanceWindow, if_neg hon, hcut, if_neg hdue]
  | none =>
    obtain rfl : fin = s.instantOf (s.groups.getD g {}).windowEnd := by rw [hfin, hcut, Option.getD_none]
    simp only [execBalanceWindow, if_neg hon, hcut, if_neg hdue]

/-! ## The statement -/

/-- Settles O53: each row's condition holds, and the row answers the state that its rule gives. -/
theorem meteringEventsComplete : Obligations.MeteringEventsComplete := by
  refine ⟨?boundary, ?segment, ?noCrossing, ?commit, ?pulse, ?window, ?tokens⟩
  case boundary =>
    intro s a hmet
    refine ⟨fun hgood => ?_, fun hlost hpassed => ?_⟩
    · have hrun : exec (.roundBoundary a) s = .next _ :=
        congrArg (Host.Outcome.next ∘ State.drain) (State.nextBoundary_of_reference hmet hgood a)
      refine ⟨_, hrun, ?_, rfl⟩
      rw [State.drain_now, State.roundBoundary_now, State.onClock_now]
    · have hrun : exec (.roundBoundary a) s = .next _ :=
        congrArg (Host.Outcome.next ∘ State.drain) (State.nextBoundary_of_lost hmet hlost hpassed a)
      refine ⟨_, hrun, ?_, rfl⟩
      rw [State.drain_now, State.onClock_now]
  case segment =>
    intro s us ws t hlen hws ht
    refine ⟨fun hnone => ?_, fun r f b hsome hbind => ?_⟩
    · exact congrArg (Host.Outcome.next ∘ State.drain) (State.takeSegment_of_unnamed hlen hws ht hnone)
    · exact congrArg (Host.Outcome.next ∘ State.drain) (State.takeSegment_of_bound hlen hws ht hsome hbind)
  case noCrossing =>
    intro s c hrole hcross hmet hprov hquiet hc
    have hrun := execNoCrossing_of_quiet hrole hcross hmet hprov hquiet
    refine ⟨_, hrun, ?_, State.onChan_same s c _, ?_⟩ <;> rw [State.chan_onChan hc]
  case commit =>
    intro s m b x fin hbind holdest hclosed hstore hroom
    refine ⟨fun hlean hready hcomplete => ?_, fun hlean hnow hready hprovis hcomplete hredo => ?_, fun hlate => ?_⟩
    · exact execCycleCommit_of_lean hbind holdest hclosed hstore hroom hlean hready hcomplete
    · exact execCycleCommit_of_horizon hbind holdest hclosed hstore hroom hlean hnow hready hprovis hcomplete hredo
    · exact congrArg Host.Outcome.next (State.commitDeadline_of_late hbind holdest hclosed hstore hroom hlate)
  case pulse => exact fun s o e r => execPulseEdge_of_due
  case window => exact fun s g x fin => execBalanceWindow_of_ended
  case tokens =>
    intro s hmet
    have hrun : exec .tokenApply s = .next _ := congrArg Host.Outcome.next (if_pos hmet)
    exact ⟨_, hrun, rfl, (execTokenApply_same s _ hrun).mono (by decide)⟩

end Sys2Proof.Machine
end

section
/-! SUPPORT. The commands that read one record for each unit (spec/09_energy.md R272, R273; spec/10_power_quality.md R297;
spec/12_prepayment.md R356). -/
namespace Sys2Proof.Machine

variable {s : State} {r : Request}

/-! ## One record for each unit -/

/-- The reply of n units from the first: their number, then the record f of each. -/
def unitRecords (first n : Nat) (f : Nat → List Byte) : List Byte :=
  le 2 n ++ zeros 6 ++ ((List.range n).map fun i => f (first + i)).flatten

/-- The n units from the first are channels that are present, none of them on a retired island. -/
def State.ChannelsReady (s : State) (first n : Nat) : Prop :=
  first + n ≤ s.nChan ∧ ∀ i < n, (s.isl ((first + i) / 64)).retired = false

theorem State.ChannelsReady.needChans_ok {first n : Nat} (h : s.ChannelsReady first n) :
    needChans s ((List.range n).map fun i => first + i) = .ok () := by
  obtain ⟨hpresent, hactive⟩ := h
  refine Machine.needChans_ok (fun c hc => ?_) (fun c hc => ?_) <;> obtain ⟨i, hi, rfl⟩ := List.mem_map.1 hc
  · have := List.mem_range.1 hi
    omega
  · exact hactive i (List.mem_range.1 hi)

theorem needChans_nil : needChans s [] = .ok () := rfl

/-- A request that is taken at once, and whose command only replies. -/
theorem exec_of_reply {i : Instr} {op : Nat} {f : State → Request → Except Deny State} {payload : List Byte}
    (hrow : requestOf i = some (op, r)) (htakes : Takes s r) (hf : commandOf op = some f) (hop : op / 256 ≠ 7)
    (hok : f s r = .ok (s.replyOk r payload)) : exec i s = .next (s.replyOk r payload) :=
  exec_of_sealSt_eq hrow htakes hf hok hop (by rw [State.replyOk_security])

/-! ## READ_REGISTERS (R272) and READ_CREDIT (R356) -/

theorem cmdReadRegisters_ok {first n : Nat} (hasked : Asked s r 0x0203) (hlen : r.params.length = 4)
    (hzero : isZero r.params 2 2 = true) (hfirst : byteAt r 0 = first) (hn : byteAt r 1 = n) (hcount : within 1 12 n = true)
    (hend : first + n ≤ 256) (hpresent : first + n ≤ s.nMp) :
    cmdReadRegisters s r = .ok (s.replyOk r (unitRecords first n s.registerRecord)) := by
  obtain ⟨-, hpriv, hmode⟩ := hasked
  simp only [cmdReadRegisters, len_ok hlen, reserved_ok hzero, hfirst, hn, hcount, hend, hpresent, hpriv, modeResp_ok hmode,
    decide_true, Bool.and_self, need_true, except_ok_bind, unitRecords]

theorem cmdReadCredit_ok {first n : Nat} (hasked : Asked s r 0x0402) (hlen : r.params.length = 4)
    (hzero : isZero r.params 2 2 = true) (hfirst : byteAt r 0 = first) (hn : byteAt r 1 = n) (hcount : within 1 63 n = true)
    (hend : first + n ≤ 256) (hpresent : first + n ≤ s.nMp) :
    cmdReadCredit s r = .ok (s.replyOk r (unitRecords first n s.creditRecord)) := by
  obtain ⟨-, hpriv, hmode⟩ := hasked
  simp only [cmdReadCredit, len_ok hlen, reserved_ok hzero, hfirst, hn, hcount, hend, hpresent, hpriv, modeResp_ok hmode,
    decide_true, Bool.and_self, need_true, except_ok_bind, unitRecords]

/-! ## READ_INSTANT (R273) -/

section Instant
variable {first n : Nat} (hasked : Asked s r 0x0204) (hlen : r.params.length = 4) (hn : byteAt r 1 = n)
  (hfirst : fieldAt r 2 2 = first) (hcount : within 1 126 n = true)
include hasked hlen hn hfirst hcount

theorem cmdReadInstant_channels (hkind : byteAt r 0 = 0) (hend : first + n ≤ 512) (hready : s.ChannelsReady first n) :
    cmdReadInstant s r = .ok (s.replyOk r (unitRecords first n s.channelInstant)) := by
  obtain ⟨-, hpriv, hmode⟩ := hasked
  simp only [cmdReadInstant, len_ok hlen, hkind, hn, hfirst, hcount, hend, hready.1, hready.needChans_ok, hpriv, modeResp_ok hmode,
    Nat.zero_le, if_true, decide_true, Bool.and_self, need_true, except_ok_bind, unitRecords]

theorem cmdReadInstant_points (hkind : byteAt r 0 = 1) (hend : first + n ≤ 256) (hpresent : first + n ≤ s.nMp) :
    cmdReadInstant s r = .ok (s.replyOk r (unitRecords first n s.pointInstant)) := by
  obtain ⟨-, hpriv, hmode⟩ := hasked
  simp only [cmdReadInstant, len_ok hlen, hkind, hn, hfirst, hcount, hend, hpresent, needChans_nil, hpriv, modeResp_ok hmode,
    Nat.one_le_ofNat, Nat.one_ne_zero, if_true, if_false, decide_true, Bool.and_self, need_true, except_ok_bind, unitRecords]

theorem cmdReadInstant_pulses (hkind : byteAt r 0 = 2) (hend : first + n ≤ 8) :
    cmdReadInstant s r = .ok (s.replyOk r (unitRecords first n s.pulseInstant)) := by
  obtain ⟨-, hpriv, hmode⟩ := hasked
  simp only [cmdReadInstant, len_ok hlen, hkind, hn, hfirst, hcount, hend, needChans_nil, hpriv, modeResp_ok hmode, Nat.le_refl,
    OfNat.ofNat_ne_zero, OfNat.ofNat_ne_one, if_false, decide_true, Bool.and_self, need_true, except_ok_bind, unitRecords]

end Instant

/-! ## READ_PQ (R297) -/

section Quality
variable {first n : Nat} (hasked : Asked s r 0x0601) (hlen : r.params.length = 4) (hn : byteAt r 1 = n)
  (hfirst : fieldAt r 2 2 = first) (hcount : within 1 126 n = true)
include hasked hlen hn hfirst hcount

theorem cmdReadPq_channels (hkind : byteAt r 0 = 0) (hend : first + n ≤ 512) (hready : s.ChannelsReady first n) :
    cmdReadPq s r = .ok (s.replyOk r (unitRecords first n s.pqChannel)) := by
  obtain ⟨-, hpriv, hmode⟩ := hasked
  simp only [cmdReadPq, len_ok hlen, hkind, hn, hfirst, hcount, hend, hready.1, hready.needChans_ok, hpriv, modeResp_ok hmode,
    Nat.zero_le, if_true, decide_true, Bool.and_self, need_true, except_ok_bind, unitRecords]

theorem cmdReadPq_points (hkind : byteAt r 0 = 1) (hend : first + n ≤ 256) (hpresent : first + n ≤ s.nMp) :
    cmdReadPq s r = .ok (s.replyOk r (unitRecords first n s.pqPoint)) := by
  obtain ⟨-, hpriv, hmode⟩ := hasked
  simp only [cmdReadPq, len_ok hlen, hkind, hn, hfirst, hcount, hend, hpresent, needChans_nil, hpriv, modeResp_ok hmode,
    Nat.le_refl, Nat.one_ne_zero, if_false, decide_true, Bool.and_self, need_true, except_ok_bind, unitRecords]

end Quality

/-! ## The statement -/

/-- Settles O24: each command passes its checks for each kind of unit, and its answer differs from the state by the reply alone. -/
theorem unitReadsComplete : Obligations.UnitReadsComplete := by
  refine ⟨?registers, ?instant, ?credit, ?quality⟩
  case registers =>
    intro s r first n hasked hlen hzero hfirst hn h1 h12 hend hpresent
    exact exec_of_reply rfl hasked.1 rfl (by decide)
      (cmdReadRegisters_ok hasked hlen hzero hfirst.symm hn.symm (within_ok h1 h12) hend hpresent)
  case instant =>
    intro s r k first n f hasked hlen hk hn hfirst h1 h126 hkind
    subst hk
    have hcount := within_ok h1 h126
    refine exec_of_reply rfl hasked.1 rfl (by decide) ?_
    obtain ⟨hkind, hend, hready⟩ | ⟨hkind, hend, hpresent, rfl⟩ | ⟨hkind, hend, rfl⟩ := hkind
    · obtain ⟨hpresent, hactive, rfl⟩ := hready
      exact cmdReadInstant_channels hasked hlen hn.symm hfirst.symm hcount hkind hend ⟨hpresent, hactive⟩
    · exact cmdReadInstant_points hasked hlen hn.symm hfirst.symm hcount hkind hend hpresent
    · exact cmdReadInstant_pulses hasked hlen hn.symm hfirst.symm hcount hkind hend
  case credit =>
    intro s r first n hasked hlen hzero hfirst hn h1 h63 hend hpresent
    exact exec_of_reply rfl hasked.1 rfl (by decide)
      (cmdReadCredit_ok hasked hlen hzero hfirst.symm hn.symm (within_ok h1 h63) hend hpresent)
  case quality =>
    intro s r k first n f hasked hlen hk hn hfirst h1 h126 hkind
    subst hk
    have hcount := within_ok h1 h126
    refine exec_of_reply rfl hasked.1 rfl (by decide) ?_
    obtain ⟨hkind, hend, hpresent, hactive, rfl⟩ | ⟨hkind, hend, hpresent, rfl⟩ := hkind
    · exact cmdReadPq_channels hasked hlen hn.symm hfirst.symm hcount hkind hend ⟨hpresent, hactive⟩
    · exact cmdReadPq_points hasked hlen hn.symm hfirst.symm hcount hkind hend hpresent

end Sys2Proof.Machine
end

section
/-! SUPPORT. Binding and unbinding of points (spec/09_energy.md R245, R246, R248, R249; spec/08_engine.md R222). -/
namespace Sys2Proof.Machine

variable {s s5 : State} {r : Request} {auth : List Byte} {m : Nat} {b : Binding}

/-- What a command answers behind a check that passes. A check that writes out a `match` is met here up to definition, which `simp`
does not do. -/
theorem bind_of_ok {α β : Type} {x : Except Deny α} {a : α} {f : α → Except Deny β} (h : x = .ok a) :
    (x >>= f) = f a := by
  rw [h]
  rfl

/-! ## What BIND_MP asks for (R245, R248) -/

/-- The channels that BIND_MP names: V1 to V3, I1 to I3 and N. -/
def bindChans (r : Request) : List Nat := (List.range 7).map fun i => fieldAt r (4 + 2 * i) 2

/-- The binding that BIND_MP asks for, from the next round boundary. -/
def State.bindingAsked (s : State) (r : Request) : Binding :=
  { type := byteAt r 1, flags := byteAt r 2, plan := byteAt r 3, ch := bindChans r, mpId := sub r.params 20 16
    seq := s.bindSeq + 1, start := s.nextRound, time := s.timeOf s.nextRound }

/-- The operands of BIND_MP pass orders 3 and 4 of R112. -/
structure BindForm (s : State) (r : Request) : Prop where
  type : byteAt r 1 ≤ 2
  flags : byteAt r 2 < 4
  plan : byteAt r 3 ≤ 3
  zero : isZero r.params 18 2 = true
  point : byteAt r 0 < s.nMp
  chans : ∀ c ∈ bindChans r, c = 0xFFFF ∨ c < 512 ∧ c < s.nChan ∧ (s.isl (c / 64)).retired = false

theorem BindForm.check (h : BindForm s r) : (decide (byteAt r 1 ≤ 2) && decide (byteAt r 2 < 4) && decide (byteAt r 3 ≤ 3)
    && (bindChans r).all fun c => c == 0xFFFF || decide (c < 512)) = true := by
  have hchans : ((bindChans r).all fun c => c == 0xFFFF || decide (c < 512)) = true := List.all_eq_true.2 fun c hc => by
    obtain hnone | ⟨hlt, -⟩ := h.chans c hc
    · simp [hnone]
    · simp [hlt]
  rw [hchans]
  simp [h.type, h.flags, h.plan]

theorem BindForm.needChans_ok (h : BindForm s r) : needChans s ((bindChans r).filter fun c => c != 0xFFFF) = .ok () := by
  have hnamed (c : Nat) (hc : c ∈ (bindChans r).filter fun c => c != 0xFFFF) :
      c < s.nChan ∧ (s.isl (c / 64)).retired = false := by
    obtain ⟨hmem, hne⟩ := List.mem_filter.1 hc
    obtain ⟨-, hready⟩ := (h.chans c hmem).resolve_left (bne_iff_ne.1 hne)
    exact hready
  exact Machine.needChans_ok (fun c hc => (hnamed c hc).1) fun c hc => (hnamed c hc).2

/-! ## Whether a binding fits (R246, R248) -/

/-- Point m with a binding, all else as before: the configuration that the checks of order 8 try. -/
def State.tryBinding (s : State) (m : Nat) (b : Binding) : State := s.onPoint m fun p => { p with bind := some b }

/-- The bound points of a binding's kind: reference points or billing points. -/
def State.boundLike (s : State) (b : Binding) : List Nat :=
  s.boundPoints.filter fun k => match (s.point k).bind with
    | some y => y.isRef == b.isRef
    | none => false

/-- The checks of order 8: point and channels are free, and the configuration can take the binding. -/
structure BindFits (s : State) (m : Nat) (b : Binding) : Prop where
  free : (s.point m).bind = none
  untaken : ((b.ch.drop 3).any fun c => c != 0xFFFF && s.bound c) = false
  roles : s.configured.bindingOk b = true
  rates : (s.configured.tryBinding m b).ratesOk m = true
  count : ((s.configured.tryBinding m b).boundLike b).length ≤ if b.isRef then s.refMax else s.billMax
  capacity : capacityFails s.configured (s.configured.tryBinding m b) = false

theorem BindFits.idle (h : BindFits s m b) :
    ((s.point m).bind.isNone && !(b.ch.drop 3).any fun c => c != 0xFFFF && s.bound c) = true := by
  rw [h.free, h.untaken]
  rfl

theorem BindFits.room (h : BindFits s m b) :
    (decide (((s.configured.tryBinding m b).boundLike b).length ≤ if b.isRef then s.refMax else s.billMax)
      && !capacityFails s.configured (s.configured.tryBinding m b)) = true := by
  rw [decide_eq_true h.count, h.capacity]
  rfl

/-! ## What BIND_MP answers (R222, R248) -/

/-- Point m newly bound in the state s5 that the authorisation leaves, its rate and its day as the state s before it has them. -/
def State.newlyBound (s s5 : State) (m : Nat) (b : Binding) : State :=
  (((s5.onPoint m fun p => p.rebind b (s.plan b.plan).rate (s.plan b.plan).friendly (s.standardMin b.time / 1440)).setBindSeq
    b.seq).configWrite).initialCauses m b

/-- The first two fields of the reply: SEQ, and the load with the binding. -/
def bindReport (b : Binding) (after : State) : List Byte := le 4 b.seq ++ le 4 (after.load / 1000)

/-- START and the reply wait until the loop has climbed (R222, log entry 54). -/
def State.awaitClimb (s : State) (m : Nat) (r : Request) (out : List Byte) : State :=
  ((s.onPoint m fun p => { p with bind := p.bind.map fun b => { b with start := 2 ^ 56 - 1 } }).replyOk r out .round).onEngine
    fun e => { e with loopBinds := e.loopBinds ++ [(m, r.port)] }

/-- The answer on a state with the binding, where `after` is the configuration that the loop has to hold. -/
def State.bindAnswer (s : State) (m : Nat) (r : Request) (b : Binding) (after : State) : State :=
  if s.mustClimb after.load then s.awaitClimb m r (bindReport b after)
  else (s.gateFrom b).replyOk r (bindReport b after ++ sample8 b.start)

theorem State.bindAnswer_of_held {after : State} (h : s.mustClimb after.load = false) :
    s.bindAnswer m r b after = (s.gateFrom b).replyOk r (bindReport b after ++ sample8 b.start) := if_neg (ne_true_of_eq_false h)

theorem State.bindAnswer_of_climb {after : State} (h : s.mustClimb after.load = true) :
    s.bindAnswer m r b after = s.awaitClimb m r (bindReport b after) := if_pos h

theorem cmdBindMp_ok (hauth : authField r 36 = .ok auth) (hform : BindForm s r)
    (h5 : order5 s s.time r 0x0201 s.opsWhenSealed 36 auth = .ok s5) (hlife : s.life ≠ .retired) (hmode : modeNoCal s = .ok ())
    (hb : b = s.bindingAsked r) (hm : m = byteAt r 0) (hfits : BindFits s m b) :
    cmdBindMp s r = .ok ((s.newlyBound s5 m b).bindAnswer m r b (s.configured.tryBinding m b)) := by
  subst hb hm
  refine (bind_of_ok hauth).trans ?_
  refine (bind_of_ok (need_ok hform.check)).trans ?_
  refine (bind_of_ok (reserved_ok hform.zero)).trans ?_
  refine (bind_of_ok (needPoint_ok hform.point)).trans ?_
  refine (bind_of_ok hform.needChans_ok).trans ?_
  refine (bind_of_ok h5).trans ?_
  refine (bind_of_ok (notRetired_ok hlife)).trans ?_
  refine (bind_of_ok hmode).trans ?_
  refine (bind_of_ok (need_ok hfits.idle)).trans ?_
  refine (bind_of_ok (need_ok hfits.roles)).trans ?_
  refine (bind_of_ok (need_ok hfits.rates)).trans ?_
  refine (bind_of_ok (need_ok hfits.room)).trans ?_
  exact (apply_ite Except.ok ..).symm

/-! ## UNBIND_MP (R249) -/

/-- Whether a setting of a balance group has point m as its reference point. -/
def BalSetting.refersTo (x : BalSetting) (m : Nat) : Bool := x.window != 0 && x.ref == m

theorem BalSetting.refersTo_eq_false {x : BalSetting} (h : x.window = 0 ∨ x.ref ≠ m) : x.refersTo m = false := by
  obtain hoff | hother := h
  · simp [BalSetting.refersTo, hoff]
  · simp [BalSetting.refersTo, hother]

/-- Whether a balance group has, or is to take over, a setting with point m as its reference point. -/
def State.balanceRef (s : State) (m : Nat) : Bool :=
  s.groups.any fun g => g.set.refersTo m || match g.next with
    | some x => x.refersTo m
    | none => false

theorem State.balanceRef_eq_false
    (h : ∀ g ∈ s.groups, (g.set.window = 0 ∨ g.set.ref ≠ m) ∧ ∀ x, g.next = some x → x.window = 0 ∨ x.ref ≠ m) :
    s.balanceRef m = false := by
  refine List.any_eq_false.2 fun g hg => ?_
  obtain ⟨hset, hnext⟩ := h g hg
  rw [BalSetting.refersTo_eq_false hset, Bool.false_or]
  cases hx : g.next with
  | none => exact Bool.false_ne_true
  | some x => exact ne_true_of_eq_false (BalSetting.refersTo_eq_false (hnext x hx))

/-- Point m to be unbound from the next round boundary of state s on. -/
def State.unbinding (s s5 : State) (m : Nat) : State :=
  (s5.onPoint m fun p => { p with unbindAt := some s.nextRound }).configWrite

theorem cmdUnbindMp_ok (hauth : authField r 4 = .ok auth) (hzero : isZero r.params 1 3 = true) (hm : m = byteAt r 0)
    (hpoint : m < s.nMp) (h5 : order5 s s.time r 0x0202 s.opsWhenSealed 4 auth = .ok s5) (hlife : s.life ≠ .retired)
    (hmode : modeNoCal s = .ok ()) (hbind : (s.point m).bind = some b) (hstaying : (s.point m).unbindAt = none)
    (hrefs : s.balanceRef m = false) :
    cmdUnbindMp s r = .ok ((s.unbinding s5 m).replyOk r (le 4 b.seq ++ sample8 s.nextRound)) := by
  have hfree : (!s.balanceRef m && (s.point m).unbindAt.isNone) = true := by
    rw [hrefs, hstaying]
    rfl
  subst hm
  simp only [cmdUnbindMp, hauth, reserved_ok hzero, needPoint_ok hpoint, h5, notRetired_ok hlife, hmode, hbind, except_ok_bind]
  exact bind_of_ok (need_ok hfree)

/-! ## The statement -/

/-- Settles O29: each command passes its checks. The binding that BIND_MP leaves starts at the next round boundary where the loop
holds its load, and waits for the loop where it does not. -/
theorem bindingCommandsComplete : Obligations.BindingCommandsComplete := by
  refine ⟨?bindPoint, ?unbindPoint⟩
  case bindPoint =>
    intro s s5 r auth m ch b after out t htakes hauth hm hpoint hch htype hflags hplan hchans hzero h5 hlife hmode hb hfree huntaken
      hroles hafter hrates hcount hcapacity hout ht
    subst hm hch hout
    obtain rfl : after = s.configured.tryBinding (byteAt r 0) b := hafter
    have hform : BindForm s r := ⟨htype, hflags, hplan, hzero, hpoint, hchans⟩
    have hfits : BindFits s (byteAt r 0) b := ⟨hfree, by rw [hb]; exact huntaken, hroles, hrates, hcount, hcapacity⟩
    have hok := cmdBindMp_ok hauth hform h5 hlife hmode hb rfl hfits
    subst hb
    obtain rfl : t = s.newlyBound s5 (byteAt r 0) (s.bindingAsked r) := ht
    refine ⟨fun hheld => ?_, fun hclimb => ?_⟩
    · exact exec_of_accepted rfl htakes rfl (hok.trans (congrArg Except.ok (State.bindAnswer_of_held hheld)))
    · exact exec_of_accepted rfl htakes rfl (hok.trans (congrArg Except.ok (State.bindAnswer_of_climb hclimb)))
  case unbindPoint =>
    intro s s5 r auth m b htakes hauth hm hpoint hzero h5 hlife hmode hbind hstaying hgroups
    have hrefs := State.balanceRef_eq_false hgroups
    exact exec_of_accepted rfl htakes rfl (cmdUnbindMp_ok hauth hzero hm hpoint h5 hlife hmode hbind hstaying hrefs)

end Sys2Proof.Machine
end

section
/-! SUPPORT. The read of the harmonic results of a channel and of a point (spec/10_power_quality.md R298). -/
namespace Sys2Proof.Machine

/-! ## What READ_HARMONICS replies (R298) -/

/-- The bytes that READ_HARMONICS replies for a channel. -/
def State.channelHarmonics (s : State) (c : Nat) : List Byte :=
  le 2 c ++ le 2 (s.chan c).harm.flags ++ sample8 (s.chan c).harm.windowEnd ++ le 2 (s.chan c).harm.nOut ++ zeros 2
    ++ le 4 (s.chan c).harm.freq ++ le 2 (s.chan c).harm.thd50 ++ le 2 (s.chan c).harm.thd63
    ++ ((List.range 64).map fun h => le 4 ((s.chan c).harm.orders.getD h (0, 0, 0)).1
      ++ le 2 ((s.chan c).harm.orders.getD h (0, 0, 0)).2.1 ++ le 1 ((s.chan c).harm.orders.getD h (0, 0, 0)).2.2
      ++ zeros 1).flatten

/-- The bytes that READ_HARMONICS replies for a point: P_H is the sum of P_h from order 2. -/
def State.pointHarmonics (s : State) (m : Nat) : List Byte :=
  le 1 m ++ zeros 1 ++ le 2 (s.point m).harmFlags ++ sample8 (s.point m).harmEnd
    ++ leI 4 (((List.range 62).map fun h => (s.point m).harmP.getD (h + 2) 0).foldl (· + ·) 0)
    ++ ((List.range 64).map fun h => leI 4 ((s.point m).harmP.getD h 0)).flatten

/-! ## READ_HARMONICS (R298) -/

section Harmonics
variable {s : State} {r : Request} {i : Nat} (hasked : Asked s r 0x0602) (hlen : r.params.length = 4)
  (hzero : isZero r.params 1 1 = true) (hunit : s.hasHarm = true) (hindex : fieldAt r 2 2 = i)
include hasked hlen hzero hunit hindex

theorem cmdReadHarmonics_channel (hkind : byteAt r 0 = 0) (hi : i < 512) (hpresent : i < s.nChan)
    (hactive : (s.isl (i / 64)).retired = false) (henabled : s.harmEnabled i = true) :
    cmdReadHarmonics s r = .ok (s.replyOk r (s.channelHarmonics i)) := by
  obtain ⟨-, hpriv, hmode⟩ := hasked
  have hchan : needChans s [i] = .ok () :=
    needChans_ok (List.forall_mem_singleton.2 hpresent) (List.forall_mem_singleton.2 hactive)
  simp only [cmdReadHarmonics, len_ok hlen, reserved_ok hzero, hunit, hkind, hindex, hi, hpresent, hchan, hpriv, modeResp_ok hmode,
    henabled, Nat.zero_le, if_true, decide_true, Bool.and_self, need_true, except_ok_bind, State.channelHarmonics]

theorem cmdReadHarmonics_point {b : Binding} (hkind : byteAt r 0 = 1) (hi : i < 256) (hpresent : i < s.nMp)
    (hbind : (s.point i).bind = some b) (henabled : ∀ c ∈ b.chans, s.harmEnabled c = true) :
    cmdReadHarmonics s r = .ok (s.replyOk r (s.pointHarmonics i)) := by
  obtain ⟨-, hpriv, hmode⟩ := hasked
  have hall : (b.chans.all fun c => s.harmEnabled c) = true := List.all_eq_true.2 henabled
  simp only [cmdReadHarmonics, len_ok hlen, reserved_ok hzero, hunit, hkind, hindex, hi, hpresent, needChans_nil, hpriv,
    modeResp_ok hmode, hbind, hall, Nat.le_refl, Nat.one_ne_zero, if_false, decide_true, Bool.and_self, need_true, except_ok_bind,
    State.pointHarmonics]

end Harmonics

/-! ## The statement -/

/-- Settles O25: for each kind of unit the command passes its checks, and its answer differs from the state by the reply alone. -/
theorem harmonicReadsComplete : Obligations.HarmonicReadsComplete := by
  intro s r i hasked hlen hzero hunit hindex
  refine ⟨fun hkind hi hpresent hactive henabled => ?channel, fun b hkind hi hpresent hbind henabled => ?point⟩ <;>
    refine exec_of_reply rfl hasked.1 rfl (by decide) ?_
  case channel => exact cmdReadHarmonics_channel hasked hlen hzero hunit hindex.symm hkind hi hpresent hactive henabled
  case point => exact cmdReadHarmonics_point hasked hlen hzero hunit hindex.symm hkind hi hpresent hbind henabled

end Sys2Proof.Machine
end

section
/-! SUPPORT. The commands of waveform capture (spec/10_power_quality.md R291, R292, R299, R300). -/
namespace Sys2Proof.Machine

variable {s : State} {r : Request}

/-! ## What ARM_CAPTURE does (R299) -/

/-- The channels that a request lists for capture. -/
def captureList (r : Request) : List Nat := (List.range (byteAt r 2)).map fun i => fieldAt r (4 + 2 * i) 2

/-- No channel with DISARM or TRIGGER, and 1 to 16 channels without. -/
def captureCountOk (r : Request) : Bool :=
  if bit (byteAt r 0) 0 || bit (byteAt r 0) 3 then byteAt r 2 == 0 else within 1 16 (byteAt r 2)

/-- The operands of ARM_CAPTURE pass orders 3 and 4 of R112, whatever number of channels its flags ask for, and its channels have
roles. -/
structure CaptureForm (s : State) (r : Request) : Prop where
  length : r.params.length = 4 + 2 * byteAt r 2
  flags : byteAt r 0 < 16
  even : byteAt r 1 % 2 = 0
  triggers : byteAt r 1 < 64
  zero : isZero r.params 3 1 = true
  nodup : (captureList r).Nodup
  unit : s.hasCapt = true
  chans : ∀ c ∈ captureList r, c ≤ 511 ∧ c < s.nChan ∧ s.islOn (c / 64) = true ∧ (s.chan c).set.role ≠ 0

/-- The state of the capture lets ARM_CAPTURE pass: not POST, HELD only with FORCE, ARMED for TRIGGER. -/
structure CaptureFree (s : State) (r : Request) : Prop where
  notPost : s.pq.capture.state ≠ .post
  force : s.pq.capture.state = .held → bit (byteAt r 0) 1 = true
  trigger : bit (byteAt r 0) 3 = true → s.pq.capture.state = .armed

theorem CaptureFree.check (h : CaptureFree s r) : (s.pq.capture.state != .post
    && (s.pq.capture.state != .held || bit (byteAt r 0) 1) && (!bit (byteAt r 0) 3 || s.pq.capture.state == .armed)) = true := by
  obtain ⟨hpost, hforce, htrigger⟩ := h
  have hforced : (s.pq.capture.state != .held || bit (byteAt r 0) 1) = true := by
    by_cases hheld : s.pq.capture.state = .held
    · rw [hforce hheld, Bool.or_true]
    · rw [bne_iff_ne.2 hheld, Bool.true_or]
  have harmed : (!bit (byteAt r 0) 3 || s.pq.capture.state == .armed) = true := by
    cases hbit : bit (byteAt r 0) 3 with
    | false => rfl
    | true => rw [htrigger hbit, beq_self_eq_true, Bool.or_true]
  rw [bne_iff_ne.2 hpost, hforced, harmed, Bool.and_self, Bool.and_self]

/-- DISARM: an armed capture is given up, a held one is released. -/
def State.captureDisarmed (s : State) : State :=
  if s.pq.capture.state = .armed then s.onCapture fun c => { c with state := .idle }
  else if s.pq.capture.state = .held then s.onCapture fun c => { seq := c.seq } else s

/-- TRIGGER: the trigger of the host takes the next round boundary. -/
def State.captureTriggered (s : State) : State := s.onCapture fun c => { c with
  state := .post, cause := 0, source := 0xFFFF, trig := nextMul s.now 256, trigTime := s.timeOf (nextMul s.now 256)
  flags := c.flags ||| (2 * b2n (decide (nextMul s.now 256 < c.from_ + 128000))) }

/-- Neither flag: the capture is armed with its list, from the next round boundary. -/
def State.captureArmed (s : State) (r : Request) : State := s.onCapture fun c => {
  state := if s.pq.capture.state = .suspended then .suspended else .armed
  triggers := byteAt r 1, any := bit (byteAt r 0) 2, seq := c.seq, from_ := s.nextRound
  tracks := (captureList r).map fun k =>
    { ch := k, rate := if (s.chan k).set.single then 6 else (s.bank (s.chan k).set.bank).k } }

/-- The capture as the flags of ARM_CAPTURE ask for it: DISARM goes before TRIGGER. -/
def State.captureAsked (s : State) (r : Request) : State :=
  if bit (byteAt r 0) 0 then s.captureDisarmed else if bit (byteAt r 0) 3 then s.captureTriggered else s.captureArmed r

/-- The reply of ARM_CAPTURE: STATE and FROM. -/
def State.captureReply (t : State) (r : Request) : State :=
  t.replyOk r (le 1 t.pq.capture.state.num ++ zeros 3 ++ sample8 t.pq.capture.from_)

theorem State.captureAsked_sealSt (s : State) (r : Request) : (s.captureAsked r).security.sealSt = s.security.sealSt := by
  have hdisarmed : s.captureDisarmed.security = s.security := by
    unfold State.captureDisarmed
    split
    · rfl
    · split <;> rfl
  unfold State.captureAsked
  split
  · rw [hdisarmed]
  · split <;> rfl

theorem cmdArmCapture_ok (hasked : Asked s r 0x0603) (hform : CaptureForm s r) (hfree : CaptureFree s r)
    (hcount : captureCountOk r = true) :
    cmdArmCapture s r = .ok ((s.captureAsked r).captureReply r) := by
  obtain ⟨-, hpriv, hmode⟩ := hasked
  obtain ⟨hlen, hflags, heven, htriggers, hzero, hnodup, hunit, hchans⟩ := hform
  unfold captureCountOk at hcount
  have hsize : (decide (4 ≤ r.params.length) && r.params.length == 4 + 2 * byteAt r 2) = true := by simp [hlen]
  have hall {p : Nat → Bool} (h : ∀ c ∈ captureList r, p c = true) : ((captureList r).all p) = true := List.all_eq_true.2 h
  have hlow := hall fun c hc => decide_eq_true (hchans c hc).1
  have hpresent := hall fun c hc => decide_eq_true (hchans c hc).2.1
  have hon := hall fun c hc => (hchans c hc).2.2.1
  have hroles := hall fun c hc => bne_iff_ne.2 (hchans c hc).2.2.2
  simp only [captureList] at hnodup hlow hpresent hon hroles
  simp only [cmdArmCapture, hsize, flagsWithin_ok (w := 4) hflags, heven, htriggers, hcount, reserved_ok hzero, hnodup, hlow, hunit,
    hpresent, hon, hpriv, modeAll_ok hmode, hroles, hfree.check, beq_self_eq_true, decide_true, Bool.and_self, need_true,
    except_ok_bind, State.captureReply, State.captureAsked, State.captureDisarmed, State.captureTriggered, State.captureArmed,
    captureList]
  cases s.pq.capture.state <;> rfl

/-- ARM_CAPTURE that passes its checks. -/
theorem exec_armCapture_ok (hasked : Asked s r 0x0603) (hform : CaptureForm s r) (hfree : CaptureFree s r)
    (hcount : captureCountOk r = true) :
    exec (.armCapture r) s = .next ((s.captureAsked r).captureReply r) :=
  exec_of_sealSt_eq rfl hasked.1 rfl (cmdArmCapture_ok hasked hform hfree hcount) (by decide)
    (by rw [State.captureReply, State.replyOk_security, State.captureAsked_sealSt])

/-! ## READ_CAPTURE (R292, R300) -/

/-- n bytes of the capture from an offset: the header, and behind it the tracks, where free bytes stand for what nothing has
written. -/
def State.captureBytes (s : State) (off n : Nat) : List Byte :=
  (List.range n).map fun i => if off + i < 256 then s.pq.capture.header.getD (off + i) 0
    else trackByte (s.drawBytes 3).1 s.pq.capture.tracks (off + i - 256)

theorem State.captureBytes_length (s : State) (off n : Nat) : (s.captureBytes off n).length = n := by
  rw [State.captureBytes, List.length_map, List.length_range]

theorem State.captureBytes_getD (s : State) {off n i : Nat} (hi : i < n) (hhead : off + i < 256) :
    (s.captureBytes off n).getD i 0 = s.pq.capture.header.getD (off + i) 0 := by
  rw [State.captureBytes, List.getD_eq_getElem _ _ (by simpa using hi), List.getElem_map, List.getElem_range, if_pos hhead]

/-- READ_CAPTURE within the capture, of the header alone or in HELD: RELEASE takes effect behind the reply. -/
theorem cmdReadCapture_ok {off n : Nat} {t : State} (hasked : Asked s r 0x0604) (hlen : r.params.length = 8)
    (hoff : fieldAt r 0 4 = off) (hn : fieldAt r 4 2 = n) (hcount : within 1 4000 n = true) (hflags : byteAt r 6 < 2)
    (hzero : isZero r.params 7 1 = true) (hunit : s.hasCapt = true)
    (hheld : s.pq.capture.state = .held ∨ off + n ≤ 256 ∧ byteAt r 6 = 0) (hend : off + n ≤ s.pq.capture.length)
    (ht : t = (s.drawBytes 3).2.replyOk r (le 4 off ++ le 2 n ++ s.captureBytes off n)) :
    cmdReadCapture s r = .ok (if bit (byteAt r 6) 0 then t.onCapture fun c => { seq := c.seq } else t) := by
  obtain ⟨-, hpriv, hmode⟩ := hasked
  have hopen : (s.pq.capture.state == .held || (decide (off + n ≤ 256) && byteAt r 6 == 0)) = true := by
    obtain hheld | ⟨hhead, hkeep⟩ := hheld
    · rw [hheld, beq_self_eq_true, Bool.true_or]
    · rw [hkeep, decide_eq_true hhead, beq_self_eq_true, Bool.and_self, Bool.or_true]
  subst ht
  simp only [cmdReadCapture, len_ok hlen, hoff, hn, hcount, flagsWithin_ok (w := 1) hflags, reserved_ok hzero, hunit, hpriv,
    modeResp_ok hmode, hopen, hend, decide_true, need_true, except_ok_bind, State.captureBytes]

/-! ## The statement -/

/-- Settles O35: the three forms of ARM_CAPTURE and READ_CAPTURE pass their checks. A trigger of the host leaves the capture in
POST with the next round boundary as its instant; a read that releases leaves its sequence number alone. -/
theorem captureCommandsComplete : Obligations.CaptureCommandsComplete := by
  refine ⟨?arm, ?read⟩
  case arm =>
    intro s r n cs hasked hn hlen hflags heven htriggers hzero hcs hnodup hunit hchans hpost hforce
    obtain rfl : cs = captureList r := by rw [hcs, hn, captureList]
    subst hn
    have hform : CaptureForm s r := ⟨hlen, hflags, heven, htriggers, hzero, hnodup, hunit, hchans⟩
    refine ⟨fun hdisarm hnone htrigger => ⟨_, rfl, ?disarm⟩, fun hdisarm htrigger hnone harmed => ⟨_, rfl, ?trigger⟩,
      fun hdisarm htrigger h1 h16 => ⟨_, rfl, ?list⟩⟩
    case disarm =>
      have hrun := exec_armCapture_ok hasked hform ⟨hpost, hforce, htrigger⟩ (by simp [captureCountOk, hdisarm, hnone])
      rwa [State.captureAsked, if_pos hdisarm] at hrun
    case trigger =>
      have hrun := exec_armCapture_ok hasked hform ⟨hpost, hforce, fun _ => harmed⟩ (by simp [captureCountOk, htrigger, hnone])
      rwa [State.captureAsked, hdisarm, if_neg Bool.false_ne_true, if_pos htrigger] at hrun
    case list =>
      have hidle : CaptureFree s r := ⟨hpost, hforce, fun h => absurd h (by simp [htrigger])⟩
      have hrun := exec_armCapture_ok hasked hform hidle (by simp [captureCountOk, hdisarm, htrigger, within_ok h1 h16])
      rwa [State.captureAsked, hdisarm, htrigger, if_neg Bool.false_ne_true, if_neg Bool.false_ne_true] at hrun
  case read =>
    intro s r off n hasked hlen hoff hn h1 h4000 hflags hzero hunit hheld hend
    refine ⟨_, s.captureBytes off n, rfl, s.captureBytes_length off n, fun i hi hhead => s.captureBytes_getD hi hhead, ?_⟩
    have hok := cmdReadCapture_ok hasked hlen hoff.symm hn.symm (within_ok h1 h4000) hflags hzero hunit hheld hend rfl
    refine ⟨fun hkeep => ?keep, fun hrelease => ?release⟩
    case keep =>
      rw [hkeep, if_neg Bool.false_ne_true] at hok
      exact exec_of_sealSt_eq rfl hasked.1 rfl hok (by decide) (by rw [State.replyOk_security, State.drawBytes_security])
    case release =>
      rw [if_pos hrelease] at hok
      exact exec_of_sealSt_eq rfl hasked.1 rfl hok (by decide)
        (by rw [State.onCapture, State.onPq_security, State.replyOk_security, State.drawBytes_security])

end Sys2Proof.Machine
end

section
/-! SUPPORT. The events of power quality and of overload where they are due (spec/10_power_quality.md R278 to R282, R286, R291,
R294; spec/01_architecture.md R28; spec/06_converters.md R169). -/
namespace Sys2Proof.Machine

variable {s : State} {c : Nat}

/-! ## A channel after a change -/

/-- A change of a channel leaves what it does not touch, fitted or not. -/
theorem State.chan_onChan_keeps {α : Type} (g : Channel → α) {f : Channel → Channel} (hf : ∀ h, g (f h) = g h) :
    g ((s.onChan c f).chan c) = g (s.chan c) := by
  simp only [State.chan, State.onChan_channels, upd, List.getD_eq_getElem?_getD, List.getElem?_modify, if_true]
  cases s.channels[c]? with
  | none => rfl
  | some h => exact hf h

/-- A report joins or opens a window; no channel changes (R293, R294). -/
theorem State.report_chan (s : State) (g : EvGroup) (domKind domIdx : Nat) (points chans : List Nat) (value : Int) (ch d : Nat) :
    (s.report g domKind domIdx points chans value ch).chan d = s.chan d :=
  congrArg (·.getD d {}) ((State.report_same s g domKind domIdx points chans value ch).channels (by decide))

/-! ## An item of Q9 (R278, R282) -/

section Item

/-- What the detector does with an item of a voltage channel at a slot, of which word 0 is x0 and word 1 is x1: a half-cycle value,
a crossing, or a crossing withdrawn. -/
def State.itemTaken (t : State) (c slot : Nat) (x0 x1 : QWord) : State :=
  if bits x0.data 0 2 = 0 then t.halfValue c slot (if x1.poison then 2 else bits x0.data 11 3) x1.data
  else if bits x0.data 0 2 = 2 then t
  else if bits x0.data 0 2 = 1 then
    if x1.poison then t.onChan c fun h => { h with pqCross := none, pqUndo := none }
    else t.freqCross c (256 * slot + x1.data % 256)
  else t.freqWithdraw c (if x1.poison && ((t.chan c).pqCross.getD 0) / 256 == slot then (t.chan c).pqCross.getD 0
    else 256 * slot + x1.data % 256)

/-- The poisoned words of an item. -/
theorem poisonedWords_length (x0 x1 : QWord) : ([x0, x1].filter fun w => w.poison).length = b2n x0.poison + b2n x1.poison := by
  cases h0 : x0.poison <;> cases h1 : x1.poison <;> simp [h0, h1, b2n]

variable {us : List (Nat × Nat)} {w0 w1 x0 x1 : QWord} {r : List QWord} (hqueue : s.pq.q9 = w0 :: w1 :: r) (hgap : w0.gap = false)
  (hcross : crossing 32 us [w0, w1] = [x0, x1])
include hqueue hgap hcross

/-- A poisoned word 0 discards the item; its poisoned words are counted. -/
theorem State.takeItem_of_poisoned (hpoison : x0.poison = true) :
    s.takeItem us = (s.onPq fun p => { p with q9 := r }).poisonedN 9 (1 + b2n x1.poison) := by
  have hone : b2n true = 1 := rfl
  simp only [State.takeItem, hqueue, hgap, Bool.false_eq_true, if_false, List.take_succ_cons, List.take_zero, List.drop_succ_cons,
    List.drop_zero, hcross, poisonedWords_length, List.getD_cons_zero, hpoison, hone, if_true]

/-- An item of a voltage channel whose word 0 is whole reaches the detector. -/
theorem State.takeItem_of_whole {t : State} (hpoison : x0.poison = false)
    (ht : t = (s.onPq fun p => { p with q9 := r }).poisonedN 9 (b2n x1.poison))
    (hrole : (t.chan (bits x0.data 2 9)).set.role = 1) :
    s.takeItem us = t.itemTaken (bits x0.data 2 9) (extend18 t.now (bits x0.data 14 18)) x0 x1 := by
  have hnone : b2n false = 0 := rfl
  subst ht
  simp only [State.takeItem, hqueue, hgap, Bool.false_eq_true, if_false, List.take_succ_cons, List.take_zero, List.drop_succ_cons,
    List.drop_zero, hcross, poisonedWords_length, List.getD_cons_zero, List.getD_cons_succ, hpoison, hnone, Nat.zero_add, hrole,
    ne_eq, not_true_eq_false, State.itemTaken]

end Item

/-- A gap word counts, and every voltage channel has lost an item (R28). -/
theorem State.takeItem_of_gap {us : List (Nat × Nat)} {w : QWord} {r : List QWord} (hqueue : s.pq.q9 = w :: r)
    (hgap : w.gap = true) :
    s.takeItem us = ((s.onPq fun p => { p with q9 := r }).gapped 9).itemsLost := by
  simp only [State.takeItem, hqueue, hgap, if_true]

/-! ## The end of a 10 s window of frequency (R279, R280) -/

/-- The value of the last window, its end, and the cycles of the running one. -/
def Channel.freqWindow (h : Channel) : Nat × Nat × Nat := (h.f10, h.f10From, h.f10Count)

/-- The window that has ended has the value f, and the next one runs with what it has counted already. -/
def State.freqWindowTaken (s : State) (c f : Nat) : State := s.onChan c fun h => { h with
  f10 := f, f10From := s.f10Fin c, f10Cut := none, f10Count := h.f10NextCount, f10Sum := h.f10NextSum
  f10NextCount := 0, f10NextSum := 0 }

theorem State.freqWindowTaken_freqWindow (hc : c < s.channels.length) (f : Nat) :
    ((s.freqWindowTaken c f).chan c).freqWindow = (f, s.f10Fin c, (s.chan c).f10NextCount) := by
  rw [State.freqWindowTaken, State.chan_onChan hc, Channel.freqWindow]

/-- Whether the value lies outside the limits is no part of the window. -/
theorem State.freqLimit_freqWindow (s : State) (c : Nat) (out : Bool) :
    ((s.onChan c fun h => { h with freqLimit := out }).chan c).freqWindow = (s.chan c).freqWindow :=
  State.chan_onChan_keeps Channel.freqWindow fun _ => rfl

/-- A window without a cycle has the value 0; the value of another is held against the limits, which leaves the window (R280). -/
theorem execFrequencyWindowEnd_of_ended (hrole : (s.chan c).set.role = 1) (hmet : s.metering = true)
    (hended : s.f10Fin c + 1024 ≤ s.now) (hc : c < s.channels.length) :
    ∃ t, execFrequencyWindowEnd c s = .next t ∧ (t.chan c).freqWindow = (if (s.chan c).f10Count = 0 then 0 else
      roundDivN ((s.chan c).f10Count * 32768000000) (s.chan c).f10Sum, s.f10Fin c, (s.chan c).f10NextCount) := by
  have hdue : ¬((s.chan c).set.role ≠ 1 ∨ s.metering = false ∨ s.now < s.f10Fin c + 1024) := by
    simp [hrole, hmet, Nat.not_lt.2 hended]
  by_cases hvoid : (s.chan c).f10Count = 0
  · simp only [execFrequencyWindowEnd, if_neg hdue, hvoid, beq_self_eq_true, if_true]
    exact ⟨_, rfl, State.freqWindowTaken_freqWindow hc 0⟩
  · simp only [execFrequencyWindowEnd, if_neg hdue, beq_eq_false_iff_ne.2 hvoid, Bool.false_eq_true, if_false, if_neg hvoid]
    refine ⟨_, rfl, ?_⟩
    split
    · exact State.freqWindowTaken_freqWindow hc _
    · rw [State.report_chan]
      exact (State.freqLimit_freqWindow _ c _).trans (State.freqWindowTaken_freqWindow hc _)

/-! ## The end of a harmonic window (R286) -/

/-- The results shown of a channel, and its windows that wait for their analysis. -/
def Channel.harmonics (h : Channel) : HarmResult × List HarmWin := (h.harm, h.harmReady)

/-- Whether the 3 s value exceeds its limit is no part of the results. -/
theorem State.harmLimit_harmonics (s : State) (c : Nat) (on : Bool) :
    ((s.onChan c fun h => { h with harmLimit := on }).chan c).harmonics = (s.chan c).harmonics :=
  State.chan_onChan_keeps Channel.harmonics fun _ => rfl

/-- The 3 s value and its limit leave the results (R289). -/
theorem State.thdLimit_harmonics (s : State) (c : Nat) : ((s.thdLimit c).chan c).harmonics = (s.chan c).harmonics := by
  have hlog : ((s.onChan c fun h => { h with thdLog := [] }).chan c).harmonics = (s.chan c).harmonics :=
    State.chan_onChan_keeps Channel.harmonics fun _ => rfl
  unfold State.thdLimit
  dsimp only
  split
  · rfl
  · split
    · rw [State.report_chan]
      exact (State.harmLimit_harmonics _ c _).trans hlog
    · split
      · rw [State.report_chan]
        exact (State.harmLimit_harmonics _ c _).trans hlog
      · exact hlog

/-- The THD of a window joins the 3 s value of a voltage channel; a void window ends it (R289). -/
def State.harmLogged (s : State) (c : Nat) (x : HarmResult) : State :=
  if bit x.flags 0 then s.onChan c fun h => { h with thdLog := [] }
  else if (s.chan c).set.role = 1 then (s.onChan c fun h => { h with thdLog := h.thdLog ++ [x.thd50] }).thdLimit c
  else s

theorem State.harmLogged_harmonics (s : State) (c : Nat) (x : HarmResult) :
    ((s.harmLogged c x).chan c).harmonics = (s.chan c).harmonics := by
  unfold State.harmLogged
  split
  · exact State.chan_onChan_keeps Channel.harmonics fun _ => rfl
  · split
    · rw [State.thdLimit_harmonics]
      exact State.chan_onChan_keeps Channel.harmonics fun _ => rfl
    · rfl

/-- The powers of the points leave the channels (R288). -/
theorem State.pointHarms_chan (s : State) (ms : List Nat) (d : Nat) : (ms.foldl State.pointHarm s).chan d = s.chan d :=
  congrArg (·.getD d {}) ((Same.foldl State.pointHarm_same (.refl s)).channels (by decide))

/-- The oldest window of a channel is analysed; its THD and the powers of the channel's points follow. -/
theorem execHarmonicWindowEnd_of_ready {w : HarmWin} {r : List HarmWin} (hready : (s.chan c).harmReady = w :: r)
    (hunit : s.hasHarm = true) (hc : c < s.channels.length) :
    ∃ t, execHarmonicWindowEnd c s = .next t ∧ (t.chan c).harmonics = (s.analyse c w, r) := by
  simp only [execHarmonicWindowEnd, hready, hunit, Bool.true_eq_false, if_false]
  refine ⟨_, rfl, ?_⟩
  rw [State.pointHarms_chan]
  refine (State.harmLogged_harmonics _ c _).trans ?_
  rw [State.chan_onChan hc, Channel.harmonics]

/-! ## The end of event windows (R294) -/

/-- The windows that ended at least 512 slots ago are taken from the list and closed in their order. -/
theorem State.closeWindows_ended (s : State) : (s.closeWindows fun w => decide (w.close + 512 ≤ s.now))
    = (s.pq.windows.filter fun w => decide (w.close + 512 ≤ s.now)).foldl State.closeWindow
      (s.onPq fun p => { p with windows := p.windows.filter fun w => decide (s.now < w.close + 512) }) := by
  simp only [State.closeWindows, ← decide_not, Nat.not_le]

/-! ## The end of a capture (R291) and of an overload (R169) -/

theorem execCaptureComplete_of_written (hpost : s.pq.capture.state = .post)
    (hwritten : ∀ x ∈ s.pq.capture.tracks, s.pq.capture.trig + 128000 ≤ (s.chan x.ch).detAt) :
    execCaptureComplete s = .next (s.holdCapture false) := by
  have hall : (s.pq.capture.tracks.all fun x => decide (s.pq.capture.trig + 128000 ≤ (s.chan x.ch).detAt)) = true :=
    List.all_eq_true.2 fun x hx => decide_eq_true (hwritten x hx)
  exact congrArg Host.Outcome.next (if_pos ⟨hpost, hall⟩)

/-- The oldest episode that has ended leaves its channel; its record is a report. -/
theorem execOverloadEpisodeEnd_of_ended {e : Episode} {r : List Episode} (hends : (s.chan c).overEnds = e :: r)
    (hc : c < s.channels.length) : ∃ t, execOverloadEpisodeEnd c s = .next t ∧ (t.chan c).overEnds = r := by
  simp only [execOverloadEpisodeEnd, hends]
  refine ⟨_, rfl, ?_⟩
  rw [State.report_chan, State.chan_onChan hc, hends, List.drop_one, List.tail_cons]

/-! ## The statement -/

/-- Settles O55: each row's condition holds, and the row answers the state that its rule gives. -/
theorem powerQualityEventsComplete : Obligations.PowerQualityEventsComplete := by
  refine ⟨?item, ?poisoned, ?gap, ?frequency, ?harmonics, ?windows, ?capture, ?overload⟩
  case item =>
    intro s us w0 w1 x0 x1 r c slot v t hqueue hgap hcross hpoison hc hslot hv ht hrole
    subst hc hslot hv
    have hrun : exec (.pqItem us) s = .next _ :=
      congrArg Host.Outcome.next (State.takeItem_of_whole hqueue hgap hcross hpoison ht hrole)
    rw [hrun]
    refine ⟨fun hkind => ?_, fun hkind hwhole => ?_, fun hkind hbad => ?_, fun hkind hwhole => ?_⟩
    · simp only [State.itemTaken, hkind, if_true]
    · simp [State.itemTaken, hkind, hwhole]
    · simp [State.itemTaken, hkind, hbad]
    · simp [State.itemTaken, hkind, hwhole]
  case poisoned =>
    intro s us w0 w1 x0 x1 r hqueue hgap hcross hpoison
    exact congrArg Host.Outcome.next (State.takeItem_of_poisoned hqueue hgap hcross hpoison)
  case gap => exact fun s us w0 r hqueue hgap => congrArg Host.Outcome.next (State.takeItem_of_gap hqueue hgap)
  case frequency =>
    intro s c hrole hmet hended hc
    obtain ⟨t, hrun, hwindow⟩ := execFrequencyWindowEnd_of_ended hrole hmet hended hc
    exact ⟨t, hrun, (execFrequencyWindowEnd_same c s t hrun).mono (by decide), congrArg (·.2.1) hwindow, congrArg (·.2.2) hwindow,
      congrArg (·.1) hwindow⟩
  case harmonics =>
    intro s c w r hready hunit hc
    obtain ⟨t, hrun, hshown⟩ := execHarmonicWindowEnd_of_ready hready hunit hc
    exact ⟨t, hrun, congrArg (·.2) hshown, congrArg (·.1) hshown, (execHarmonicWindowEnd_same c s t hrun).mono (by decide)⟩
  case windows =>
    intro s ws hws
    subst hws
    exact ⟨_, rfl, (State.closeWindows_same s _).mono (by decide), State.closeWindows_ended s⟩
  case capture =>
    intro s hpost hwritten
    exact ⟨_, execCaptureComplete_of_written hpost hwritten, rfl, rfl, rfl, (State.holdCapture_same s false).mono (by decide)⟩
  case overload =>
    intro s c e r hends hc
    obtain ⟨t, hrun, hrest⟩ := execOverloadEpisodeEnd_of_ended hends hc
    exact ⟨t, hrun, hrest, (execOverloadEpisodeEnd_same c s t hrun).mono (by decide)⟩

end Sys2Proof.Machine
end

section
/-! SUPPORT. The words of commands, the fields of a token, the sequence windows and the host-reserved region (spec/12_prepayment.md
R349; spec/13_store.md R397; spec/16_security.md R457). -/
namespace Sys2Proof.Machine

/-- Settles O10: no word is decoded, so nothing is put at the front of the queue. -/
theorem noWordSpellsACommand : Obligations.NoWordSpellsACommand := fun _ _ _ => ⟨rfl, rfl⟩

/-! ## Tokens (R349) -/

/-- A row of decimal digits read behind those that give v. -/
theorem digitsValue_digits {ds : List Nat} (hdigits : ∀ d ∈ ds, d ≤ 9) (v : Nat) :
    digitsValue (ds.map fun d => BitVec.ofNat 8 (48 + d)) v = some (ds.foldl (fun v d => 10 * v + d) v) := by
  induction ds generalizing v with
  | nil => rfl
  | cons d ds ih =>
    obtain ⟨hd, hrest⟩ := List.forall_mem_cons.1 hdigits
    have hchar : (BitVec.ofNat 8 (48 + d)).toNat = 48 + d := by
      rw [BitVec.toNat_ofNat]
      omega
    have hdigit : within 48 57 (48 + d) = true := by
      simp only [within, Bool.and_eq_true, decide_eq_true_eq]
      omega
    rw [List.map_cons, digitsValue, hchar, if_pos hdigit, Nat.add_sub_cancel_left, ih hrest, List.foldl_cons]

/-- Settles O13: the digits are read in their order, and the fields stand at disjoint places, each within its width. -/
theorem tokenFields : Obligations.TokenFields := by
  refine ⟨fun ds hdigits => digitsValue_digits hdigits 0, ?_⟩
  intro cls serial e mant mac hcls hserial he hmant hmac
  simp only [tokenAmount, bits]
  norm_num only at hcls hserial he hmant hmac ⊢
  have hexp : (cls * 4611686018427387904 + serial * 4398046511104 + e * 274877906944 + mant * 16777216 + mac) / 274877906944 % 16
    = e := by omega
  have hmantissa : (cls * 4611686018427387904 + serial * 4398046511104 + e * 274877906944 + mant * 16777216 + mac) / 16777216 % 16384
    = mant := by omega
  refine ⟨by omega, by omega, by omega, by omega, ?_⟩
  rw [hexp, hmantissa]

/-! ## Sequence windows (R457) -/

/-- A number is refused by a window when it lies at or behind H and is too old for the bitmap or marked in it. -/
theorem seqOk_eq_false_iff {h q : Nat} {m : BitVec 64} :
    seqOk h m q = false ↔ q ≤ h ∧ (q + 64 ≤ h ∨ m.getLsbD (h - q) = true) := by
  simp only [seqOk, Bool.or_eq_false_iff, Bool.and_eq_false_iff, decide_eq_false_iff_not, Bool.not_eq_false']
  cases m.getLsbD (h - q) <;> simp only [Bool.false_eq_true, or_false, or_true, and_true] <;> omega

/-- Settles O15: the number taken becomes H or is marked in the bitmap; what stood in the bitmap keeps its place behind H or leaves
it as too old. -/
theorem windowTakesEachSeqOnce : Obligations.WindowTakesEachSeqOnce := by
  intro h q m hok
  by_cases hnew : h < q
  · simp only [seqTake, if_pos hnew]
    refine ⟨seqOk_eq_false_iff.2 ⟨le_rfl, .inr (by simp)⟩, fun p hp => ?_⟩
    obtain ⟨hle, hp⟩ := seqOk_eq_false_iff.1 hp
    refine seqOk_eq_false_iff.2 ⟨by omega, ?_⟩
    by_cases hold : p + 64 ≤ q
    · exact .inl hold
    · have hmarked := hp.resolve_left (by omega)
      have hplace : q - p - (q - h) = h - p := by omega
      right
      simp only [BitVec.getLsbD_or, BitVec.getLsbD_shiftLeft, hplace, hmarked]
      simp
      omega
  · simp only [seqTake, if_neg hnew]
    have hmarks (p : Nat) (h2 : m.getLsbD (h - p) = true ∨ p = q ∧ h < q + 64) :
        (m ||| BitVec.ofNat 64 (2 ^ (h - q))).getLsbD (h - p) = true := by
      rw [BitVec.getLsbD_or, Bool.or_eq_true]
      refine h2.imp_right ?_
      rintro ⟨rfl, hrecent⟩
      rw [BitVec.getLsbD_ofNat, Nat.testBit_two_pow_self]
      simp
      omega
    have hrecent : h < q + 64 := by
      by_contra hold
      exact Bool.false_ne_true ((seqOk_eq_false_iff.2 ⟨by omega, .inl (by omega)⟩).symm.trans hok)
    refine ⟨seqOk_eq_false_iff.2 ⟨by omega, .inr (hmarks q (.inr ⟨rfl, hrecent⟩))⟩, fun p hp => ?_⟩
    obtain ⟨hle, hp⟩ := seqOk_eq_false_iff.1 hp
    exact seqOk_eq_false_iff.2 ⟨hle, hp.imp_right fun hmarked => hmarks p (.inl hmarked)⟩

/-! ## The host-reserved region (R397) -/

theorem readCell_cons (c : Host.Cell) (l : List Host.Cell) (k : Nat) :
    readCell (c :: l) k = if c.1 = k then c.2 else readCell l k := by
  unfold readCell
  by_cases hc : c.1 = k
  · rw [List.find?_cons_of_pos (by simp [hc]), if_pos hc]
  · rw [List.find?_cons_of_neg (by simp [hc]), if_neg hc]

/-- A byte in front of every listed one reads 0x00. -/
theorem readCell_of_lt {l : List Host.Cell} {k : Nat} (h : ∀ c ∈ l, k < c.1) : readCell l k = 0 := by
  have hnone : (l.find? fun c => c.1 == k) = none := List.find?_eq_none.2 fun c hc => by
    have := h c hc
    simp only [beq_iff_eq]
    omega
  rw [readCell, hnone]

theorem Memory.wf_cons {c : Host.Cell} {l : List Host.Cell} :
    Memory.wf (c :: l) = true ↔ c.2 ≠ 0 ∧ (∀ d ∈ l, c.1 < d.1) ∧ Memory.wf l = true := by
  simp only [Memory.wf_iff, List.forall_mem_cons, List.pairwise_cons]
  tauto

/-- What the region reads after one byte is written. -/
theorem readCell_putCell {l : List Host.Cell} (hwf : Memory.wf l = true) (a : Nat) (b : Byte) (k : Nat) :
    readCell (putCell a b l) k = if k = a then b else readCell l k := by
  induction l with
  | nil =>
    unfold putCell
    by_cases hb : b = 0
    · simp [hb, readCell]
    · rw [if_neg hb, readCell_cons]
      simp only [eq_comm]
  | cons c r ih =>
    obtain ⟨-, hrise, hrest⟩ := Memory.wf_cons.1 hwf
    unfold putCell
    by_cases hbefore : a < c.1
    · have hfree : readCell (c :: r) a = 0 := readCell_of_lt fun d hd => by
        obtain rfl | hd := List.mem_cons.1 hd
        · exact hbefore
        · exact hbefore.trans (hrise d hd)
      rw [if_pos hbefore]
      by_cases hb : b = 0
      · rw [if_pos hb]
        by_cases hk : k = a
        · rw [if_pos hk, hk, hfree, hb]
        · rw [if_neg hk]
      · rw [if_neg hb, readCell_cons]
        simp only [eq_comm]
    · rw [if_neg hbefore]
      by_cases hat : c.1 = a
      · rw [if_pos hat, readCell_cons c, hat]
        by_cases hk : k = a
        · subst hk
          rw [if_pos rfl]
          by_cases hb : b = 0
          · rw [if_pos hb, hb]
            exact readCell_of_lt fun d hd => hat ▸ hrise d hd
          · rw [if_neg hb, readCell_cons, if_pos rfl]
        · rw [if_neg hk, if_neg (Ne.symm hk)]
          by_cases hb : b = 0
          · rw [if_pos hb]
          · rw [if_neg hb, readCell_cons, if_neg (Ne.symm hk)]
      · rw [if_neg hat, readCell_cons, readCell_cons, ih hrest]
        by_cases hk : c.1 = k
        · rw [if_pos hk, if_pos hk, if_neg (by omega)]
        · rw [if_neg hk, if_neg hk]

/-- What the region reads after bytes are written. -/
theorem readCell_putBytes {l : List Host.Cell} (hwf : Memory.wf l = true) (a : Nat) (bs : List Byte) (k : Nat) :
    readCell (putBytes a bs l) k = if a ≤ k ∧ k < a + bs.length then bs.getD (k - a) 0 else readCell l k := by
  induction bs generalizing a l with
  | nil => rw [putBytes, if_neg (by simp)]
  | cons b r ih =>
    rw [putBytes, ih (putCell_wf hwf), readCell_putCell hwf, List.length_cons]
    obtain hk | rfl | hk := Nat.lt_trichotomy k a
    · rw [if_neg (by omega), if_neg (by omega), if_neg (by omega)]
    · rw [if_neg (by omega), if_pos rfl, if_pos (by omega), Nat.sub_self, List.getD_cons_zero]
    · obtain ⟨i, rfl⟩ : ∃ i, k = a + 1 + i := ⟨k - (a + 1), by omega⟩
      rw [if_neg (show a + 1 + i ≠ a by omega), show a + 1 + i - a = i + 1 by omega, List.getD_cons_succ,
        Nat.add_sub_cancel_left]
      exact if_congr (by omega) rfl rfl

theorem readHost_eq_map (l : List Host.Cell) (a n : Nat) : readHost l a n = (List.range n).map fun i => readCell l (a + i) := by
  induction n generalizing a with
  | zero => rfl
  | succ n ih =>
    rw [readHost, ih, List.range_succ_eq_map, List.map_cons, List.map_map]
    refine congrArg _ (List.map_congr_left fun i _ => congrArg _ ?_)
    simp only [Nat.succ_eq_add_one]
    omega

/-- Settles O16: a byte within what is written reads its value there, any other as before, and nothing is listed in a region that
nothing has written. -/
theorem hostRegionReadsBack : Obligations.HostRegionReadsBack := by
  refine ⟨fun a bs l hwf => ⟨?_, fun k hk => ?_, putBytes_wf hwf⟩, fun _ => rfl⟩
  · refine List.ext_getElem (by simp [readHost_eq_map]) fun i hi hi' => ?_
    simp only [readHost_eq_map, List.getElem_map, List.getElem_range, readCell_putBytes hwf]
    rw [if_pos (by omega), Nat.add_sub_cancel_left, List.getD_eq_getElem]
  · rw [readCell_putBytes hwf, if_neg (by omega)]

end Sys2Proof.Machine
end

section
/-! SUPPORT. Requests that become long operations, and the reads of parameters (spec/05_ports_and_protocol.md R142,
spec/19_reference.md R501, R504). -/
namespace Sys2Proof.Machine

variable {s : State} {r : Request}

/-! ## Requests that become long operations (R142) -/

section Long
variable {i : Instr} {op : Nat} {c : Bool} {f : State → Request → Except Deny State} {g : State → OpRef → State}
  (hrow : requestOf i = some (op, r)) (htakes : Takes s r) (hf : commandOf op = some f)
  (hroom : (s.port r.port).handles.length < 64) (hok : ∀ t o, s.accept r op c = some (t, o) → f s r = .ok (g t o))
include hrow htakes hf hroom hok

/-- A command that passes its checks gets a handle while one is free. -/
theorem exec_of_handle :
    ∃ t o, s.accept r op c = some (t, o) ∧ exec i s = .next ((g t o).accepted op s.security.sealSt) := by
  obtain ⟨t, o, hacc⟩ := accept_some hroom
  exact ⟨t, o, hacc, exec_of_accepted hrow htakes hf (hok t o hacc)⟩

/-- The same outside calibration, for a command that leaves the windows of R457. -/
theorem exec_of_handle_sealSt_eq (hop : op / 256 ≠ 7) (hseal : ∀ t o, (g t o).security.sealSt = t.security.sealSt) :
    ∃ t o, s.accept r op c = some (t, o) ∧ exec i s = .next (g t o) := by
  obtain ⟨t, o, hacc⟩ := accept_some hroom
  exact ⟨t, o, hacc, exec_of_sealSt_eq hrow htakes hf (hok t o hacc) hop ((hseal t o).trans (by rw [State.accept_security hacc]))⟩

end Long

/-! ## GET_PARAM and GET_PARAM_BLOCK (R501, R504) -/

/-- What GET_PARAM answers of an identifier's access. -/
def accessCode : Option Access → Nat
  | some a => a.num
  | none => 0

theorem cmdGetParam_ok {pid : Nat} (hasked : Asked s r 0x0101) (hlen : r.params.length = 4) (hzero : isZero r.params 2 2 = true)
    (hpid : pid = fieldAt r 0 2) (hrange : pidInRange pid = true) (hpresent : s.pidAbsent pid = false) :
    cmdGetParam s r = .ok (s.replyOk r (le 2 pid ++ le 1 (accessCode (s.access pid))
      ++ le 1 (b2n ((s.port r.port).pendingSet.any fun e => e.1 == pid)) ++ le 4 (s.readValue pid))) := by
  obtain ⟨-, hpriv, hmode⟩ := hasked
  subst hpid
  simp only [cmdGetParam, len_ok hlen, reserved_ok hzero, hrange, hpresent, hpriv, modeResp_ok hmode, Bool.not_false, need_true,
    except_ok_bind]
  cases s.access (fieldAt r 0 2) <;> rfl

theorem cmdGetParamBlock_ok {first n : Nat} (hasked : Asked s r 0x0103) (hlen : r.params.length = 8)
    (hzero : isZero r.params 4 4 = true) (hfirst : first = fieldAt r 0 2) (hn : n = fieldAt r 2 2) (hcount : within 1 1016 n = true)
    (hrange : pidInRange first = true) (hend : first + n ≤ pidRangeEnd first + 1)
    (hpresent : ∀ i < n, s.pidAbsent (first + i) = false) :
    cmdGetParamBlock s r = .ok (s.replyOk r (le 2 first ++ le 2 n ++ zeros 4
      ++ ((List.range n).map fun i => le 4 (s.readValue (first + i))).flatten)) := by
  obtain ⟨-, hpriv, hmode⟩ := hasked
  have hall : ((List.range n).any fun i => s.pidAbsent (first + i)) = false :=
    List.any_eq_false.2 fun i hi => ne_true_of_eq_false (hpresent i (List.mem_range.1 hi))
  subst hfirst hn
  simp only [cmdGetParamBlock, len_ok hlen, reserved_ok hzero, hcount, hrange, hend, hall, hpriv, modeResp_ok hmode, decide_true,
    Bool.and_self, Bool.not_false, need_true, except_ok_bind]

/-- Settles O20: each command passes its checks, and its answer differs from the state by the reply alone. -/
theorem parameterReadsComplete : Obligations.ParameterReadsComplete := by
  refine ⟨?one, ?block⟩
  case one =>
    intro s r pid hasked hlen hzero hpid hrange hpresent
    refine ⟨accessCode (s.access pid), _, ?_, rfl, fun a ha => by rw [ha]; rfl⟩
    exact exec_of_reply rfl hasked.1 rfl (by decide) (cmdGetParam_ok hasked hlen hzero hpid hrange hpresent)
  case block =>
    intro s r first n hasked hlen hzero hfirst hn h1 h1016 hrange hend hpresent
    exact exec_of_reply rfl hasked.1 rfl (by decide)
      (cmdGetParamBlock_ok hasked hlen hzero hfirst hn (within_ok h1 h1016) hrange hend hpresent)

end Sys2Proof.Machine
end

section
/-! SUPPORT. The commands of device time, of the calendar's plans and of billing (spec/11_tariffs_demand_billing.md R315, R325, R329,
R331, R332, R337). -/
namespace Sys2Proof.Machine

variable {s s5 : State} {r : Request} {auth : List Byte}

/-! ## SET_TIME and ADJUST_TIME (R332, R331) -/

/-- A step of device time handed to the next round boundary, with the reply that waits for it. -/
def State.timeStepAsked (s : State) (r : Request) (d : Int) (auth : List Byte) : State :=
  (s.replyOk r [] .round).onClock fun c =>
    { c with setTimes := c.setTimes ++ [{ delta := d, auth := if auth.isEmpty then 0 else 1, port := r.port }] }

theorem cmdSetTime_ok {d : Int} (hauth : authField r 8 = .ok auth) (hzero : isZero r.params 6 2 = true)
    (hd : d = (fieldAt r 0 6 : Int) - s.time)
    (h5 : order5 s s.time r 0x0301 (if 300 * 65536 < d.natAbs then some 1 else none) 8 auth = .ok s5)
    (hmode : s.mode.mode.responding = true) :
    cmdSetTime s r = .ok (if d = 0 then s5.replyOk r (zeros 8 ++ sample8 s.now) else s5.timeStepAsked r d auth) := by
  subst hd
  simp only [cmdSetTime, hauth, reserved_ok hzero, decide_eq_true_eq, h5, modeAll_ok hmode, except_ok_bind]
  exact (apply_ite Except.ok ..).symm

/-- A slew that joins the one in force. -/
def State.slewAsked (s : State) (d : Int) (log : List (Nat × Nat)) : State :=
  s.onClock fun c => { c with
    slewNext := c.slewNext + d * 65536, slewLog := log ++ [(s.now, d.natAbs)], lastSet := some s.now }

theorem cmdAdjustTime_ok {d : Int} {log : List (Nat × Nat)} {used : Nat} (hasked : Asked s r 0x0302) (hlen : r.params.length = 8)
    (hzero : isZero r.params 4 4 = true) (hd : d = fldI r.params 0 4) (hsize : d.natAbs ≤ 2000)
    (hlog : log = s.clock.slewLog.filter fun e => decide (s.now < e.1 + 460800000))
    (hused : used = (log.map fun e => e.2).sum + d.natAbs) (hroom : used ≤ 2000) :
    cmdAdjustTime s r = .ok ((s.slewAsked d log).replyOk r
      (leI 4 (roundDiv (s.clock.slew + (s.clock.slewNext + d * 65536)) 65536) ++ le 2 (2000 - used) ++ zeros 2)) := by
  obtain ⟨-, hpriv, hmode⟩ := hasked
  subst hd hlog hused
  simp only [cmdAdjustTime, len_ok hlen, reserved_ok hzero, hsize, hpriv, modeAll_ok hmode, hroom, decide_true, need_true,
    except_ok_bind]
  rfl

/-! ## LOAD_PLAN (R315) -/

section Plan
variable {p total : Nat} {q : Partial} (hlen : 13 ≤ r.params.length) (hp : p = byteAt r 0) (hp3 : p ≤ 3)
  (htotal : total = fieldAt r 8 4) (hsize : within 1 16384 total = true) (hflags : byteAt r 1 < 2)
  (hzero : isZero r.params 2 2 = true) (hpriv : needPriv s r 0x0303 true = .ok ()) (hmode : s.mode.mode.responding = true)
  (hjoin : joinFragment (s.security.plans.getD p none) (bit (byteAt r 1) 0) (fieldAt r 4 4) total (r.params.drop 12) r.port 0
    = some q)
include hlen hp hp3 htotal hsize hflags hzero hpriv hmode hjoin

theorem cmdLoadPlan_part (hpart : q.data.length < total) :
    cmdLoadPlan s r = .ok ((s.onSec fun x => { x with plans := upd x.plans p fun _ => some q }).replyOk r (le 4 q.data.length)) := by
  subst hp htotal
  simp only [cmdLoadPlan, hlen, hp3, hsize, flagsWithin_ok (w := 1) hflags, reserved_ok hzero, hpriv, modeAll_ok hmode, hjoin, hpart,
    decide_true, Bool.and_self, need_true, if_true, except_ok_bind]

theorem cmdLoadPlan_whole (hwhole : total ≤ q.data.length) {t : State} {o : OpRef} (hacc : s.accept r 0x0303 = some (t, o)) :
    cmdLoadPlan s r = .ok (t.onSec fun x => { x with
      plans := upd x.plans p fun _ => none
      jobs := x.jobs ++ [{ kind := .plan p, op := some o, data := q.data, port := r.port }] }) := by
  subst hp htotal
  simp only [cmdLoadPlan, hlen, hp3, hsize, flagsWithin_ok (w := 1) hflags, reserved_ok hzero, hpriv, modeAll_ok hmode, hjoin,
    Nat.not_lt.2 hwhole, hacc, decide_true, Bool.and_self, need_true, if_false, except_ok_bind]

end Plan

/-! ## READ_BOUNDARIES (R337) -/

/-- The entries of the table that READ_BOUNDARIES asks for. -/
def State.entriesAsked (s : State) (r : Request) : List Entry :=
  (s.tariff.table.filter fun e => decide (fieldAt r 4 7 ≤ e.instant)).take (fieldAt r 2 2)

theorem cmdReadBoundaries_entries (hasked : Asked s r 0x0304) (hlen : r.params.length = 12) (hzero : isZero r.params 1 1 = true)
    (hlast : isZero r.params 11 1 = true) (hkind : byteAt r 0 = 0) (hcount : within 1 254 (fieldAt r 2 2) = true) :
    cmdReadBoundaries s r = .ok (s.replyOk r
      (le 2 (s.entriesAsked r).length ++ zeros 6 ++ ((s.entriesAsked r).map Entry.bytes).flatten)) := by
  obtain ⟨-, hpriv, hmode⟩ := hasked
  simp only [cmdReadBoundaries, len_ok hlen, reserved_ok hzero, hkind, hcount, hlast, hpriv, modeResp_ok hmode, Nat.zero_le,
    decide_true, Bool.or_true, Bool.and_self, need_true, if_true, except_ok_bind, State.entriesAsked]

/-- What READ_BOUNDARIES answers of the calendar as a whole. -/
def State.calendarReport (s : State) : List Byte :=
  sample8 ((s.tariff.table.getLast?.map fun e => e.instant).getD 0) ++ le 4 s.horizonS ++ le 2 s.tariff.table.length
    ++ leI 2 ((s.zoneMin + s.dst (s.standardMin s.time)) / 15) ++ (s.tariff.plans.map Plan.bytes).flatten
    ++ lastBytes s.tariff.lastExec
    ++ le 2 (b2n s.clock.timeUnset + 2 * b2n (s.clock.slew + s.clock.slewNext != 0) + 4 * b2n s.tariff.tableLow)
    ++ leI 2 (roundDiv (s.clock.slew + s.clock.slewNext) 65536) ++ zeros 4

theorem cmdReadBoundaries_calendar (hasked : Asked s r 0x0304) (hlen : r.params.length = 12) (hzero : isZero r.params 1 1 = true)
    (hlast : isZero r.params 11 1 = true) (hkind : byteAt r 0 = 1) :
    cmdReadBoundaries s r = .ok (s.replyOk r s.calendarReport) := by
  obtain ⟨-, hpriv, hmode⟩ := hasked
  simp only [cmdReadBoundaries, len_ok hlen, reserved_ok hzero, hkind, hlast, hpriv, modeResp_ok hmode, Nat.le_refl, beq_self_eq_true,
    Nat.one_ne_zero, decide_true, Bool.true_or, Bool.and_self, need_true, if_false, except_ok_bind, State.calendarReport]
  cases s.tariff.table.getLast? <;> rfl

/-! ## BILLING_CLOSE and DEMAND_RESET (R329, R325) -/

theorem need67_ok {b : Bool} {st : Status} (h : b = true) : need67 b st = .ok () := if_pos h

/-- The entry of the table for a close of the points ms at an instant. -/
def State.closeEntry (s : State) (ms : List Nat) (at_ : Nat) : Entry :=
  { instant := at_, frozen := true, command := true, time := s.timeOf at_, kinds := 8, points := ms }

/-- A close of the points ms handed to the table. -/
def State.closeAsked (s : State) (ms : List Nat) (at_ : Nat) : State :=
  (s.onTariff fun t => { t with table := placeEntry (s.closeEntry ms at_) t.table }).writeSequencer

/-- The answer of BILLING_CLOSE: at once without points, otherwise when the last point has passed the close. -/
def State.closeAnswer (t : State) (r : Request) (ms : List Nat) (at_ : Nat) : State :=
  if ms = [] then t.replyOk r (sample8 at_ ++ le 2 0 ++ zeros 6)
  else (t.replyOk r [] .close).onTariff fun t => { t with closes := t.closes ++ [{ instant := at_, port := r.port, left := ms }] }

theorem cmdBillingClose_ok {mask at_ : Nat} {ms : List Nat} (hlen : r.params.length = 32) (hmask : mask = fieldAt r 0 32)
    (hpoints : needMask s mask = .ok ()) (hpriv : needPriv s r 0x0305 = .ok ())
    (hmode : s.mode.mode = .meter ∨ s.mode.mode = .degraded ∧ s.mode.base = .meter) (hms : ms = bitsSet mask 256)
    (hbound : needBound s ms = .ok ()) (hat : at_ = nextMul (s.engine.runAhead + 1024) 256) :
    cmdBillingClose s r = .ok ((s.closeAsked ms at_).closeAnswer r ms at_) := by
  have hmeter : (s.mode.mode == .meter || s.mode.mode == .degraded && s.mode.base == .meter) = true := by simpa using hmode
  subst hmask hms hat
  simp only [cmdBillingClose, len_ok hlen, hpoints, hpriv, need67_ok hmeter, hbound, except_ok_bind, List.isEmpty_iff]
  exact (apply_ite Except.ok ..).symm

theorem cmdDemandReset_ok {mask : Nat} (hlen : r.params.length = 32) (hmask : mask = fieldAt r 0 32)
    (hpoints : needMask s mask = .ok ()) (hpriv : needPriv s r 0x0306 = .ok ()) (hmode : modeNoCal s = .ok ())
    (hbound : needBound s (bitsSet mask 256) = .ok ()) :
    cmdDemandReset s r = .ok ((s.replyOk r [] .round).onTariff fun t =>
      { t with demReset := t.demReset ++ [(bitsSet mask 256, some r.port)] }) := by
  subst hmask
  simp only [cmdDemandReset, len_ok hlen, hpoints, hpriv, hmode, hbound, except_ok_bind]

/-! ## The statements -/

/-- Settles O31: each command passes its checks; a step waits for the round boundary with its reply, and a plan whose last fragment
has come gets a handle. -/
theorem timeCommandsComplete : Obligations.TimeCommandsComplete := by
  refine ⟨?step, ?slew, ?plan, ?boundaries⟩
  case step =>
    intro s s5 r auth d htakes hauth hzero hd h5 hmode
    have hrun := exec_of_accepted (i := .setTime r) rfl htakes rfl (cmdSetTime_ok hauth hzero hd h5 hmode)
    exact ⟨fun h => by rwa [if_pos h] at hrun, fun h => by rwa [if_neg h] at hrun⟩
  case slew =>
    intro s r d log used hasked hlen hzero hd hsize hlog hused hroom
    exact exec_of_sealSt_eq rfl hasked.1 rfl (cmdAdjustTime_ok hasked hlen hzero hd hsize hlog hused hroom) (by decide)
      (by rw [State.replyOk_security]; rfl)
  case plan =>
    intro s r p total q htakes hlen hp hp3 htotal h1 hmax hflags hzero hpriv hmode hjoin
    have hsize := within_ok h1 hmax
    refine ⟨fun hpart => ?_, fun hwhole hroom => ?_⟩
    · exact exec_of_sealSt_eq rfl htakes rfl
        (cmdLoadPlan_part hlen hp hp3 htotal hsize hflags hzero hpriv hmode hjoin hpart) (by decide)
        (by rw [State.replyOk_security]; rfl)
    · exact exec_of_handle_sealSt_eq rfl htakes rfl hroom
        (fun t o => cmdLoadPlan_whole hlen hp hp3 htotal hsize hflags hzero hpriv hmode hjoin hwhole) (by decide) fun _ _ => rfl
  case boundaries =>
    intro s r n hasked hlen hzero hlast hn
    subst hn
    refine ⟨fun hkind h1 h254 es hes => ?_, fun hkind => ?_⟩
    · obtain rfl : es = s.entriesAsked r := hes
      exact exec_of_reply rfl hasked.1 rfl (by decide)
        (cmdReadBoundaries_entries hasked hlen hzero hlast hkind (within_ok h1 h254))
    · exact exec_of_reply rfl hasked.1 rfl (by decide) (cmdReadBoundaries_calendar hasked hlen hzero hlast hkind)

/-- Settles O32: each command passes its checks, and neither moves a window of R457. -/
theorem billingCommandsComplete : Obligations.BillingCommandsComplete := by
  refine ⟨?close, ?reset⟩
  case close =>
    intro s r mask ms at_ e t htakes hlen hmask hpoints hpriv hmode hms hbound hat he ht
    subst he
    obtain rfl : t = s.closeAsked ms at_ := ht
    have hok := cmdBillingClose_ok hlen hmask hpoints hpriv hmode hms hbound hat
    have hsec : (s.closeAsked ms at_).security = s.security := rfl
    unfold State.closeAnswer at hok
    refine ⟨fun hnone => ?_, fun hsome => ?_⟩
    · rw [if_pos hnone] at hok
      exact exec_of_sealSt_eq rfl htakes rfl hok (by decide) (by rw [State.replyOk_security, hsec])
    · rw [if_neg hsome] at hok
      exact exec_of_sealSt_eq rfl htakes rfl hok (by decide) (by rw [State.onTariff_security, State.replyOk_security, hsec])
  case reset =>
    intro s r mask htakes hlen hmask hpoints hpriv hmode hbound
    exact exec_of_sealSt_eq rfl htakes rfl (cmdDemandReset_ok hlen hmask hpoints hpriv hmode hbound) (by decide)
      (by rw [State.onTariff_security, State.replyOk_security])

end Sys2Proof.Machine
end

section
/-! SUPPORT. The commands of prepayment: tokens, relays and credit policies (spec/12_prepayment.md R350, R352 to R355, R357 to R360). -/
namespace Sys2Proof.Machine

variable {s s5 : State} {r : Request} {auth : List Byte} {m : Nat}

/-! ## SUBMIT_TOKEN (R355) -/

/-- Whether a key in force for the binding's plan made the token's code. -/
def State.tokenSigned (s : State) (b : Binding) (v : Nat) : Bool :=
  (s.vendKeys b.plan).any fun k => tokenMac k b.mpId v == v % 2 ^ 24

theorem State.tokenSigned_of_mem {b : Binding} {v : Nat} {k : List Byte} (hk : k ∈ s.vendKeys b.plan)
    (hmac : tokenMac k b.mpId v = v % 2 ^ 24) : s.tokenSigned b v = true :=
  List.any_eq_true.2 ⟨k, hk, beq_iff_eq.2 hmac⟩

theorem State.tokenSigned_of_forged {b : Binding} {v : Nat} (hforged : ∀ k ∈ s.vendKeys b.plan, tokenMac k b.mpId v ≠ v % 2 ^ 24) :
    s.tokenSigned b v = false :=
  List.any_eq_false.2 fun k hk => by simpa using hforged k hk

/-- A token that waits for the round boundary, with the reply. -/
def State.tokenWaits (s : State) (r : Request) (m v : Nat) : State :=
  (s.replyOk r [] .token).onRelays fun x => { x with tokens := x.tokens
    ++ [{ port := r.port, mp := m, class_ := bits v 62 4, serial := bits v 42 20, amount := tokenAmount v }] }

/-- What the checks of a token find, in the order of R355: a lockout, a forged code, a failing field, or none. -/
def State.tokenAnswer (s : State) (r : Request) (m v : Nat) (b : Binding) : State :=
  if s.now < (s.point m).ledger.lockEnd then s.tokenRefused r m .tokenLockout 0xFF 0 (bits v 42 20)
  else if s.tokenSigned b v = false then (s.macFailure m).tokenRefused r m .tokenMac 0xFF 0 (bits v 42 20)
  else match (s.ledgerAhead m).tokenFails (bits v 62 4) (bits v 42 20) (tokenAmount v) with
    | some st => s.tokenRefused r m st (bits v 62 4) (bits v 42 20) (bits v 42 20)
    | none => s.tokenWaits r m v

theorem State.tokenRefused_security (s : State) (r : Request) (m : Nat) (st : Status) (cls serial own : Nat) :
    (s.tokenRefused r m st cls serial own).security = s.security := (State.tokenRefused_same ..).security (by decide)

theorem State.macFailure_security (s : State) (m : Nat) : (s.macFailure m).security = s.security :=
  (State.macFailure_same ..).security (by decide)

theorem State.tokenAnswer_security (s : State) (r : Request) (m v : Nat) (b : Binding) :
    (s.tokenAnswer r m v b).security = s.security := by
  unfold State.tokenAnswer
  split
  · exact State.tokenRefused_security ..
  · split
    · rw [State.tokenRefused_security, State.macFailure_security]
    · split
      · exact State.tokenRefused_security ..
      · rw [State.tokenWaits, State.onRelays_security, State.replyOk_security]

theorem cmdSubmitToken_ok {v : Nat} {b : Binding} (hlen : r.params.length = 24) (hzero : isZero r.params 1 3 = true)
    (hm : m = byteAt r 0) (hdigits : digitsValue (r.params.drop 4) 0 = some v) (hv : v < 2 ^ 66) (hpoint : m < s.nMp)
    (hpriv : needPriv s r 0x0401 = .ok ()) (hmode : modeMeter s = .ok ()) (hledger : needLedger s m = .ok b) :
    cmdSubmitToken s r = .ok (s.tokenAnswer r m v b) := by
  subst hm
  simp only [cmdSubmitToken, len_ok hlen, reserved_ok hzero, hdigits, if_pos hv, needPoint_ok hpoint, hpriv, hmode, hledger,
    except_ok_bind, Bool.not_eq_true', ← State.tokenSigned.eq_1, State.tokenAnswer]
  split
  · rfl
  · split
    · rfl
    · cases (s.ledgerAhead (byteAt r 0)).tokenFails _ _ _ <;> rfl

/-- Settles O33: the lockout goes before the code, and the code before the fields; a token that fails none waits. -/
theorem tokenSubmissionCompletes : Obligations.TokenSubmissionCompletes := by
  intro s r m v b htakes hlen hzero hm hdigits hv hpoint hpriv hmode hledger
  have hrun : exec (.submitToken r) s = .next (s.tokenAnswer r m v b) :=
    exec_of_sealSt_eq rfl htakes rfl (cmdSubmitToken_ok hlen hzero hm hdigits hv hpoint hpriv hmode hledger) (by decide)
      (by rw [State.tokenAnswer_security])
  unfold State.tokenAnswer at hrun
  refine ⟨fun hlocked => ?locked, fun hopen hforged => ?forged, fun k st hopen hk hmac hfails => ?fails,
    fun k hopen hk hmac hsound => ?sound⟩
  case locked => rwa [if_pos hlocked] at hrun
  case forged => rwa [if_neg (Nat.not_lt.2 hopen), if_pos (State.tokenSigned_of_forged hforged)] at hrun
  case fails =>
    rwa [if_neg (Nat.not_lt.2 hopen), if_neg (ne_false_of_eq_true (State.tokenSigned_of_mem hk hmac)), hfails] at hrun
  case sound =>
    rwa [if_neg (Nat.not_lt.2 hopen), if_neg (ne_false_of_eq_true (State.tokenSigned_of_mem hk hmac)), hsound] at hrun

/-! ## RELAY_COMMAND and RECONNECT_ARM (R357, R358) -/

theorem cmdRelayCommand_ok (hauth : authField r 8 = .ok auth) (hzero : isZero r.params 2 2 = true) (haction : byteAt r 1 ≤ 4)
    (htimed : fieldAt r 4 4 = 0 ∨ byteAt r 1 = 1 ∨ byteAt r 1 = 2) (hpoint : byteAt r 0 < s.nMp)
    (h5 : order5 s s.time r 0x0403 s.opsWhenSealed 8 auth = .ok s5) (hmode : s.mode.mode.responding = true) :
    cmdRelayCommand s r = .ok ((s5.replyOk r [] .round).onRelays fun x => { x with commands := x.commands
      ++ [{ mp := byteAt r 0, action := byteAt r 1, seconds := fieldAt r 4 4, port := r.port }] }) := by
  have hform : (decide (byteAt r 1 ≤ 4) && (fieldAt r 4 4 == 0 || byteAt r 1 == 1 || byteAt r 1 == 2)) = true := by
    simpa [haction, or_assoc] using htimed
  simp only [cmdRelayCommand, hauth, reserved_ok hzero, hform, needPoint_ok hpoint, h5, modeAll_ok hmode, need_true, except_ok_bind]

/-- What RECONNECT_ARM finds: the relay closed (2), ready to be armed (0), or neither (1). -/
def State.armResult (s : State) (m : Nat) : Nat :=
  if (s.point m).ledger.recon = .closed then 2
  else if (s.point m).ledger.recon = .awaitArm ∧ (s.point m).ledger.acting (s.relayCauses m) = 0 then 0 else 1

/-- The point armed where it is ready to be. -/
def State.armAsked (s : State) (m : Nat) : State :=
  if s.armResult m = 0 then s.onRelays fun x => { x with arms := union x.arms [m] } else s

theorem State.armAsked_security (s : State) (m : Nat) : (s.armAsked m).security = s.security := by
  unfold State.armAsked
  split <;> rfl

theorem cmdReconnectArm_ok {b : Binding} (hlen : r.params.length = 4) (hzero : isZero r.params 1 3 = true) (hm : m = byteAt r 0)
    (hpoint : m < s.nMp) (hpriv : needPriv s r 0x0404 = .ok ()) (hmode : modeMeter s = .ok ()) (hledger : needLedger s m = .ok b) :
    cmdReconnectArm s r = .ok ((s.armAsked m).replyOk r (le 1 (s.armResult m) ++ le 1 (s.relayCauses m) ++ zeros 2)) := by
  subst hm
  simp only [cmdReconnectArm, len_ok hlen, reserved_ok hzero, needPoint_ok hpoint, hpriv, hmode, hledger, except_ok_bind]
  rfl

/-! ## SET_CREDIT_POLICY (R359, R360) -/

/-- The policy that SET_CREDIT_POLICY asks for. -/
def policyAsked (r : Request) : PolicyReq :=
  { points := bitsSet (fieldAt r 0 32) 256, flags := BitVec.ofNat 32 (fieldAt r 32 4), low1 := fieldAt r 36 4, low2 := fieldAt r 40 4
    low3 := fieldAt r 44 4, ecLimit := fieldAt r 48 4, daily := fieldAt r 52 4, creditMax := fieldAt r 56 8 }

/-- The checks of orders 8 and 9: every point is a billing point, the levels fall, no daily limit stands with the flag that excludes
it, and a point whose flag changes has neither credit nor emergency credit. -/
structure PolicyFits (s : State) (r : Request) : Prop where
  billing : ∀ m ∈ bitsSet (fieldAt r 0 32) 256, s.isBilling m = true
  low2 : fieldAt r 40 4 ≤ fieldAt r 36 4
  low3 : fieldAt r 44 4 ≤ fieldAt r 40 4
  daily : bit (fieldAt r 32 4) 0 = false ∨ fieldAt r 52 4 = 0
  settled : ∀ m ∈ bitsSet (fieldAt r 0 32) 256, (s.point m).ledger.policy.getLsbD 0 = bit (fieldAt r 32 4) 0
    ∨ (s.point m).ledger.credit = 0 ∧ (s.point m).ledger.ec = .idle

theorem cmdSetCreditPolicy_ok (hauth : authField r 64 = .ok auth) (hflags : fieldAt r 32 4 < 16)
    (hmax : within 1 (2 ^ 62) (fieldAt r 56 8) = true) (hmask : needMask s (fieldAt r 0 32) = .ok ())
    (h5 : order5 s s.time r 0x0405 s.opsWhenSealed 64 auth = .ok s5) (hlife : s.life ≠ .retired) (hmode : modeNoCal s = .ok ())
    (hfits : PolicyFits s r) :
    cmdSetCreditPolicy s r = .ok ((s5.onRelays fun x => { x with policies := x.policies ++ [policyAsked r] }).replyOk r
      (le 2 (bitsSet (fieldAt r 0 32) 256).length ++ zeros 6 ++ sample8 s.nextRound)) := by
  obtain ⟨hbilling, hlow2, hlow3, hdaily, hsettled⟩ := hfits
  have hlevels : (decide (fieldAt r 40 4 ≤ fieldAt r 36 4) && decide (fieldAt r 44 4 ≤ fieldAt r 40 4)
      && !(bit (fieldAt r 32 4) 0 && fieldAt r 52 4 != 0)) = true := by
    simpa [hlow2, hlow3] using hdaily
  have hfree : ((bitsSet (fieldAt r 0 32) 256).all fun m => (s.point m).ledger.policy.getLsbD 0 == bit (fieldAt r 32 4) 0
      || ((s.point m).ledger.credit == 0 && (s.point m).ledger.ec == .idle)) = true :=
    List.all_eq_true.2 fun m hm => by simpa using hsettled m hm
  simp only [cmdSetCreditPolicy, hauth, flagsWithin_ok (w := 4) hflags, hmax, hmask, h5, notRetired_ok hlife, hmode,
    List.all_eq_true.2 hbilling, hlevels, hfree, need_true, except_ok_bind]
  rfl

/-- Settles O34: each command passes its checks; a relay command waits for the round boundary with its reply. -/
theorem relayCommandsComplete : Obligations.RelayCommandsComplete := by
  refine ⟨?relay, ?arm, ?policy⟩
  case relay =>
    intro s s5 r auth htakes hauth hzero haction htimed hpoint h5 hmode
    exact exec_of_accepted rfl htakes rfl (cmdRelayCommand_ok hauth hzero haction htimed hpoint h5 hmode)
  case arm =>
    intro s r m b l raw res htakes hlen hzero hm hpoint hpriv hmode hledger hl hraw hres
    subst hl hraw
    obtain rfl : res = s.armResult m := hres
    exact exec_of_sealSt_eq rfl htakes rfl (cmdReconnectArm_ok hlen hzero hm hpoint hpriv hmode hledger) (by decide)
      (congrArg Security.sealSt ((State.replyOk_security ..).trans (State.armAsked_security s m)))
  case policy =>
    intro s s5 r auth mask flags p htakes hauth hmask hflags hflags16 hp h1 hmax hpoints h5 hlife hmode hbilling hlow2 hlow3 hdaily
      hsettled
    subst hmask hflags
    obtain rfl : p = policyAsked r := hp
    exact exec_of_accepted rfl htakes rfl (cmdSetCreditPolicy_ok hauth hflags16 (within_ok h1 hmax) hpoints h5 hlife hmode
      ⟨hbilling, hlow2, hlow3, hdaily, hsettled⟩)

end Sys2Proof.Machine
end

section
/-! SUPPORT. The commands that read profiles and those of the store and of the event log (spec/13_store.md R388, R392, R395, R397;
spec/14_events_and_alarms.md R411, R412). -/
namespace Sys2Proof.Machine

variable {s : State} {r : Request}

/-! ## READ_PROFILE (R395) -/

/-- The n entries of a profile's ring from the first, 16 bytes each. -/
def State.profileEntries (s : State) (m first n : Nat) : List Byte :=
  ((List.range n).map fun i => match ringAt (s.store.profiles.getD m []) (first + i) with
    | some x => x.bytes
    | none => zeros 16).flatten

/-- What READ_PROFILE answers of n entries from the first, with the mark in force. -/
def State.profileReport (s : State) (m first n mark : Nat) : List Byte :=
  le 1 m ++ zeros 1 ++ le 2 n ++ le 4 ((s.point m).pseq - s.ringLen) ++ le 4 (s.point m).pseq ++ le 4 first ++ le 4 mark
    ++ s.profileEntries m first n

/-- Point m of state t acknowledged up to a mark. -/
def State.profileMarked (t : State) (m mark : Nat) : State := t.onPoint m fun p => { p with pmark := mark, wrapRaised := false }

/-- The record of a point whose mark has moved, handed to the writer with the reply that waits for it. -/
def State.profileAcked (u : State) (r : Request) (m : Nat) : State :=
  u.enqueue { recs := [.point m ((u.point m).record 7)], reply := some r.port }

/-- The operands of READ_PROFILE pass orders 3 and 4 of R112, and name n entries from the first. -/
structure ProfileAsked (s : State) (r : Request) (m first n : Nat) : Prop where
  asked : Asked s r 0x0501
  length : r.params.length = 12
  point : m = byteAt r 0
  present : m < s.nMp
  flags : byteAt r 1 < 2
  count : fieldAt r 2 2 ≤ 253
  oldest : first = max (fieldAt r 4 4) ((s.point m).pseq - s.ringLen)
  entries : n = min (fieldAt r 2 2) ((s.point m).pseq - first)

section Profile
variable {m first n : Nat} (h : ProfileAsked s r m first n)
include h

theorem cmdReadProfile_keeps (hkeep : byteAt r 1 = 0 ∨ fieldAt r 8 4 < (s.point m).pmark ∧ (s.point m).pmark ≤ (s.point m).pseq) :
    cmdReadProfile s r = .ok ((s.countTorn (ringTorn (s.store.profiles.getD m []) first n)).replyOk r
      (s.profileReport m first n (s.point m).pmark)) := by
  obtain ⟨⟨-, hpriv, hmode⟩, hlen, rfl, hpresent, hflags, hcount, rfl, rfl⟩ := h
  have hmarked : (!(bit (byteAt r 1) 0 && decide ((s.point (byteAt r 0)).pseq < fieldAt r 8 4 + 1))) = true := by
    obtain hread | ⟨hold, hmark⟩ := hkeep
    · rw [hread]
      rfl
    · rw [decide_eq_false (by omega), Bool.and_false, Bool.not_false]
  have hstays : (bit (byteAt r 1) 0 && decide ((s.point (byteAt r 0)).pmark < fieldAt r 8 4 + 1)) = false := by
    obtain hread | ⟨hold, hmark⟩ := hkeep
    · rw [hread]
      rfl
    · rw [decide_eq_false (by omega), Bool.and_false]
  simp only [cmdReadProfile, len_ok hlen, flagsWithin_ok (w := 1) hflags, hcount, needPoint_ok hpresent, hpriv, modeResp_ok hmode,
    hmarked, hstays, decide_true, need_true, Bool.false_eq_true, if_false, except_ok_bind]
  rfl

theorem cmdReadProfile_moves (hack : byteAt r 1 = 1) (hnew : (s.point m).pmark ≤ fieldAt r 8 4)
    (hheld : fieldAt r 8 4 < (s.point m).pseq) :
    cmdReadProfile s r = .ok (((((s.countTorn (ringTorn (s.store.profiles.getD m []) first n)).profileMarked m
      (fieldAt r 8 4 + 1)).profileAcked r m).replyOk r (s.profileReport m first n (fieldAt r 8 4 + 1)) .store)) := by
  obtain ⟨⟨-, hpriv, hmode⟩, hlen, rfl, hpresent, hflags, hcount, rfl, rfl⟩ := h
  have hset : bit (byteAt r 1) 0 = true := by
    rw [hack]
    rfl
  have hmarked : decide ((s.point (byteAt r 0)).pseq < fieldAt r 8 4 + 1) = false := decide_eq_false (by omega)
  have hmoves : decide ((s.point (byteAt r 0)).pmark < fieldAt r 8 4 + 1) = true := decide_eq_true (by omega)
  simp only [cmdReadProfile, len_ok hlen, flagsWithin_ok (w := 1) hflags, hcount, needPoint_ok hpresent, hpriv, modeResp_ok hmode,
    hset, hmarked, hmoves, decide_true, Bool.and_false, Bool.and_true, Bool.not_false, need_true, if_true, except_ok_bind]
  rfl

end Profile

/-- Settles O26: the mark moves where the acknowledgement lies at or past it, and the reply then waits for the point's record. -/
theorem profileReadsComplete : Obligations.ProfileReadsComplete := by
  intro s r m want first n payload t hasked hlen hm hpresent hflags hwant hcount hfirst hn ht hpayload
  subst hwant ht
  obtain rfl : payload = s.profileReport m first n := hpayload
  have h : ProfileAsked s r m first n := ⟨hasked, hlen, hm, hpresent, hflags, hcount, hfirst, hn⟩
  refine ⟨fun hread => ?_, fun hack hold hmark => ?_, fun hack hnew hheld u hu => ?_⟩
  · exact exec_of_sealSt_eq rfl hasked.1 rfl (cmdReadProfile_keeps h (.inl hread)) (by decide) (by rw [State.replyOk_security]; rfl)
  · exact exec_of_sealSt_eq rfl hasked.1 rfl (cmdReadProfile_keeps h (.inr ⟨hold, hmark⟩)) (by decide)
      (by rw [State.replyOk_security]; rfl)
  · subst hu
    exact exec_of_sealSt_eq rfl hasked.1 rfl (cmdReadProfile_moves h hack hnew hheld) (by decide)
      (by rw [State.replyOk_security]; rfl)

/-! ## HOST_AREA (R397) -/

/-- The operands of HOST_AREA pass order 3 of R112, and name n bytes from an offset within the region. -/
structure HostAsked (s : State) (r : Request) (off n : Nat) : Prop where
  takes : Takes s r
  mode : s.mode.mode.responding = true
  offset : off = fieldAt r 4 4
  count : n = fieldAt r 8 2
  flags : byteAt r 0 < 2
  zero1 : isZero r.params 1 3 = true
  zero10 : isZero r.params 10 2 = true
  some : 1 ≤ n
  inside : off + n ≤ 3145728
  priv : needPriv s r 0x0509 false (!(bit (byteAt r 0) 0)) = .ok ()

theorem cmdHostArea_read {off n : Nat} (h : HostAsked s r off n) (hread : bit (byteAt r 0) 0 = false) (hcount : n ≤ 4000)
    (hlen : r.params.length = 12) :
    cmdHostArea s r = .ok (s.replyOk r (le 4 off ++ le 2 n ++ zeros 2 ++ readHost s.store.host off n)) := by
  obtain ⟨-, hmode, rfl, rfl, hflags, hzero1, hzero10, hsome, hinside, hpriv⟩ := h
  rw [hread] at hpriv
  simp only [cmdHostArea, hlen, flagsWithin_ok (w := 1) hflags, reserved_ok hzero1, reserved_ok hzero10, hread, hsome, hcount,
    hinside, hpriv, modeAll_ok hmode, Nat.le_refl, Bool.false_eq_true, if_false, beq_self_eq_true, decide_true, Bool.false_or,
    Bool.and_self, need_true, except_ok_bind]

theorem cmdHostArea_write {off n : Nat} (h : HostAsked s r off n) (hwrite : bit (byteAt r 0) 0 = true)
    (hlen : r.params.length = 12 + n) :
    cmdHostArea s r = .ok ((s.enqueue { prio := 3, recs := [.host off (r.params.drop 12)], reply := some r.port }).replyOk r
      (le 4 off ++ le 2 n ++ zeros 2) .store) := by
  obtain ⟨-, hmode, rfl, rfl, hflags, hzero1, hzero10, hsome, hinside, hpriv⟩ := h
  rw [hwrite] at hpriv
  simp only [cmdHostArea, hlen, flagsWithin_ok (w := 1) hflags, reserved_ok hzero1, reserved_ok hzero10, hwrite, hsome,
    hinside, hpriv, modeAll_ok hmode, Nat.le_add_right, if_true, beq_self_eq_true, decide_true, Bool.true_or,
    Bool.and_self, need_true, except_ok_bind]

/-! ## SCRUB_NOW and CHECKPOINT_NOW (R392, R388) -/

theorem cmdScrubNow_ok (hasked : Asked s r 0x0507) (hlen : r.params = []) (hidle : s.store.scrub.nowOp = none) {t : State} {o : OpRef}
    (hacc : s.accept r 0x0507 = some (t, o)) :
    cmdScrubNow s r = .ok
      (t.onStore fun x => { x with scrub := { x.scrub.restart t.time with nowOp := some o, full := true } }) := by
  obtain ⟨-, hpriv, hmode⟩ := hasked
  simp only [cmdScrubNow, len_ok (List.length_eq_zero_iff.2 hlen), hpriv, modeAll_ok hmode, hidle, Option.isNone_none, need_true, hacc,
    except_ok_bind]

theorem cmdCheckpointNow_ok (hasked : Asked s r 0x0508) (hlen : r.params = []) {t : State} {o : OpRef}
    (hacc : s.accept r 0x0508 true = some (t, o)) :
    cmdCheckpointNow s r = .ok (t.onPower fun p => { p with ckptNow := true, ckptOps := p.ckptOps ++ [o] }) := by
  obtain ⟨-, hpriv, hmode⟩ := hasked
  simp only [cmdCheckpointNow, len_ok (List.length_eq_zero_iff.2 hlen), hpriv, modeAll_ok hmode, hacc, except_ok_bind]

/-! ## FREEZE_LOG and UNFREEZE_LOG (R411, R412) -/

/-- The log frozen at the next record's sequence. -/
def State.logFrozen (s : State) : State := s.onEvents fun e => { e with freeze := some { seq := e.seq, start := s.now } }

theorem cmdFreezeLog_ok (hasked : Asked s r 0x0504) (hlen : r.params = []) (hfree : s.events.freeze = none) :
    cmdFreezeLog s r = .ok (s.logFrozen.replyOk r (le 4 s.events.seq ++ sample8 (s.now + 76800000))) := by
  obtain ⟨-, hpriv, hmode⟩ := hasked
  simp only [cmdFreezeLog, len_ok (List.length_eq_zero_iff.2 hlen), hpriv, modeResp_ok hmode, hfree, Option.isNone_none, need_true,
    except_ok_bind]
  rfl

theorem cmdUnfreezeLog_free (hasked : Asked s r 0x0505) (hlen : r.params = []) (hfree : s.events.freeze = none) :
    cmdUnfreezeLog s r = .ok (s.replyOk r (le 1 1 ++ zeros 11)) := by
  obtain ⟨-, hpriv, hmode⟩ := hasked
  simp only [cmdUnfreezeLog, len_ok (List.length_eq_zero_iff.2 hlen), hpriv, modeResp_ok hmode, hfree, except_ok_bind]

theorem cmdUnfreezeLog_frozen (hasked : Asked s r 0x0505) (hlen : r.params = []) {f : Freeze} (hfrozen : s.events.freeze = some f) :
    cmdUnfreezeLog s r = .ok
      ((s.replyOk r (le 1 0 ++ zeros 3 ++ le 4 f.count ++ le 4 f.lost) .store).releaseLog 0 (some r.port)) := by
  obtain ⟨-, hpriv, hmode⟩ := hasked
  simp only [cmdUnfreezeLog, len_ok (List.length_eq_zero_iff.2 hlen), hpriv, modeResp_ok hmode, hfrozen, except_ok_bind]

theorem State.releaseLog_security (s : State) (cause : Nat) (reply : Option Nat) : (s.releaseLog cause reply).security = s.security :=
  (State.releaseLog_same ..).security (by decide)

theorem State.accept_clock {t : State} {op : Nat} {c : Bool} {o : OpRef} (hacc : s.accept r op c = some (t, o)) :
    t.clock = s.clock := by
  unfold State.accept at hacc
  dsimp only at hacc
  split at hacc
  · cases hacc
  · cases hacc
    exact State.reply_clock ..

theorem State.accept_time {t : State} {op : Nat} {c : Bool} {o : OpRef} (hacc : s.accept r op c = some (t, o)) :
    t.time = s.time := by
  rw [State.time, State.time, State.timeOf, State.timeOf, State.now, State.now, State.accept_clock hacc]

/-- Settles O28: each command passes its checks; what the writer or the recorder has to do first holds the reply. -/
theorem storeCommandsComplete : Obligations.StoreCommandsComplete := by
  refine ⟨?host, ?scrub, ?checkpoint, ?freeze, ?unfreeze⟩
  case host =>
    intro s r off n htakes hmode hoff hn hflags hzero1 hzero10 hsome hinside hpriv
    have h : HostAsked s r off n := ⟨htakes, hmode, hoff, hn, hflags, hzero1, hzero10, hsome, hinside, hpriv⟩
    refine ⟨fun hread hcount hlen => ?_, fun hwrite hlen => ?_⟩
    · exact exec_of_reply rfl htakes rfl (by decide) (cmdHostArea_read h hread hcount hlen)
    · exact exec_of_sealSt_eq rfl htakes rfl (cmdHostArea_write h hwrite hlen) (by decide) (by rw [State.replyOk_security]; rfl)
  case scrub =>
    intro s r hasked hlen hidle hroom
    obtain ⟨t, o, hacc, hrun⟩ := exec_of_handle_sealSt_eq (i := .scrubNow r) rfl hasked.1 rfl hroom
      (fun t o => cmdScrubNow_ok hasked hlen hidle) (by decide) fun _ _ => rfl
    rw [State.accept_time hacc] at hrun
    exact ⟨t, o, hacc, hrun⟩
  case checkpoint =>
    intro s r hasked hlen hroom
    exact exec_of_handle_sealSt_eq rfl hasked.1 rfl hroom (fun t o => cmdCheckpointNow_ok hasked hlen) (by decide) fun _ _ => rfl
  case freeze =>
    intro s r t hasked hlen hfree ht
    obtain rfl : t = s.logFrozen := ht
    exact exec_of_sealSt_eq rfl hasked.1 rfl (cmdFreezeLog_ok hasked hlen hfree) (by decide) (by rw [State.replyOk_security]; rfl)
  case unfreeze =>
    intro s r hasked hlen
    refine ⟨fun hfree => ?_, fun f hfrozen => ?_⟩
    · exact exec_of_reply rfl hasked.1 rfl (by decide) (cmdUnfreezeLog_free hasked hlen hfree)
    · exact exec_of_sealSt_eq rfl hasked.1 rfl (cmdUnfreezeLog_frozen hasked hlen hfrozen) (by decide)
        (by rw [State.releaseLog_security, State.replyOk_security])

end Sys2Proof.Machine
end

section
/-! SUPPORT. The events of the calendar's boundaries and of the tamper inputs where they are due (spec/08_engine.md R233;
spec/11_tariffs_demand_billing.md R307, R318, R320, R328; spec/15_tamper.md R422 to R426). -/
namespace Sys2Proof.Machine

variable {s : State}

/-! ## Signatures of deferred snapshots (R328) -/

/-- The oldest deferred snapshot leaves the queue of signatures. -/
def State.signTaken (s : State) (rest : List (Nat × Nat)) : State := s.onTariff fun x => { x with signQueue := rest }

/-- The snapshot x of point m signed under its statement's header, and its signature handed to the writer. -/
def State.snapshotSigned (t : State) (m q : Nat) (x : Snapshot) : State :=
  (t.sign "OVP-CRAISKIX" (t.statementHeader 0 m 512 (zeros 32) ++ x.bytes)).2.q12 [.signature m q
    (t.statementHeader 0 m 512 (zeros 32) ++ (t.sign "OVP-CRAISKIX" (t.statementHeader 0 m 512 (zeros 32) ++ x.bytes)).1)]

section Signing
variable {m q : Nat} {rest : List (Nat × Nat)} (hqueue : s.tariff.signQueue = (m, q) :: rest) (hready : s.cp.st = .ready)
  (hmode : s.mode.mode.responding = true) (hentropy : s.security.entropyFailed = false)
include hqueue hready hmode hentropy

/-- The engine and the entropy source are ready, so the oldest deferred snapshot is taken. -/
theorem execBoundarySigning_of_ready : execBoundarySigning s = .next (match (s.signTaken rest).findSnapshot m q with
    | some x => if s.security.idKey = false then s.signTaken rest else (s.signTaken rest).snapshotSigned m q x
    | none => s.signTaken rest) := by
  have hdue : ¬(s.cp.st ≠ .ready ∨ s.mode.mode.responding = false ∨ s.security.entropyFailed = true) := by
    simp [hready, hmode, hentropy]
  simp only [execBoundarySigning, hqueue, if_neg hdue]
  rw [← State.signTaken]
  cases (s.signTaken rest).findSnapshot m q with
  | none => rfl
  | some x => cases hkey : s.security.idKey <;> simp [hkey, State.signTaken, State.snapshotSigned]

theorem execBoundarySigning_of_held {x : Snapshot} (hsnap : (s.signTaken rest).findSnapshot m q = some x)
    (hkey : s.security.idKey = true) : execBoundarySigning s = .next ((s.signTaken rest).snapshotSigned m q x) := by
  rw [execBoundarySigning_of_ready hqueue hready hmode hentropy, hsnap]
  simp only [hkey, Bool.true_eq_false, if_false]

theorem execBoundarySigning_of_lost (hnone : (s.signTaken rest).findSnapshot m q = none) :
    execBoundarySigning s = .next (s.signTaken rest) := by
  rw [execBoundarySigning_of_ready hqueue hready hmode hentropy, hnone]

theorem execBoundarySigning_of_keyless (hkey : s.security.idKey = false) : execBoundarySigning s = .next (s.signTaken rest) := by
  rw [execBoundarySigning_of_ready hqueue hready hmode hentropy]
  cases (s.signTaken rest).findSnapshot m q with
  | none => rfl
  | some x => exact congrArg Host.Outcome.next (if_pos hkey)

end Signing

/-! ## The table of boundaries (R318) -/

theorem execBoundaryTableLow_of_short (hstore : s.storeOn = true) (hboot : s.mode.mode = .boot → s.cp.st = .ready)
    (hshort : s.horizonS < s.parN 0x303 * 3600) (hdue : ∀ t, s.tariff.lowAt = some t → t + 460800000 ≤ s.now) :
    execBoundaryTableLow s =
      .next ((s.onTariff fun t => { t with tableLow := true, lowAt := some s.now }).raise 38 0 0 []) := by
  have hruns : ¬(s.storeOn = false ∨ (s.mode.mode = .boot ∧ s.cp.st ≠ .ready) ∨ s.parN 0x303 * 3600 ≤ s.horizonS) := by
    rw [hstore]
    rintro (h | ⟨h, hwaits⟩ | h)
    · exact Bool.false_ne_true h.symm
    · exact hwaits (hboot h)
    · omega
  unfold execBoundaryTableLow
  rw [if_neg hruns]
  cases hlow : s.tariff.lowAt with
  | none => rfl
  | some t => exact congrArg Host.Outcome.next (if_pos (decide_eq_true (hdue t hlow)))

/-- Settles O54: each row's condition holds, and the row answers the state that its rule gives. -/
theorem boundaryEventsComplete : Obligations.BoundaryEventsComplete := by
  refine ⟨?freeze, ?commit, ?signing, ?refill, ?low⟩
  case freeze => exact fun s => ⟨_, rfl, execBoundaryFreeze_same s _ rfl, rfl⟩
  case commit =>
    intro s t ht
    subst ht
    rfl
  case signing =>
    intro s m q rest t hqueue hready hmode hentropy ht
    obtain rfl : t = s.signTaken rest := ht
    refine ⟨fun x h hsnap hkey hh => ?_, execBoundarySigning_of_lost hqueue hready hmode hentropy,
      execBoundarySigning_of_keyless hqueue hready hmode hentropy⟩
    subst hh
    exact execBoundarySigning_of_held hqueue hready hmode hentropy hsnap hkey
  case refill =>
    intro s hready hmet
    exact congrArg Host.Outcome.next (if_pos ⟨hready, hmet⟩)
  case low => exact fun s => execBoundaryTableLow_of_short

/-! ## The tamper inputs (R422 to R426) -/

section Input
variable {a : TamperLevels} {i n : Nat} {t : State} (hon : s.inputOn i = true)
include hon

/-- A sample that agrees: the 64th in a row clears the alarm. -/
theorem State.sampleInput_of_agrees (hagrees : s.agrees a i = true) (hn : n = min 64 ((s.tamper.inputs.getD i {}).agree + 1))
    (ht : t = s.onTamper fun t => { t with inputs := upd t.inputs i fun _ => { agree := n } }) :
    s.sampleInput a i = if n = 64 then t.clearAlarm i 0 else t := by
  subst hn ht
  simp only [State.sampleInput, hon, hagrees, Bool.not_true, Bool.false_eq_true, if_false, if_true]

/-- A sample that disagrees: the last that the input's rule asks for raises the alarm. -/
theorem State.sampleInput_of_disagrees (hdisagrees : s.agrees a i = false)
    (hn : n = min 3 ((s.tamper.inputs.getD i {}).disagree + 1))
    (ht : t = s.onTamper fun t => { t with inputs := upd t.inputs i fun _ => { disagree := n } }) :
    s.sampleInput a i = if t.raiseAfter i ≤ n then t.raiseAlarm i 0 (if i < 8 then i else 0) else t := by
  subst hn ht
  simp only [State.sampleInput, hon, hdisagrees, Bool.not_true, Bool.false_eq_true, if_false]

end Input

/-- Settles O52: each row's condition holds, and the row answers the state that its rule gives. -/
theorem tamperEventsComplete : Obligations.TamperEventsComplete := by
  refine ⟨?sample, ?input, ?glitch, ?clear⟩
  case sample =>
    intro s a hpower
    exact congrArg Host.Outcome.next (if_neg hpower)
  case input =>
    intro s a i x n t hon hx
    subst hx
    exact ⟨State.sampleInput_of_agrees hon, State.sampleInput_of_disagrees hon⟩
  case glitch =>
    intro s hpower
    exact congrArg Host.Outcome.next (if_neg hpower)
  case clear =>
    intro s t hat hdue
    have hrun : execSupplyGlitchClear s = .next (if t + slotsPerS ≤ s.slotNow then
        (s.clearAlarm 11 0).onTamper fun x => { x with glitchAt := none } else s) := by
      simp only [execSupplyGlitchClear, hat]
    rw [if_pos hdue] at hrun
    exact hrun

end Sys2Proof.Machine
end

section
/-! SUPPORT. The events of the store, of the recorder, of the relay port, of the security engine and of the microcode where they are due
(spec/12_prepayment.md R363; spec/13_store.md R369 to R372, R390; spec/14_events_and_alarms.md R399; spec/16_security.md R451;
spec/17_live_servicing.md R485). -/
namespace Sys2Proof.Machine

variable {s : State}

/-! ## The writer's first job (R369 to R372) -/

/-- The first job j confirmed, with r behind it. -/
def State.jobConfirmed (t : State) (j : StoreJob) (r : List StoreJob) : State :=
  (((t.onStore fun x => { x with jobs := r }).writeJob j).jobReleases j).ckptRecord j

section Writer
variable {v : Nat} {j : StoreJob} {r : List StoreJob} {t : State}

theorem State.storeJobConfirm_of_fresh (hjobs : s.store.jobs = j :: r) (hstore : s.storeOn = true) (hfresh : j.wait = false) :
    s.storeJobConfirm v = s.tryFirst v := by
  simp only [State.storeJobConfirm, hjobs, hstore, hfresh, Bool.not_false, Bool.and_self, if_true]

theorem State.writerRecheck_of_waiting (hjobs : s.store.jobs = j :: r) (hstore : s.storeOn = true) (hwaits : j.wait = true) :
    s.writerRecheck v = s.tryFirst v := by
  simp only [State.writerRecheck, hjobs, hstore, hwaits, Bool.and_self, if_true]

theorem State.tryFirst_of_energy (hjobs : s.store.jobs = j :: r) (ht : t = s.onPower fun p => { p with vholdMv := v })
    (henergy : t.mayWrite v = true) : s.tryFirst v = t.jobConfirmed j r := by
  subst ht
  simp only [State.tryFirst, State.confirmFirst, State.onPower_store, hjobs, henergy, if_true]
  rfl

theorem State.tryFirst_of_shortage (hjobs : s.store.jobs = j :: r) (ht : t = s.onPower fun p => { p with vholdMv := v })
    (hshort : t.mayWrite v = false) : s.tryFirst v = t.deferFirst j r v := by
  subst ht
  simp only [State.tryFirst, State.onPower_store, hjobs, hshort, Bool.false_eq_true, if_false]

/-- Without the energy of a word, the job only waits. -/
theorem State.deferFirst_of_noWord (hword : s.mayWord v = false) : s.deferFirst j r v = s.onStore fun x => { x with
    jobs := { j with wait := true } :: r, deferred := if j.wait then x.deferred else incSat 32 x.deferred } := by
  simp only [State.deferFirst, hword, Bool.false_and, Bool.false_eq_true, if_false, Bool.or_false, Bool.not_false, Bool.and_true]

end Writer

/-! ## The scrubber's word (R390) -/

theorem State.scrubPace_counts (s : State) : s.scrubPace.store.scrub.pos = s.store.scrub.pos
    ∧ s.scrubPace.store.corrected = s.store.corrected ∧ s.scrubPace.store.scrub.corrected = s.store.scrub.corrected := by
  unfold State.scrubPace
  split <;> exact ⟨rfl, rfl, rfl⟩

theorem State.rewriteWord_store (s : State) (addr : Nat) (value again : WordRead) :
    (s.rewriteWord addr value again).store = s.store := by
  unfold State.rewriteWord
  split <;> rfl

/-- A word that is not the store's last moves the scrubber on by one. -/
theorem execScrubWord_of_inner {normal margin again : WordRead} (hstore : s.storeOn = true) (hruns : s.store.scrub.paused = false)
    (hinner : s.store.scrub.pos + 1 < storeWords) :
    execScrubWord normal margin again s = .next ((s.scrubPace.scrubAct (8 * s.store.scrub.pos) normal margin again).onStore fun t =>
      { t with scrub := { t.scrub with pos := s.store.scrub.pos + 1 } }) := by
  obtain ⟨hpos, -, -⟩ := s.scrubPace_counts
  simp only [execScrubWord, hstore, hruns, hpos, hinner, Bool.not_false, Bool.and_self, if_true]

/-- A word that reads good at both references is left. -/
theorem State.scrubAct_good (s : State) (addr : Nat) (again : WordRead) : s.scrubAct addr .good .good again = s := by
  simp only [State.scrubAct, normalRead, if_true]

/-- What the scrubber leaves of a word that reads corrected. -/
theorem State.scrubAct_corrected (s : State) (addr : Nat) (margin again : WordRead) :
    (s.scrubAct addr .corrected margin again).store = { s.store with
      corrected := incSat 32 s.store.corrected, scrub := { s.store.scrub with corrected := s.store.scrub.corrected + 1 } } :=
  State.rewriteWord_store ..

/-! ## An event of Q13 (R399) -/

/-- What the recorder's own consequences leave: the number of the next record, and Q13 but for events behind those it holds. -/
def State.RecordsMore (s t : State) : Prop := t.events.seq = s.events.seq ∧ ∃ l, t.events.q13 = s.events.q13 ++ l

theorem State.RecordsMore.of_events_eq {t : State} (h : t.events = s.events) : s.RecordsMore t :=
  ⟨congrArg Events.seq h, [], by rw [h, List.append_nil]⟩

theorem State.RecordsMore.trans {t u : State} (h : s.RecordsMore t) (k : t.RecordsMore u) : s.RecordsMore u := by
  obtain ⟨hseq, l, hq⟩ := h
  obtain ⟨kseq, l', kq⟩ := k
  exact ⟨kseq.trans hseq, l ++ l', by rw [kq, hq, List.append_assoc]⟩

theorem State.RecordsMore.foldl {α : Type} {f : State → α → State} (hf : ∀ y a, State.RecordsMore y (f y a)) (l : List α)
    (s : State) : s.RecordsMore (l.foldl f s) := by
  induction l generalizing s with
  | nil => exact .of_events_eq rfl
  | cons a l ih => exact (hf s a).trans (ih (f s a))

theorem State.notifyPort_recordsMore (s : State) (g : EvGroup) (h : EvHead) (p : Nat) : s.RecordsMore (s.notifyPort g h p) := by
  unfold State.notifyPort
  dsimp only
  split
  · exact .of_events_eq rfl
  · split
    · split
      · exact .of_events_eq rfl
      · exact ⟨rfl, _, rfl⟩
    · exact .of_events_eq rfl

theorem State.latchGroup_events (s : State) (g : EvGroup) (seq : Option Nat) : (s.latchGroup g seq).events = s.events :=
  (State.latchGroup_same s g seq).events (by decide)

/-- Outside a freeze the records of a group are numbered from the next sequence on, and Q13 keeps what it holds. -/
theorem State.record_of_unfrozen (hfree : s.events.freeze = none) (g : EvGroup) :
    (∃ l, (s.record g).events.q13 = s.events.q13 ++ l)
      ∧ (s.record g).events.seq = (s.events.seq + (s.groupRecords g).length) % 2 ^ 32 := by
  have hrecord : s.record g = s.recordGroup g none := by simp only [State.record, hfree]
  have hmore : State.RecordsMore (s.onEvents fun e => { e with seq := (s.events.seq + (s.groupRecords g).length) % 2 ^ 32 })
      (s.recordGroup g none) := by
    simp only [State.recordGroup, State.onEvents_events, hfree]
    refine .trans (.of_events_eq ?_) (.foldl (fun y p => y.notifyPort_recordsMore ..) _ _)
    rw [State.latchGroup_events]
    rfl
  rw [hrecord]
  exact ⟨hmore.2, hmore.1⟩

theorem extRecords_length (seq : Nat) (ps : List (List Byte)) : (extRecords seq ps).length = ps.length := by
  induction ps generalizing seq with
  | nil => rfl
  | cons p ps ih => rw [extRecords, List.length_cons, List.length_cons, ih]

/-- How many records a group takes depends on the group alone. -/
theorem State.groupRecords_length (s : State) (g : EvGroup) :
    (s.groupRecords g).length = (extPieces 15 (g.fields.drop 4)).length + 1 := by
  rw [State.groupRecords, List.length_cons, extRecords_length]

section Event
variable {g : EvGroup} (htake : takeable EvGroup.words (s.creditsMax 13) s.events.q13 = some g)
include htake

theorem execEventGroup_of_whole (hwhole : g.poison = false) : execEventGroup false s = .next (s.eventTaken.record g) := by
  simp only [execEventGroup, htake, hwhole, Bool.or_self, Bool.false_eq_true, if_false]

theorem execEventGroup_of_poisoned {u : Bool} (hpoison : (g.poison || u) = true) :
    execEventGroup u s = .next (s.eventTaken.poisoned 13) := by
  simp only [execEventGroup, htake, hpoison, if_true]

end Event

/-! ## A refresh of the relays (R363) -/

/-- A refresh of n boards: the directives that Q15 holds are sent, and RLY_DI is read. -/
theorem execRelayRefresh_of_due {di : List Bool} {n : Nat} (hn : n = s.parN 0x400 % 64) (hboards : n ≠ 0) (hpace : s.now % 12800 = 0)
    (hstore : s.storeOn = true) : ∃ t bs, execRelayRefresh di s = .next t ∧ t.relays = { s.relays with
      dirs := takeDirectives s.relays.dirs s.relays.q15, q15 := [], boards := bs
      frames := (List.range n).map fun b => relayFrame b ((takeDirectives s.relays.dirs s.relays.q15).getD b 0)
      readback := (List.range n).map fun b => wireFrame di (n - 1 - b)
      config := s.parN 0x400, refreshes := s.relays.refreshes + 1 } := by
  subst hn
  have hdue : ¬(s.now % 12800 ≠ 0 ∨ s.storeOn = false) := by simp [hpace, hstore]
  unfold execRelayRefresh
  extract_lets n fresh boards dirs frames rb cmp boards' refreshed faulted mismatched old changed
  rw [if_neg hdue, if_neg hboards]
  have hraised : Same partEvents refreshed
      (if changed.isEmpty then mismatched else mismatched.raise 46 0 0 (le 32 (maskOf changed))) := by
    have hfaulted : Same partEvents refreshed faulted := by
      refine Same.foldl (fun y b => ?_) (Same.refl _)
      exact Same.ite (Same.step (State.raise_same ..) (by decide) (.refl y)) (.refl y)
    have hmismatched : Same partEvents refreshed mismatched := by
      refine Same.foldl (fun y b => ?_) hfaulted
      exact Same.step (State.raise_same ..) (by decide) (.refl y)
    exact Same.ite hmismatched (Same.step (State.raise_same ..) (by decide) hmismatched)
  refine ⟨_, boards', rfl, (hraised.relays (by decide)).trans ?_⟩
  rfl

/-! ## The statement -/

/-- Settles O57: each row's condition holds, and the row answers the state that its rule gives. -/
theorem storeAndSecurityEventsComplete : Obligations.StoreAndSecurityEventsComplete := by
  refine ⟨?writer, ?goodWord, ?correctedWord, ?event, ?relays, ?security, ?switch, ?expired⟩
  case writer =>
    intro s v j r t hjobs hstore ht
    refine ⟨fun henergy hfresh => ?_, fun hshort hfresh => ?_, fun henergy hwaits => ?_, fun hshort hwaits => ?_,
      State.deferFirst_of_noWord⟩
    · exact congrArg (fun x : State => Host.Outcome.next x.drain)
        ((State.storeJobConfirm_of_fresh hjobs hstore hfresh).trans (State.tryFirst_of_energy hjobs ht henergy))
    · exact congrArg (fun x : State => Host.Outcome.next x.drain)
        ((State.storeJobConfirm_of_fresh hjobs hstore hfresh).trans (State.tryFirst_of_shortage hjobs ht hshort))
    · exact congrArg (fun x : State => Host.Outcome.next x.drain)
        ((State.writerRecheck_of_waiting hjobs hstore hwaits).trans (State.tryFirst_of_energy hjobs ht henergy))
    · exact congrArg (fun x : State => Host.Outcome.next x.drain)
        ((State.writerRecheck_of_waiting hjobs hstore hwaits).trans (State.tryFirst_of_shortage hjobs ht hshort))
  case goodWord =>
    intro s a hstore hruns hinner
    refine ⟨_, execScrubWord_of_inner hstore hruns hinner, rfl, ?_⟩
    rw [State.scrubAct_good]
    exact Same.step (State.onStore_same _ _ fun _ => rfl) (by decide) ((State.scrubPace_same s).mono (by decide))
  case correctedWord =>
    intro s m a hstore hruns hinner
    obtain ⟨-, hcorrected, hpass⟩ := s.scrubPace_counts
    refine ⟨_, execScrubWord_of_inner hstore hruns hinner, rfl, ?_, ?_⟩
    · rw [State.onStore_store, State.scrubAct_corrected, hcorrected]
    · rw [State.onStore_store, State.scrubAct_corrected, hpass]
  case event =>
    intro s g htake hfree
    have hfree' : s.eventTaken.events.freeze = none := hfree
    obtain ⟨hqueue, hseq⟩ := State.record_of_unfrozen hfree' g
    have hlen : (s.eventTaken.groupRecords g).length = (s.groupRecords g).length := by
      rw [State.groupRecords_length, State.groupRecords_length]
    rw [hlen] at hseq
    exact ⟨fun hwhole => ⟨_, execEventGroup_of_whole htake hwhole, hqueue, hseq⟩, fun u => execEventGroup_of_poisoned htake⟩
  case relays =>
    intro s di n hn hboards hpace hstore
    obtain ⟨t, bs, hrun, ht⟩ := execRelayRefresh_of_due (di := di) hn hboards hpace hstore
    refine ⟨t, hrun, (execRelayRefresh_same di s t hrun).mono (by decide), ?_⟩
    rw [ht]
    exact ⟨rfl, rfl, rfl, rfl, rfl, rfl⟩
  case security =>
    intro s j rest hjobs hready
    refine ⟨?_, ?_⟩
    · simp [exec, execSecurityJobDone, hjobs, hready]
    · simp [exec, execSecurityJobDone, hjobs, hready]
  case switch =>
    intro s hpermitted
    refine ⟨fun k hboot hready => ?_, fun u hboot hreq => ?_⟩
    · simp [exec, execUcodeSwitch, hboot, hready, hpermitted]
    · simp [exec, execUcodeSwitch, hboot, hreq, hpermitted]
  case expired =>
    intro s u hbarred hboot hreq hold
    simp [exec, execUcodeSwitch, hboot, hreq, hbarred, hold]

end Sys2Proof.Machine
end

section
/-! SUPPORT. The commands of calibration and of the seal (spec/06_converters.md R184; spec/16_security.md R467 to R469). -/
namespace Sys2Proof.Machine

variable {s s5 : State} {r : Request} {auth : List Byte}

/-! ## CAL_WRITE (R467) -/

/-- The lock, the mode and CAL_LINK let a sealed device be calibrated. -/
structure CalOpen (s : State) : Prop where
  life : s.life ≠ .retired
  sealed : s.life = .sealed → s.lockOn = false ∧ s.mode.mode ≠ .commission ∧ s.tamper.calLink = true

/-- A check that only a sealed device has to pass. -/
theorem unless_sealed {b : Bool} (h : s.life = .sealed → b = false) : (!(s.life == .sealed && b)) = true := by
  by_cases hsealed : s.life = .sealed
  · rw [h hsealed, Bool.and_false, Bool.not_false]
  · rw [beq_false_of_ne hsealed, Bool.false_and, Bool.not_false]

theorem CalOpen.unlocked (h : CalOpen s) : (!(s.life == .sealed && s.lockOn)) = true := unless_sealed fun hl => (h.sealed hl).1

theorem CalOpen.mode (h : CalOpen s) : (!(s.life == .sealed && s.mode.mode == .commission)) = true :=
  unless_sealed fun hl => beq_false_of_ne (h.sealed hl).2.1

theorem CalOpen.link (h : CalOpen s) : (!(s.life == .sealed && !s.tamper.calLink)) = true :=
  unless_sealed fun hl => by rw [(h.sealed hl).2.2, Bool.not_true]

section CalWrite
variable {total : Nat} {q : Partial} (hasked : Asked s r 0x0701) (hlen : 13 ≤ r.params.length) (htotal : total = fieldAt r 8 4)
  (hflags : byteAt r 0 < 2) (hzero : isZero r.params 1 3 = true) (hsize : within 1 65536 total = true) (hopen : CalOpen s)
  (hjoin : joinFragment s.security.calPart (bit (byteAt r 0) 0) (fieldAt r 4 4) total (r.params.drop 12) r.port 0 = some q)
include hasked hlen htotal hflags hzero hsize hopen hjoin

theorem cmdCalWrite_part (hpart : q.data.length < total) :
    cmdCalWrite s r = .ok ((s.onSec fun x => { x with calPart := some q }).replyOk r (le 4 q.data.length)) := by
  obtain ⟨-, hpriv, hmode⟩ := hasked
  subst htotal
  simp only [cmdCalWrite, hlen, flagsWithin_ok (w := 1) hflags, reserved_ok hzero, hsize, hpriv, hopen.unlocked,
    notRetired_ok hopen.life, modeAll_ok hmode, need67_ok hopen.mode, hopen.link, hjoin, hpart, decide_true, need_true, if_true,
    except_ok_bind]

theorem cmdCalWrite_whole (hwhole : total ≤ q.data.length) {t : State} {o : OpRef} (hacc : s.accept r 0x0701 = some (t, o)) :
    cmdCalWrite s r = .ok (t.onSec fun x => { x with
      calPart := none, jobs := x.jobs ++ [{ kind := .cal, op := some o, data := q.data, port := r.port }] }) := by
  obtain ⟨-, hpriv, hmode⟩ := hasked
  subst htotal
  simp only [cmdCalWrite, hlen, flagsWithin_ok (w := 1) hflags, reserved_ok hzero, hsize, hpriv, hopen.unlocked,
    notRetired_ok hopen.life, modeAll_ok hmode, need67_ok hopen.mode, hopen.link, hjoin, Nat.not_lt.2 hwhole, hacc, decide_true,
    need_true, if_false, except_ok_bind]

end CalWrite

/-! ## CAL_MEASURE (R468) -/

section CalMeasure
variable (hpriv : needPriv s r 0x0702 = .ok ()) (hmode : s.mode.mode = .calibrate) (hlen : r.params.length = 12)
  (hflags : byteAt r 0 < 2) (hzero1 : isZero r.params 1 1 = true) (hzero10 : isZero r.params 10 2 = true)
include hpriv hmode hlen hflags hzero1 hzero10

theorem cmdCalMeasure_read {e : Nat × List Byte} (hread : bit (byteAt r 0) 0 = true)
    (hresult : ((s.port r.port).calResults.find? fun e => e.1 == fieldAt r 8 2) = some e) :
    cmdCalMeasure s r = .ok (s.replyOk r e.2) := by
  have hcal : (s.mode.mode == .calibrate) = true := beq_iff_eq.2 hmode
  simp only [cmdCalMeasure, len_ok hlen, flagsWithin_ok (w := 1) hflags, reserved_ok hzero1, reserved_ok hzero10, hread, Bool.true_or,
    if_true, needChans_nil, hpriv, need67_ok hcal, need_true, except_ok_bind, hresult]

/-- The measurement that the operands ask for, begun in the state that its handle leaves. -/
def State.measureAsked (t : State) (r : Request) (o : OpRef) : State := t.onSec fun x => { x with measures := x.measures
  ++ [{ op := o, ch := fieldAt r 2 2, ref := if fieldAt r 4 2 = 0xFFFF then none else some (fieldAt r 4 2), cycles := fieldAt r 6 2
        from_ := t.now }] }

theorem cmdCalMeasure_begin (hbegin : bit (byteAt r 0) 0 = false) (hchan : fieldAt r 2 2 ≤ 511)
    (hcycles : within 1 250 (fieldAt r 6 2) = true)
    (hchans : needChans s (if fieldAt r 4 2 = 0xFFFF then [fieldAt r 2 2] else [fieldAt r 2 2, fieldAt r 4 2]) = .ok ())
    (href : fieldAt r 4 2 = 0xFFFF ∨ fieldAt r 4 2 ≤ 511 ∧ (s.chan (fieldAt r 4 2)).set.role = 1)
    (hrole : meteringRole (s.chan (fieldAt r 2 2)).set.role = true) {t : State} {o : OpRef} (hacc : s.accept r 0x0702 = some (t, o)) :
    cmdCalMeasure s r = .ok (t.measureAsked r o) := by
  have hcal : (s.mode.mode == .calibrate) = true := beq_iff_eq.2 hmode
  have hform : (decide (fieldAt r 2 2 ≤ 511) && (decide (fieldAt r 4 2 ≤ 511) || fieldAt r 4 2 == 0xFFFF)
      && within 1 250 (fieldAt r 6 2)) = true := by
    rw [hcycles, decide_eq_true hchan]
    obtain hnone | ⟨hlow, -⟩ := href
    · rw [hnone]
      rfl
    · rw [decide_eq_true hlow]
      rfl
  have hvoltage : (fieldAt r 4 2 == 0xFFFF || (s.chan (fieldAt r 4 2)).set.role == 1) = true := by
    obtain hnone | ⟨-, hvoltage⟩ := href
    · rw [hnone]
      rfl
    · rw [hvoltage, beq_self_eq_true, Bool.or_true]
  simp only [cmdCalMeasure, len_ok hlen, flagsWithin_ok (w := 1) hflags, reserved_ok hzero1, reserved_ok hzero10, hbegin,
    Bool.false_or, hform, Bool.false_eq_true, if_false, hchans, hpriv, need67_ok hcal, hrole, hvoltage, Bool.and_self, need_true,
    except_ok_bind, hacc, State.measureAsked]

end CalMeasure

/-! ## SPOT_CHECK (R184) -/

theorem cmdSpotCheck_ok {c : Nat} (hasked : Asked s r 0x0703) (hlen : r.params.length = 4) (hc : c = fieldAt r 0 2) (hlow : c ≤ 511)
    (hzero : isZero r.params 2 2 = true) (hpresent : c < s.nChan) (hactive : (s.isl (c / 64)).retired = false)
    (hrole : (s.chan c).set.role ≠ 0) {t : State} {o : OpRef} (hacc : s.accept r 0x0703 true = some (t, o)) :
    cmdSpotCheck s r = .ok (t.ask { ch := c, spot := [o] }) := by
  obtain ⟨-, hpriv, hmode⟩ := hasked
  have hchan : needChan s c = .ok () :=
    needChans_ok (fun _ h => List.mem_singleton.1 h ▸ hpresent) fun _ h => List.mem_singleton.1 h ▸ hactive
  have hused : ((s.chan c).set.role != 0) = true := bne_iff_ne.2 hrole
  subst hc
  simp only [cmdSpotCheck, len_ok hlen, hlow, reserved_ok hzero, hchan, hpriv, modeAll_ok hmode, hused, decide_true, need_true,
    except_ok_bind, hacc]

/-- Settles O36: each command passes its checks; a whole package, a measurement and a check get handles. -/
theorem calibrationCommandsComplete : Obligations.CalibrationCommandsComplete := by
  refine ⟨?write, ?measure, ?spot⟩
  case write =>
    intro s r total q hasked hlen htotal hflags hzero h1 hmax hlife hsealed hjoin
    have hsize := within_ok h1 hmax
    refine ⟨fun hpart => ?_, fun hwhole hroom => ?_⟩
    · exact exec_of_accepted rfl hasked.1 rfl
        (cmdCalWrite_part hasked hlen htotal hflags hzero hsize ⟨hlife, hsealed⟩ hjoin hpart)
    · exact exec_of_handle rfl hasked.1 rfl hroom
        fun t o => cmdCalWrite_whole hasked hlen htotal hflags hzero hsize ⟨hlife, hsealed⟩ hjoin hwhole
  case measure =>
    intro s r c ref n htakes hpriv hmode hlen hflags hzero1 hzero10 hc href hn
    subst hc href hn
    refine ⟨fun e hread hresult => ?_, fun hbegin hlow h1 h250 hchans hrefOk hrole hroom => ?_⟩
    · exact exec_of_accepted rfl htakes rfl (cmdCalMeasure_read hpriv hmode hlen hflags hzero1 hzero10 hread hresult)
    · exact exec_of_handle (g := fun t o => t.measureAsked r o) rfl htakes rfl hroom fun t o =>
        cmdCalMeasure_begin hpriv hmode hlen hflags hzero1 hzero10 hbegin hlow (within_ok h1 h250) hchans hrefOk hrole
  case spot =>
    intro s r c hasked hlen hc hlow hzero hpresent hactive hrole hroom
    exact exec_of_handle rfl hasked.1 rfl hroom fun t o => cmdSpotCheck_ok hasked hlen hc hlow hzero hpresent hactive hrole

/-! ## SEAL (R469) -/

@[simp] theorem need67_true (st : Status) : need67 true st = .ok () := rfl

theorem State.drawBytes_length (s : State) (n : Nat) : (s.drawBytes n).1.length = n := padTo_length ..

/-- The seeds of the identity and transport keys drawn into OTP. -/
def State.seedsDrawn (s : State) : State := ((s.drawBytes 32).2.drawBytes 64).2.onOtp fun o =>
  { o with idSeed := some (s.drawBytes 32).1, transportSeed := some ((s.drawBytes 32).2.drawBytes 64).1 }

theorem State.seedsDrawn_same (s : State) : Same (partOtp ||| partFree) s s.seedsDrawn := by
  have hdrawn : Same partFree s ((s.drawBytes 32).2.drawBytes 64).2 := (State.drawBytes_same s 32).trans (State.drawBytes_same _ 64)
  exact Same.step (State.onOtp_same _ _ fun _ => seal0_le ..) (by decide) (hdrawn.mono (by decide))

/-- The reply of SEAL: the lifecycle and a digest. -/
def State.sealReply (t : State) (r : Request) (digest : List Byte) : State := t.replyOk r (le 1 t.life.num ++ zeros 3 ++ digest)

/-- The digest of the identity public key, zero without one. -/
def State.identityDigest (t : State) : List Byte := (t.identityKey.map fun d => shake256 d 32).getD (zeros 32)

/-- SEAL to UNSEALED: the identity and transport keys come into use. -/
def State.unsealed (s : State) : State := ((s.onOtp fun o => { o with l1 := programmed }).onSec
  fun x => { x with idKey := true, transportKey := true }).raise 63 0 0 []

/-- SEAL to SEALED. -/
def State.sealed (s : State) : State := (s.onOtp fun o => { o with l2 := programmed }).raise 63 0 0 []

section Seal
variable (hauth : authField r 4 = .ok auth) (hzero : isZero r.params 1 3 = true)
  (hmode : s5.mode.mode = .commission ∨ s5.mode.mode = .meter)
include hauth hzero hmode

theorem cmdSeal_seeds (hk : byteAt r 0 = 0) (h5 : order5 s s.time r 0x0704 none 4 auth true = .ok s5) (hlife : s5.life = .manufacture)
    (hentropy : needEntropy s5 = .ok ()) (hid : s5.otp.idSeed = none) (htransport : s5.otp.transportSeed = none) :
    cmdSeal s r = .ok (s5.seedsDrawn.replyOk r (le 1 0 ++ zeros 3 ++ zeros 32)) := by
  have hmode' : (s5.mode.mode == .commission || s5.mode.mode == .meter) = true := by simpa using hmode
  have hdrawn : s5.seedsDrawn.life = .manufacture := hlife
  simp only [cmdSeal, hauth, hk, reserved_ok hzero, h5, hlife, hmode', hentropy, hid, htransport, need_true, need67_true,
    except_ok_bind, Nat.zero_le, decide_true, beq_self_eq_true, if_true, Option.isNone_none, Bool.and_self, OfNat.zero_ne_ofNat,
    if_false, Nat.reduceBNe, Bool.true_or]
  rw [← State.seedsDrawn, hdrawn]
  rfl

theorem cmdSeal_unsealed (hk : byteAt r 0 = 1) (h5 : order5 s s.time r 0x0704 none 4 auth true = .ok s5)
    (hlife : s5.life = .manufacture) (h0 : (s5.anchorSlot 0).isSome = true) (h1 : (s5.anchorSlot 1).isSome = true)
    (h2 : (s5.anchorSlot 2).isSome = true) (hid : s5.otp.idSeed.isSome = true) :
    cmdSeal s r = .ok (s5.unsealed.sealReply r s5.unsealed.identityDigest) := by
  have hmode' : (s5.mode.mode == .commission || s5.mode.mode == .meter) = true := by simpa using hmode
  simp only [cmdSeal, hauth, hk, reserved_ok hzero, h5, hlife, hmode', h0, h1, h2, hid, need_true, need67_true, except_ok_bind,
    Nat.one_le_ofNat, decide_true, OfNat.one_ne_ofNat, if_false, beq_self_eq_true, Bool.and_self, Bool.or_true, Nat.one_ne_zero,
    if_true]
  rw [← State.unsealed, State.identityDigest]
  cases s5.unsealed.identityKey <;> rfl

theorem cmdSeal_sealed (hk : byteAt r 0 = 2) (h5 : order5 s s.time r 0x0704 (some 1) 4 auth true = .ok s5)
    (hlife : s5.life = .unsealed) :
    cmdSeal s r = .ok (s5.sealed.sealReply r s5.sealed.identityDigest) := by
  have hmode' : (s5.mode.mode == .commission || s5.mode.mode == .meter) = true := by simpa using hmode
  simp only [cmdSeal, hauth, hk, reserved_ok hzero, h5, hlife, hmode', need_true, need67_true, except_ok_bind,
    Nat.le_refl, decide_true, if_true, beq_self_eq_true, Nat.reduceBNe, Bool.true_or, OfNat.ofNat_ne_zero, OfNat.ofNat_ne_one, if_false]
  rw [← State.sealed, State.identityDigest]
  cases s5.sealed.identityKey <;> rfl

end Seal

/-- Settles O37: each target passes its checks, and its lifecycle step is in the state that the command answers. -/
theorem sealCompletes : Obligations.SealCompletes := by
  intro s s5 r auth k htakes hauth hk hzero h5 hmode
  refine ⟨fun hseeds hlife hentropy hid htransport => ?seeds, fun hunsealed hlife h0 h1 h2 hid => ⟨_, rfl, ?unsealed⟩,
    fun hsealed hlife => ⟨_, rfl, ?sealed⟩⟩
  case seeds =>
    rw [if_neg (by omega)] at h5
    exact ⟨s5.seedsDrawn, _, _, rfl, State.drawBytes_length .., State.drawBytes_length .., s5.seedsDrawn_same,
      exec_of_accepted rfl htakes rfl (cmdSeal_seeds hauth hzero hmode (hk.symm.trans hseeds) h5 hlife hentropy hid htransport)⟩
  case unsealed =>
    rw [if_neg (by omega)] at h5
    exact exec_of_accepted rfl htakes rfl
      (cmdSeal_unsealed hauth hzero hmode (hk.symm.trans hunsealed) h5 hlife h0 h1 h2 hid)
  case sealed =>
    rw [if_pos hsealed] at h5
    exact exec_of_accepted rfl htakes rfl (cmdSeal_sealed hauth hzero hmode (hk.symm.trans hsealed) h5 hlife)

end Sys2Proof.Machine
end

section
/-! SUPPORT. The commands of the modes, of the lifecycle's end, of restarts and of debug access (spec/04_modes_and_lifecycle.md
R104, R117; spec/16_security.md R474, R475). -/
namespace Sys2Proof.Machine

variable {s s5 : State} {r : Request} {auth : List Byte}

/-! ## ZEROISE (R475) -/

/-- The lifecycle RETIRED, every seed burnt and every secret gone, with the mode asked for that R106 gives a retired device. -/
def State.zeroised (s : State) : State :=
  ((((s.onOtp fun o => ({ o with l1 := programmed, l2 := programmed, l3 := programmed } : Otp).burnSeeds).onSec fun x => { x with
    opsSession := none, metSession := none, idKey := false, transportKey := false, vending := List.replicate 4 {}, cert := [] }
    ).configWrite).raise 63 0 0 []).requestMode { target := .commission, cause := 8 }

theorem cmdZeroise_ok (hauth : authField r 4 = .ok auth) (hmagic : fieldAt r 0 4 = 0x4F52455A)
    (h5 : order5 s s.time r 0x0806 (if s.life = .manufacture then none else some 1) 4 auth true = .ok s5) (hlife : s5.life ≠ .retired)
    (hmode : s5.mode.mode.responding = true) : cmdZeroise s r = .ok (s5.zeroised.replyOk r []) := by
  simp only [cmdZeroise, hauth, hmagic, beq_self_eq_true, need_true, h5, notRetired_ok hlife, modeAll_ok hmode, except_ok_bind]
  rfl

/-! ## SET_MODE (R104) -/

/-- What SET_MODE needs of the lifecycle, the mode, the lock and CAL_LINK for a target. -/
structure ModeOpen (s : State) (k : Nat) : Prop where
  commissioned : k = 4 → s.life ≠ .manufacture
  alive : k = 3 ∨ k = 4 → s.life ≠ .retired
  healthy : k = 3 → s.mode.mode ≠ .degraded
  unlocked : k = 3 → s.life = .sealed → s.lockOn = false ∧ s.tamper.calLink = true

theorem modeOpen_of_other {k : Nat} (h3 : k ≠ 3) (h4 : k ≠ 4) : ModeOpen s k :=
  ⟨fun h => absurd h h4, fun h => absurd h (by omega), fun h => absurd h h3, fun h => absurd h h3⟩

/-- DORMANT armed or disarmed; arming asks for a checkpoint. -/
def State.dormantSet (s : State) (f : Nat) : State :=
  (if f = 0 then (s.onMode fun m => { m with armed := f == 0 }).onPower fun p => { p with ckptNow := true }
    else s.onMode fun m => { m with armed := f == 0 }).configWrite

/-- The mode that a target of SET_MODE names. -/
def modeTarget (k : Nat) : Mode := if k = 2 then .commission else if k = 3 then .calibrate else .meter

/-- The mode in force, DEGRADED counting as its base. -/
def State.baseMode (s : State) : Mode := if s.mode.mode = .degraded then s.mode.base else s.mode.mode

/-- A change of mode handed to the round boundary, with the reply that waits for it. -/
def State.modeWaits (s : State) (r : Request) (m : Mode) : State :=
  (s.requestMode { target := m, cause := 0, port := some r.port }).replyOk r [] .round

/-- What SET_MODE does once its checks pass. -/
def State.modeAnswer (s : State) (r : Request) (k f : Nat) : State :=
  if k = 0 then (s.dormantSet f).replyOk r (s.dormantSet f).modeReply
  else if modeTarget k = s.baseMode then s.replyOk r s.modeReply else s.modeWaits r (modeTarget k)

theorem cmdSetMode_ok {k f : Nat} (hauth : authField r 4 = .ok auth) (hk : k = byteAt r 0) (hf : f = byteAt r 1)
    (hzero : isZero r.params 2 2 = true) (h5 : order5 s s.time r 0x0003 (s.modeAnchor k) 4 auth false (k == 3) = .ok s5)
    (hmode : s5.mode.mode.responding = true) (htarget : k = 0 ∨ 2 ≤ k ∧ k ≤ 4) (hflag : f ≤ 1) (hplain : f = 0 ∨ k = 0)
    (hopen : ModeOpen s5 k) : cmdSetMode s r = .ok (s5.modeAnswer r k f) := by
  obtain ⟨hcommissioned, halive, hhealthy, hunlocked⟩ := hopen
  have hform : (k == 0 || within 2 4 k) = true := by simpa [within] using htarget
  have hflags : (decide (f ≤ 1) && (f == 0 || k == 0)) = true := by simpa [hflag] using hplain
  have hlock : (!(k == 3 && s5.life == .sealed && s5.lockOn)) = true := by
    simpa [imp_iff_not_or, or_assoc] using fun h hl => (hunlocked h hl).1
  have hlife : (!(k == 4 && s5.life == .manufacture) && !(s5.life == .retired && (k == 3 || k == 4))) = true := by
    simp only [Bool.and_eq_true, Bool.not_eq_true', Bool.and_eq_false_iff, beq_eq_false_iff_ne, Bool.or_eq_false_iff]
    refine ⟨?_, ?_⟩
    · by_cases h : k = 4
      · exact .inr (hcommissioned h)
      · exact .inl h
    · by_cases h : k = 3 ∨ k = 4
      · exact .inl (halive h)
      · exact .inr (not_or.1 h)
  have hbase : (!(k == 3 && s5.mode.mode == .degraded)) = true := by simpa [imp_iff_not_or] using hhealthy
  have hlink : (!(k == 3 && s5.life == .sealed && !s5.tamper.calLink)) = true := by
    simpa [imp_iff_not_or, or_assoc] using fun h hl => (hunlocked h hl).2
  subst hk hf
  simp only [cmdSetMode, hauth, hform, hflags, reserved_ok hzero, h5, hlock, hlife, modeAll_ok hmode, hbase, hlink, need_true,
    need67_true, except_ok_bind, State.modeAnswer]
  split
  · rfl
  · exact (apply_ite Except.ok ..).symm

/-! ## RESET_CMD (R117) -/

/-- A reset of the control plane or a restart asked for behind the reply. -/
def State.resetAsked (s : State) (r : Request) (full : Bool) : State :=
  ((s.onCp fun c => { c with resetReq := some full, resetAt := s.now }).replyOk r []).onPort r.port fun q =>
    { q with replies := q.replies.modify (q.replies.length - 1) fun x => { x with reset := true } }

theorem cmdResetCmd_ok {full : Bool} (hauth : authField r 4 = .ok auth) (hfull : full = bit (byteAt r 0) 0) (hflags : byteAt r 0 < 2)
    (hzero : isZero r.params 1 3 = true) (hplain : full = false → auth = [])
    (h5 : order5 s s.time r 0x0004 (if full then s.opsWhenSealed else none) 4 auth true = .ok s5)
    (hmode : s5.mode.mode.responding = true) : cmdResetCmd s r = .ok (s5.resetAsked r full) := by
  have hform : (full || auth.isEmpty) = true := by
    cases full with
    | false => rw [hplain rfl]; rfl
    | true => rfl
  subst hfull
  simp only [cmdResetCmd, hauth, flagsWithin_ok (w := 1) hflags, reserved_ok hzero, hform, h5, modeAll_ok hmode, need_true,
    except_ok_bind]
  rfl

/-! ## DEBUG_AUTH (R474) -/

/-- A debug level closed, or asked for with its seconds. -/
def State.debugAsked (s : State) (k seconds : Nat) : State :=
  if k = 0 then s.closeDebug
  else s.onMode fun m => { m with debugReq := some { level := if k = 1 then .d1 else .d2, seconds := seconds } }

theorem cmdDebugAuth_ok {k : Nat} {x : State × Nat} (hpriv : needPriv s r 0x0805 = .ok ()) (hmode : s.mode.mode.responding = true)
    (hlen : 4 ≤ r.params.length) (hk : k = byteAt r 0) (hlow : k ≤ 2) (hzero : isZero r.params 1 3 = true)
    (hfree : s.levelFree k = true → r.params.drop 4 = []) (hright : debugRight s k (r.params.drop 4) = .ok x)
    (hunlocked : k = 0 ∨ s.lockOn = false) :
    cmdDebugAuth s r = .ok ((x.1.debugAsked k x.2).replyOk r
      (le 1 k ++ zeros 3 ++ sample8 (if x.2 = 0 then 0 else x.1.nextRound + x.2 * slotsPerS))) := by
  have hcert : (!s.levelFree k || (r.params.drop 4).isEmpty) = true := by
    cases h : s.levelFree k with
    | false => rfl
    | true => rw [hfree h]; rfl
  have hopen : (k == 0 || !s.lockOn) = true := by simpa using hunlocked
  subst hk
  simp only [cmdDebugAuth, hlen, hlow, reserved_ok hzero, hcert, hpriv, hright, hopen, modeResp_ok hmode, decide_true, need_true,
    except_ok_bind]
  rfl

/-! ## The statement -/

/-- Settles O38: each command passes its checks; DORMANT is armed at once, and any other change of mode waits for the round
boundary. -/
theorem modeAndLifecycleCommandsComplete : Obligations.ModeAndLifecycleCommandsComplete := by
  refine ⟨?zeroise, ?mode, ?restart, ?debug⟩
  case zeroise =>
    intro s s5 r auth htakes hauth hmagic h5 hlife hmode
    exact exec_of_accepted rfl htakes rfl (cmdZeroise_ok hauth hmagic h5 hlife hmode)
  case mode =>
    intro s s5 r auth k f target now htakes hauth hk hf hzero h5 hmode hnow
    obtain rfl : now = s5.baseMode := hnow
    refine ⟨fun hdormant hflag => ⟨s5.dormantSet f, rfl, ?dormant⟩, fun hplain htarget => ?change⟩
    case dormant =>
      have hok := cmdSetMode_ok hauth hk hf hzero h5 hmode (.inl hdormant) hflag (.inr hdormant)
        (modeOpen_of_other (by omega) (by omega))
      rw [State.modeAnswer, if_pos hdormant] at hok
      exact exec_of_accepted rfl htakes rfl hok
    case change =>
      obtain ⟨hform, hopen, rfl⟩ : (2 ≤ k ∧ k ≤ 4) ∧ ModeOpen s5 k ∧ target = modeTarget k := by
        obtain ⟨rfl, rfl⟩ | ⟨rfl, rfl, hcommissioned, halive⟩ | ⟨rfl, rfl, halive, hhealthy, hunlocked⟩ := htarget
        · exact ⟨by omega, modeOpen_of_other (by omega) (by omega), rfl⟩
        · have hmeter : ModeOpen s5 4 :=
            ⟨fun _ => hcommissioned, fun _ => halive, fun h => absurd h (by omega), fun h => absurd h (by omega)⟩
          exact ⟨by omega, hmeter, rfl⟩
        · have hcal : ModeOpen s5 3 := ⟨fun h => absurd h (by omega), fun _ => halive, fun _ => hhealthy, fun _ => hunlocked⟩
          exact ⟨by omega, hcal, rfl⟩
      have hok := cmdSetMode_ok hauth hk hf hzero h5 hmode (.inr hform) (by omega) (.inl hplain) hopen
      rw [State.modeAnswer, if_neg (by omega)] at hok
      refine ⟨fun hsame => ?_, fun hother => ?_⟩
      · rw [if_pos hsame] at hok
        exact exec_of_accepted rfl htakes rfl hok
      · rw [if_neg hother] at hok
        exact exec_of_accepted rfl htakes rfl hok
  case restart =>
    intro s s5 r auth full htakes hauth hfull hflags hzero hplain h5 hmode
    exact exec_of_accepted rfl htakes rfl (cmdResetCmd_ok hauth hfull hflags hzero hplain h5 hmode)
  case debug =>
    intro s r k x htakes hpriv hmode hlen hk hlow hzero hfree hright hunlocked
    exact exec_of_accepted rfl htakes rfl (cmdDebugAuth_ok hpriv hmode hlen hk hlow hzero hfree hright hunlocked)

end Sys2Proof.Machine
end

section
/-! SUPPORT. The commands that sign, that give certificates and that load keys (spec/16_security.md R463, R470, R472, R473). -/
namespace Sys2Proof.Machine

variable {s : State} {r : Request}

/-! ## ATTEST and SIGN_READING (R470, R472) -/

/-- The report of ATTEST over n free bytes, signed in the state that drew them. -/
def State.attestSigned (s : State) (nonce : List Byte) : List Byte × State :=
  (s.drawBytes 32).2.sign "OVP-ATTEST" (s.attestReport nonce (s.drawBytes 32).1)

theorem cmdAttest_ok (hasked : Asked s r 0x0801) (hlen : r.params.length = 32) (hkeys : needKeys s = .ok ())
    (hentropy : needEntropy s = .ok ()) :
    cmdAttest s r = .ok ((s.attestSigned r.params).2.replyOk r
      (s.attestReport r.params (s.drawBytes 32).1 ++ (s.attestSigned r.params).1)) := by
  obtain ⟨-, hpriv, hmode⟩ := hasked
  simp only [cmdAttest, len_ok hlen, hpriv, hkeys, modeResp_ok hmode, hentropy, except_ok_bind]
  rfl

/-- What a statement of kind k is about: the registers of point m now, or those of a snapshot that the store holds. -/
inductive StatementBody (s : State) (m age : Nat) : Nat → List Byte → Prop
  | registers : StatementBody s m age 1 (s.registerRecord m)
  | snapshot (x : Snapshot) (hlow : age ≤ 23) (hheld : age < (s.point m).snapCount)
      (hring : ringAt (s.store.snaps.getD m []) ((s.point m).sseq - age) = some x) : StatementBody s m age 0 x.bytes

/-- The statement and its signature. -/
def State.statementSigned (s : State) (r : Request) (k m : Nat) (body : List Byte) : State :=
  (s.sign "OVP-CRAISKIX" (s.statementHeader k m body.length (r.params.drop 4) ++ body)).2.replyOk r
    (s.statementHeader k m body.length (r.params.drop 4) ++ body
      ++ (s.sign "OVP-CRAISKIX" (s.statementHeader k m body.length (r.params.drop 4) ++ body)).1)

theorem cmdSignReading_ok {k m : Nat} {body : List Byte} (hasked : Asked s r 0x0802) (hlen : r.params.length = 36) (hk : byteAt r 0 = k)
    (hm : byteAt r 1 = m) (hzero : isZero r.params 3 1 = true) (hpoint : m < s.nMp) (hkeys : needKeys s = .ok ())
    (hentropy : needEntropy s = .ok ()) (hbody : StatementBody s m (byteAt r 2) k body) :
    cmdSignReading s r = .ok (s.statementSigned r k m body) := by
  obtain ⟨-, hpriv, hmode⟩ := hasked
  cases hbody with
  | registers =>
    simp only [cmdSignReading, len_ok hlen, hk, hm, reserved_ok hzero, needPoint_ok hpoint, hpriv, hkeys, modeResp_ok hmode, hentropy,
      Nat.le_refl, beq_self_eq_true, decide_true, Bool.true_or, Bool.and_self, need_true, if_true, except_ok_bind]
    rfl
  | snapshot x hlow hheld hring =>
    simp only [cmdSignReading, len_ok hlen, hk, hm, reserved_ok hzero, needPoint_ok hpoint, hpriv, hkeys, modeResp_ok hmode, hentropy,
      hlow, if_pos hheld, hring, Nat.zero_le, decide_true, Bool.or_true, Bool.and_self, need_true, Nat.zero_ne_one, if_false,
      except_ok_bind]
    rfl

/-! ## GET_CERTS (R473) -/

/-- The item i of GET_CERTS, which the device can give, is d: an own key needs a lifecycle that has keys. -/
inductive CertItem (s : State) (n : Nat) : Nat → List Byte → Prop
  | identity (hkeys : needKeys s = .ok ()) : CertItem s n 0 (s.identityKey.getD [])
  | transport (hkeys : needKeys s = .ok ()) : CertItem s n 1
      (if s.security.transportKey then (s.otp.transportSeed.map Config.mlKemPublic).getD [] else [])
  | certificate : CertItem s n 2 s.security.cert
  | anchor (hn : n ≤ 2) : CertItem s n 3 (s.security.pubKeys.getD n [])

theorem cmdGetCerts_ok {i n : Nat} {d : List Byte} (hasked : Asked s r 0x0804) (hlen : r.params.length = 4) (hi : byteAt r 0 = i)
    (hn : byteAt r 1 = n) (hzero : isZero r.params 2 2 = true) (hitem : CertItem s n i d) :
    cmdGetCerts s r = .ok (s.replyOk r (le 1 i ++ le 1 n ++ le 2 d.length ++ d)) := by
  obtain ⟨-, hpriv, hmode⟩ := hasked
  cases hitem with
  | identity hkeys => simp [cmdGetCerts, len_ok hlen, hi, hn, reserved_ok hzero, hpriv, hkeys, modeResp_ok hmode]
  | transport hkeys => simp [cmdGetCerts, len_ok hlen, hi, hn, reserved_ok hzero, hpriv, hkeys, modeResp_ok hmode]
  | certificate => simp [cmdGetCerts, len_ok hlen, hi, hn, reserved_ok hzero, hpriv, modeResp_ok hmode]
  | anchor hlow => simp [cmdGetCerts, len_ok hlen, hi, hn, reserved_ok hzero, hpriv, modeResp_ok hmode, hlow]

/-! ## LOAD_KEYS (R463) -/

/-- The partial package of function f, if it is the one under way. -/
def State.keyPartOf (s : State) (f : Nat) : Option Partial :=
  match s.security.keyPart with
  | some p => if p.func = f then some p else none
  | none => none

theorem State.keyPartOf_eq_filter (s : State) (f : Nat) : s.keyPartOf f = s.security.keyPart.filter fun p => p.func == f := by
  unfold State.keyPartOf
  cases s.security.keyPart with
  | none => rfl
  | some p => simp [Option.filter]

/-- The bytes of the package that have come with this fragment. -/
def keyBytesSeen (old : Option Partial) (first : Bool) (data : List Byte) : List Byte :=
  match old with
  | some p => if first then data else p.data ++ data
  | none => data

theorem keyBytesSeen_eq (old : Option Partial) (first : Bool) (data : List Byte) :
    keyBytesSeen old first data = if first then data else (old.map fun p => p.data ++ data).getD data := by
  cases old with
  | none => exact (ite_self _).symm
  | some p => rfl

section LoadKeys
variable {f total : Nat} {q : Partial} (hlen : 13 ≤ r.params.length) (hf : f = byteAt r 0) (hf4 : f ≤ 4) (hflags : byteAt r 1 < 2)
  (hzero : isZero r.params 2 2 = true) (htotal : total = fieldAt r 8 4) (hsize : within 1 16384 total = true)
  (hpriv : needPriv s r 0x0803 (f == 0 || (f == 3 && rotationUtility
    (keyBytesSeen (s.keyPartOf f) (bit (byteAt r 1) 0) (r.params.drop 12)))) = .ok ())
  (hlife : s.life ≠ .retired) (hdevice : f = 2 → s.life = .manufacture) (hmode : s.mode.mode.responding = true)
  (hjoin : joinFragment (s.keyPartOf f) (bit (byteAt r 1) 0) (fieldAt r 4 4) total (r.params.drop 12) r.port f = some q)
include hlen hf hf4 hflags hzero htotal hsize hpriv hlife hdevice hmode hjoin

/-- The checks before the fragment pass, and the fragment fits. -/
theorem cmdLoadKeys_of_open : cmdLoadKeys s r =
    if q.data.length < total then .ok ((s.onSec fun x => { x with keyPart := some q }).replyOk r (le 4 q.data.length))
    else match s.accept r 0x0803 with
      | none => .error { status := .noHandle }
      | some (t, o) => .ok (t.onSec fun x => { x with
          keyPart := none, jobs := x.jobs ++ [{ kind := .key f, op := some o, data := q.data, port := r.port }] }) := by
  have hform : (decide (f ≤ 4) && within 1 16384 total) = true := by rw [hsize, decide_eq_true hf4, Bool.and_self]
  have hfresh : (!(f == 2 && s.life != .manufacture)) = true := by simpa [imp_iff_not_or] using hdevice
  subst hf htotal
  refine (bind_of_ok (need_ok (decide_eq_true hlen))).trans ?_
  refine (bind_of_ok (need_ok hform)).trans ?_
  refine (bind_of_ok (flagsWithin_ok (w := 1) hflags)).trans ?_
  refine (bind_of_ok (reserved_ok hzero)).trans ?_
  refine (bind_of_ok hpriv).trans ?_
  refine (bind_of_ok (notRetired_ok hlife)).trans ?_
  refine (bind_of_ok (need67_ok hfresh)).trans ?_
  refine (bind_of_ok (modeAll_ok hmode)).trans ?_
  split
  next hnone => exact nomatch hnone.symm.trans hjoin
  next p hsome =>
    obtain rfl : p = q := Option.some.inj (hsome.symm.trans hjoin)
    rfl

theorem cmdLoadKeys_part (hpart : q.data.length < total) :
    cmdLoadKeys s r = .ok ((s.onSec fun x => { x with keyPart := some q }).replyOk r (le 4 q.data.length)) := by
  rw [cmdLoadKeys_of_open hlen hf hf4 hflags hzero htotal hsize hpriv hlife hdevice hmode hjoin, if_pos hpart]

theorem cmdLoadKeys_whole (hwhole : total ≤ q.data.length) {t : State} {o : OpRef} (hacc : s.accept r 0x0803 = some (t, o)) :
    cmdLoadKeys s r = .ok (t.onSec fun x => { x with
      keyPart := none, jobs := x.jobs ++ [{ kind := .key f, op := some o, data := q.data, port := r.port }] }) := by
  rw [cmdLoadKeys_of_open hlen hf hf4 hflags hzero htotal hsize hpriv hlife hdevice hmode hjoin, if_neg (Nat.not_lt.2 hwhole), hacc]

end LoadKeys

/-! ## The statement -/

/-- Settles O39: each command passes its checks; a whole key package gets a handle. -/
theorem signatureCommandsComplete : Obligations.SignatureCommandsComplete := by
  refine ⟨?attest, ?reading, ?certs, ?keys⟩
  case attest =>
    intro s r hasked hlen hkeys hentropy
    refine ⟨(s.drawBytes 32).2, (s.attestSigned r.params).2, (s.drawBytes 32).1, (s.attestSigned r.params).1,
      State.drawBytes_length .., State.drawBytes_same .., State.sign_same .., Prod.mk.eta, ?_⟩
    exact exec_of_sealSt_eq rfl hasked.1 rfl (cmdAttest_ok hasked hlen hkeys hentropy) (by decide)
      (by rw [State.replyOk_security]; rfl)
  case reading =>
    intro s r k m age body h hasked hlen hk hm hage hzero hpoint hkeys hentropy hbody hh
    subst hage hh
    have hitem : StatementBody s m (byteAt r 2) k body := by
      obtain ⟨hkind, hbytes⟩ | ⟨hkind, hlow, hheld, x, hring, hbytes⟩ := hbody
      · rw [hkind, hbytes]
        exact .registers
      · rw [hkind, hbytes]
        exact .snapshot x hlow hheld hring
    exact exec_of_sealSt_eq rfl hasked.1 rfl
      (cmdSignReading_ok hasked hlen hk.symm hm.symm hzero hpoint hkeys hentropy hitem) (by decide) (by rw [State.replyOk_security]; rfl)
  case certs =>
    intro s r i n hasked hlen hi hn hzero d hitem
    have hd : CertItem s n i d := by
      obtain ⟨rfl, hkeys, rfl⟩ | ⟨rfl, hkeys, rfl⟩ | ⟨rfl, rfl⟩ | ⟨rfl, hlow, rfl⟩ := hitem
      · exact .identity hkeys
      · exact .transport hkeys
      · exact .certificate
      · exact .anchor hlow
    exact exec_of_reply rfl hasked.1 rfl (by decide) (cmdGetCerts_ok hasked hlen hi.symm hn.symm hzero hd)
  case keys =>
    intro s r f total data old q htakes hlen hf hf4 hflags hzero htotal h1 hmax hdata hold hpriv hlife hdevice hmode hjoin
    subst hdata
    obtain rfl : old = s.keyPartOf f := hold.trans (s.keyPartOf_eq_filter f).symm
    rw [← keyBytesSeen_eq] at hpriv
    have hsize := within_ok h1 hmax
    refine ⟨fun hpart => ?_, fun hwhole hroom => ?_⟩
    · exact exec_of_sealSt_eq rfl htakes rfl
        (cmdLoadKeys_part hlen hf hf4 hflags hzero htotal hsize hpriv hlife hdevice hmode hjoin hpart) (by decide)
        (by rw [State.replyOk_security]; rfl)
    · exact exec_of_handle_sealSt_eq rfl htakes rfl hroom
        (fun t o => cmdLoadKeys_whole hlen hf hf4 hflags hzero htotal hsize hpriv hlife hdevice hmode hjoin hwhole) (by decide)
        fun _ _ => rfl

end Sys2Proof.Machine
end

section
/-! SUPPORT. The commands that load and activate images (spec/17_live_servicing.md R478 to R485). -/
namespace Sys2Proof.Machine

variable {s : State} {r : Request}

/-! ## IMAGE_BEGIN and IMAGE_DATA (R478, R479) -/

/-- A session x opened, its slot emptied. -/
def State.sessionOpened (s : State) (x : LoadSession) : State :=
  ((s.onImages fun i => { i with session := some x }).onImages fun i =>
    i.on x.target x.slot fun y => { y with ok := false, factory := false, package := [] }).configWrite

theorem cmdImageBegin_ok {x : LoadSession} (hasked : Asked s r 0x0901) (hlen : r.params.length = 8) (htarget : byteAt r 0 ≤ 1)
    (hsize : within 3374 (if byteAt r 0 = 0 then 4194304 else 524288) (fieldAt r 4 4) = true) (hzero : isZero r.params 1 3 = true)
    (hfree : s.images.session = none)
    (hx : x = { target := byteAt r 0, slot := s.images.spare (byteAt r 0), port := r.port, total := fieldAt r 4 4, last := s.now }) :
    cmdImageBegin s r = .ok ((s.sessionOpened x).replyOk r (le 1 (s.images.spare (byteAt r 0)) ++ zeros 3)) := by
  obtain ⟨-, hpriv, hmode⟩ := hasked
  subst hx
  simp only [cmdImageBegin, len_ok hlen, htarget, hsize, reserved_ok hzero, hpriv, modeResp_ok hmode, hfree, Option.isNone_none,
    decide_true, Bool.and_self, need_true, except_ok_bind]
  rfl

/-- The bytes of IMAGE_DATA. -/
def imageBytes (r : Request) : List Byte := r.params.drop 8

/-- The bytes of a fragment handed to the writer, with the reply that waits for them. -/
def State.imageWritten (s : State) (r : Request) (x : LoadSession) : State :=
  (s.onImages fun i => { i with session := some { x with received := x.received + (imageBytes r).length, last := s.now } }).enqueue
    { prio := 3, recs := [.image (byteAt r 0) x.slot x.received (imageBytes r)], reply := some r.port }

theorem cmdImageData_ok {x : LoadSession} (hasked : Asked s r 0x0902) (hlen : within 9 4080 r.params.length = true)
    (hzero : isZero r.params 1 3 = true) (hsession : s.images.session = some x) (hport : x.port = r.port)
    (htarget : x.target = byteAt r 0) (hlow : byteAt r 0 ≤ 1) (hnext : fieldAt r 4 4 = x.received)
    (hroom : x.received + (imageBytes r).length ≤ x.total) :
    cmdImageData s r = .ok ((s.imageWritten r x).replyOk r (le 4 (x.received + (imageBytes r).length)) .store) := by
  obtain ⟨-, hpriv, hmode⟩ := hasked
  have hown : (x.port == r.port) = true := beq_iff_eq.2 hport
  have hfits : (x.target == byteAt r 0 && fieldAt r 4 4 == x.received && decide (x.received + (r.params.drop 8).length ≤ x.total))
      = true := by
    rw [htarget, hnext, decide_eq_true (show x.received + (r.params.drop 8).length ≤ x.total from hroom)]
    simp only [beq_self_eq_true, Bool.and_self]
  simp only [cmdImageData, hlen, hlow, reserved_ok hzero, hpriv, modeResp_ok hmode, hsession, hown, hfits, decide_true, need_true,
    except_ok_bind]
  rfl

/-! ## IMAGE_END (R481) -/

theorem cmdImageEnd_ok {x : LoadSession} {t : State} {o : OpRef} (hasked : Asked s r 0x0903) (hlen : r.params.length = 4)
    (hlow : byteAt r 0 ≤ 1) (hzero : isZero r.params 1 3 = true) (hsession : s.images.session = some x) (htarget : x.target = byteAt r 0)
    (hwhole : x.received = x.total) (hacc : s.accept r 0x0903 = some (t, o)) :
    cmdImageEnd s r = .ok (t.onSec fun y =>
      { y with jobs := y.jobs ++ [{ kind := .image (byteAt r 0) x.slot, op := some o, port := r.port }] }) := by
  obtain ⟨-, hpriv, hmode⟩ := hasked
  simp only [cmdImageEnd, len_ok hlen, hlow, reserved_ok hzero, hpriv, modeResp_ok hmode, hsession, htarget, hwhole, beq_self_eq_true,
    decide_true, Bool.and_self, need_true, except_ok_bind, hacc]

/-! ## IMAGE_ACTIVATE and UCODE_ACTIVATE (R482, R485) -/

/-- A switch of the control core's package asked for behind the reply. -/
def State.switchAsked (s : State) (r : Request) (k : Nat) : State :=
  ((s.onImages fun i => { i with ccReq := some { slot := k, force := bit (byteAt r 1) 0, port := r.port, at_ := s.now } }).replyOk
    r []).onPort r.port fun q =>
      { q with replies := q.replies.modify (q.replies.length - 1) fun x => { x with switch := true } }

theorem cmdImageActivate_ok {k : Nat} (hasked : Asked s r 0x0904) (hlen : r.params.length = 4) (hk : k = byteAt r 0) (hlow : k ≤ 1)
    (hflags : byteAt r 1 < 2) (hzero : isZero r.params 2 2 = true) (hslot : needSlot s 0 k = .ok ())
    (hidle : bit (byteAt r 1) 0 = true ∨ s.allOutstanding = []) : cmdImageActivate s r = .ok (s.switchAsked r k) := by
  obtain ⟨-, hpriv, hmode⟩ := hasked
  have hfree : (bit (byteAt r 1) 0 || s.allOutstanding.isEmpty) = true := by simpa using hidle
  subst hk
  simp only [cmdImageActivate, len_ok hlen, hlow, flagsWithin_ok (w := 1) hflags, reserved_ok hzero, hpriv, modeResp_ok hmode, hslot,
    hfree, decide_true, need_true, except_ok_bind]
  rfl

theorem cmdUcodeActivate_ok {k : Nat} {t : State} {o : OpRef} (hasked : Asked s r 0x0905) (hlen : r.params.length = 4)
    (hk : k = byteAt r 0) (hlow : k ≤ 1) (hzero : isZero r.params 1 3 = true) (hslot : needSlot s 1 k = .ok ())
    (hfree : s.images.ucReq = none) (hacc : s.accept r 0x0905 = some (t, o)) :
    cmdUcodeActivate s r = .ok (t.onImages fun i => { i with ucReq := some { slot := k, op := o, from_ := t.now } }) := by
  obtain ⟨-, hpriv, hmode⟩ := hasked
  subst hk
  simp only [cmdUcodeActivate, len_ok hlen, hlow, reserved_ok hzero, hpriv, modeResp_ok hmode, hslot, hfree, Option.isNone_none,
    decide_true, need_true, except_ok_bind, hacc]

/-! ## The statement -/

/-- Settles O40: each command passes its checks; the end of a session and a switch of the microcode get handles. -/
theorem imageCommandsComplete : Obligations.ImageCommandsComplete := by
  refine ⟨?opening, ?data, ?closing, ?activate, ?microcode⟩
  case opening =>
    intro s r k total x hasked hlen hlow htotal hmin hmax hzero hfree hk hx
    subst htotal hk hx
    exact exec_of_sealSt_eq rfl hasked.1 rfl (cmdImageBegin_ok hasked hlen hlow (within_ok hmin hmax) hzero hfree rfl) (by decide)
      (by rw [State.replyOk_security]; rfl)
  case data =>
    intro s r x n data hasked hmin hmax hzero hdata hsession hport htarget hlow hnext hn hroom
    subst hdata hn
    exact exec_of_sealSt_eq rfl hasked.1 rfl
      (cmdImageData_ok hasked (within_ok hmin hmax) hzero hsession hport htarget hlow hnext hroom) (by decide)
      (by rw [State.replyOk_security]; rfl)
  case closing =>
    intro s r x hasked hlen hlow hzero hsession htarget hwhole hroom
    exact exec_of_handle_sealSt_eq rfl hasked.1 rfl hroom
      (fun t o => cmdImageEnd_ok hasked hlen hlow hzero hsession htarget hwhole) (by decide) fun _ _ => rfl
  case activate =>
    intro s r k hasked hlen hk hlow hflags hzero hslot hidle
    exact exec_of_sealSt_eq rfl hasked.1 rfl (cmdImageActivate_ok hasked hlen hk hlow hflags hzero hslot hidle) (by decide)
      (by rw [State.onPort_security, State.replyOk_security]; rfl)
  case microcode =>
    intro s r k hasked hlen hk hlow hzero hslot hfree hroom
    exact exec_of_handle_sealSt_eq rfl hasked.1 rfl hroom
      (fun t o => cmdUcodeActivate_ok hasked hlen hk hlow hzero hslot hfree) (by decide) fun _ _ => rfl

end Sys2Proof.Machine
end

section
/-! SUPPORT. The commands of maintenance, each of which becomes an operation (spec/03_supply_holdup_adjournment.md R71;
spec/17_live_servicing.md R486, R489 to R491). -/
namespace Sys2Proof.Machine

variable {s s5 t : State} {r : Request} {auth : List Byte} {o : OpRef}

/-! ## REMAP_CHANNEL (R486) -/

/-- No remap under way touches either channel. -/
def State.RemapFree (s : State) (old new : Nat) : Prop :=
  ∀ x ∈ s.engine.remaps, x.done = true ∨ x.old ≠ old ∧ x.new ≠ old ∧ x.old ≠ new ∧ x.new ≠ new

theorem State.RemapFree.check {old new : Nat} (h : s.RemapFree old new) : (!(s.engine.remaps.any fun x =>
    !x.done && ([x.old, x.new].contains old || [x.old, x.new].contains new))) = true := by
  rw [Bool.not_eq_true', List.any_eq_false]
  intro x hx
  obtain hdone | ⟨hold, hnew, hold', hnew'⟩ := h x hx
  · simp [hdone]
  · simp [hold.symm, hnew.symm, hold'.symm, hnew'.symm]

/-- The channels of a remap: a bound one of the metering roles, and a spare at the same rate. -/
structure RemapFits (s : State) (old new : Nat) : Prop where
  bound : s.bound old = true
  role : within 1 3 (s.chan old).set.role = true
  spare : (s.chan new).set.role = 5
  sampled : (s.chan new).fs ≠ 0
  period : s.chanPeriod old = s.chanPeriod new
  free : s.RemapFree old new

theorem cmdRemapChannel_ok {old new : Nat} (hauth : authField r 4 = .ok auth) (hold : old = fieldAt r 0 2) (hnew : new = fieldAt r 2 2)
    (hlow : old ≤ 511) (hlow' : new ≤ 511) (hchans : needChans s [old, new] = .ok ())
    (h5 : order5 s s.time r 0x0A01 s.opsWhenSealed 4 auth = .ok s5) (hlife : s.life ≠ .retired) (hmode : modeNoCal s = .ok ())
    (hfits : RemapFits s old new) (hacc : s.accept r 0x0A01 = some (t, o)) :
    cmdRemapChannel s r = .ok (((t.holdAuth o auth).onEngine fun e => { e with remaps := e.remaps
      ++ [{ old := old, new := new, op := o, limit := t.engine.runAhead + 1024 }] }).configWrite) := by
  obtain ⟨hbound, hrole, hspare, hsampled, hperiod, hfree⟩ := hfits
  have hfree' := hfree.check
  subst hold hnew
  simp only [cmdRemapChannel, hauth, hlow, hlow', hchans, h5, notRetired_ok hlife, hmode, hbound, hrole, hspare, hperiod,
    bne_iff_ne.2 hsampled, hfree', beq_self_eq_true, decide_true, Bool.and_self, need_true, except_ok_bind, hacc]

/-! ## RETIRE_ISLAND and RESTORE_ISLAND (R489, R490) -/

theorem cmdRetireIsland_ok {n : Nat} (hreq : islandRequest s r 0x0A02 = .ok (auth, n))
    (hother : (List.range s.nIsl).filter s.islOn ≠ [n])
    (hacc : s.accept r 0x0A02 = some (t, o)) :
    cmdRetireIsland s r = .ok ((t.holdAuth o auth).onIsland n fun i => { i with retireOp := some (some o) }) := by
  have hleft : ((List.range s.nIsl).filter s.islOn != [n]) = true := bne_iff_ne.2 hother
  simp only [cmdRetireIsland, hreq, hleft, need_true, except_ok_bind, hacc]

theorem cmdRestoreIsland_ok {n : Nat} (hreq : islandRequest s r 0x0A03 = .ok (auth, n)) (hretired : (s.isl n).retired = true)
    (hload : (s.onIsland n fun i => { i with retired := false, dropped := false }).admitted = true)
    (hstaging : (s.onIsland n fun i => { i with retired := false, dropped := false }).stagingOk = true)
    (hacc : s.accept r 0x0A03 = some (t, o)) :
    cmdRestoreIsland s r = .ok ((t.holdAuth o auth).onIsland n fun i => { i with
      restoreOp := some o, restoreSince := t.now, restoreGood := 0, restoreReady := false, refBad := 0, supBad := 0 }) := by
  simp only [cmdRestoreIsland, hreq, hretired, hload, hstaging, Bool.and_self, need_true, except_ok_bind, hacc]

/-! ## LANE_TEST and HOLDUP_TEST (R491, R71) -/

/-- Lane n retired, all else as before: what the load is measured against. -/
def State.withoutLane (s : State) (n : Nat) : State := s.onLane n fun l => { l with retired := true }

/-- What the actions of LANE_TEST need: retiring one of several lanes, which the load allows or FORCE overrides; restoring a retired
one. -/
structure LaneFits (s : State) (n a : Nat) (force : Bool) : Prop where
  retire : a = 1 → (s.lane n).retired = false ∧ 1 < s.lanesOn
    ∧ (force = true ∨ (s.withoutLane n).load ≤ loadLimit (s.withoutLane n).lanesOn)
  restore : a = 2 → (s.lane n).retired = true
  idle : (s.lane n).op = none

theorem cmdLaneTest_ok {n a : Nat} (hauth : authField r 4 = .ok auth) (hn : n = byteAt r 0) (ha : a = byteAt r 1) (hlow : n ≤ 7)
    (hlow' : a ≤ 2) (hflags : byteAt r 2 < 2) (hzero : isZero r.params 3 1 = true)
    (h5 : order5 s s.time r 0x0A04 (if a = 0 then none else s.opsWhenSealed) 4 auth = .ok s5)
    (hmode : s.mode.mode.responding = true) (hfits : LaneFits s n a (bit (byteAt r 2) 0)) (hacc : s.accept r 0x0A04 = some (t, o)) :
    cmdLaneTest s r = .ok ((t.holdAuth o auth).onLane n fun l => { l with op := some o, opAt := t.now / 256, action := a, passes := 0 })
    := by
  obtain ⟨hretire, hrestore, hidle⟩ := hfits
  have hseveral : (a != 1 || (!(s.lane n).retired && decide (1 < s.lanesOn))) = true := by
    by_cases h : a = 1
    · obtain ⟨hon, hmore, -⟩ := hretire h
      simp [hon, hmore]
    · rw [bne_iff_ne.2 h, Bool.true_or]
  have hload : (a != 1 || bit (byteAt r 2) 0 || decide ((s.withoutLane n).load ≤ loadLimit (s.withoutLane n).lanesOn)) = true := by
    by_cases h : a = 1
    · obtain ⟨-, -, hforce | hroom⟩ := hretire h
      · rw [hforce, Bool.or_true, Bool.true_or]
      · rw [decide_eq_true hroom, Bool.or_true]
    · rw [bne_iff_ne.2 h, Bool.true_or, Bool.true_or]
  have hretired : (a != 2 || (s.lane n).retired) = true := by
    by_cases h : a = 2
    · rw [hrestore h, Bool.or_true]
    · rw [bne_iff_ne.2 h, Bool.true_or]
  unfold State.withoutLane at hload
  subst hn ha
  simp only [cmdLaneTest, hauth, hlow, hlow', flagsWithin_ok (w := 1) hflags, reserved_ok hzero, h5, modeAll_ok hmode, hseveral, hload,
    hretired, hidle, Option.isNone_none, decide_true, Bool.and_self, need_true, except_ok_bind, hacc]

theorem cmdHoldupTest_ok (hasked : Asked s r 0x0A05) (hlen : r.params = []) (hidle : s.power.test = .idle)
    (hservice : s.capService = false) (hacc : s.accept r 0x0A05 = some (t, o)) :
    cmdHoldupTest s r = .ok (t.onPower fun p => { p with test := .waiting, testSince := t.now, testOp := some o }) := by
  obtain ⟨-, hpriv, hmode⟩ := hasked
  simp only [cmdHoldupTest, len_ok (List.length_eq_zero_iff.2 hlen), hpriv, modeAll_ok hmode, hidle, hservice, beq_self_eq_true,
    Bool.not_false, Bool.and_self, need_true, except_ok_bind, hacc]

/-! ## The statement -/

/-- Settles O41: each command passes its checks and gets a handle, which its operation keeps. -/
theorem maintenanceCommandsComplete : Obligations.MaintenanceCommandsComplete := by
  refine ⟨?remap, ?retire, ?restore, ?lane, ?holdup⟩
  case remap =>
    intro s s5 r auth old new htakes hauth hold hnew hlow hlow' hchans h5 hlife hmode hbound h1 h3 hspare hsampled hperiod hfree hroom
    exact exec_of_handle rfl htakes rfl hroom fun t o => cmdRemapChannel_ok hauth hold hnew hlow hlow' hchans h5 hlife hmode
      ⟨hbound, within_ok h1 h3, hspare, hsampled, hperiod, hfree⟩
  case retire =>
    intro s r auth n htakes hreq hother hroom
    exact exec_of_handle rfl htakes rfl hroom fun t o => cmdRetireIsland_ok hreq hother
  case restore =>
    intro s r auth n htakes hreq hretired hload hstaging hroom
    exact exec_of_handle rfl htakes rfl hroom fun t o => cmdRestoreIsland_ok hreq hretired hload hstaging
  case lane =>
    intro s s5 r auth n a htakes hauth hn ha hlow hlow' hflags hzero h5 hmode hretire hrestore hidle hroom
    exact exec_of_handle rfl htakes rfl hroom fun t o => cmdLaneTest_ok hauth hn ha hlow hlow' hflags hzero h5 hmode
      ⟨hretire, hrestore, hidle⟩
  case holdup =>
    intro s r hasked hlen hidle hservice hroom
    exact exec_of_handle_sealSt_eq rfl hasked.1 rfl hroom (fun t o => cmdHoldupTest_ok hasked hlen hidle hservice) (by decide)
      fun _ _ => rfl

end Sys2Proof.Machine
end
